-- ==== Sys2Proof/Word.lean ====
section
/-!
DEFINITION. Sys2Proof/Word.lean: the word and byte of the hub's one 32-bit address space (spec/02_register_pages.md).
-/
namespace Sys2Proof

/-- A 32-bit word: a register, a table word, a word of memory, a Glemi-32 general register. -/
abbrev Word := BitVec 32

/-- A byte of memory. -/
abbrev Byte := BitVec 8

/-- A word from a natural number, modulo 2^32. -/
def w32 (n : Nat) : Word := BitVec.ofNat 32 n

/-- A byte from a natural number, modulo 2^8. -/
def b8 (n : Nat) : Byte := BitVec.ofNat 8 n

end Sys2Proof
end

