-- ==== Sys2Proof/Syntax.lean ====
section
/-!
DEFINITION. Sys2Proof/Syntax.lean: the commands of spec/opcode_table.json, one constructor per row, with their operands: who
sends an access, the instance a command names, the data it carries, and, for an event of the analog world, the pins or
another hub, what the outside presented.
-/
namespace Sys2Proof

/-- The seven bus masters (R17, R21): the cores C0 to C3, the host port, the ring's remote access and the debug port. -/
inductive Master where
  | c0 | c1 | c2 | c3 | host | ring | dbg
deriving DecidableEq, Repr

/-- What a word of the pool presents besides its data when it is read (R230): nothing, a parity error in the word, or one in
the cell's link. -/
inductive Upset where
  | clean | parity | link
deriving DecidableEq, Repr

/-- What one comparator showed in a check (R93): its unswapped output just before and just after, its output under the check,
and whether the input lay within 4 LSB of the threshold. -/
structure Probe where
  before : Bool
  out : Bool
  after : Bool
  near : Bool
deriving DecidableEq, Repr

/-- A character as a port's receiver samples it (R147): its data and parity bits, whether the start bit reads spacing and the
first stop bit marking, whether the three samples of some bit disagree, and TB:FRAC at the first sample of its start bit. -/
structure RxChar where
  data : Nat
  par : Bool
  start : Bool
  stop : Bool
  noise : Bool
  cap : Nat
deriving DecidableEq, Repr

/-- How a transfer ends on the wire (R156): all acknowledged, the address or a byte not acknowledged, another driver, or SDA
stuck low. A port that is no I2C controller ends with `ok`. -/
inductive LineEnd where
  | ok | addrNack | dataNack | arb | stuck
deriving DecidableEq, Repr

/-- The payload of a DATA frame (R327): words of a packet, the first frame's beginning with the descriptor, and their bytes. -/
structure DataFrag where
  first : Bool
  last : Bool
  poison : Bool
  ack : Bool
  pktTrunc : Bool
  pktPoison : Bool
  lane : Nat
  queue : Nat
  bytes : Nat
  words : List Nat
deriving DecidableEq, Repr

/-- The payload of a BEACON (R320); times in 2^−16 tick. -/
structure Beacon where
  origin : Nat
  corr : Int
  hops : Nat
  head : Nat
  prio : Nat
  uid : Nat
  map : Nat
  gen : Nat
deriving DecidableEq, Repr

/-- The payload of an ENUM frame (R313): 0 JOIN, 1 GRANT, 2 HELLO, 3 REFUSE. -/
structure Enum where
  kind : Nat
  uid : Nat
  want : Option Nat
  number : Nat
  hopsE : Nat
  hopsW : Nat
deriving DecidableEq, Repr

/-- What a ring frame carries, by TYPE (R313): TYPE, ARG and payload. -/
inductive FrameBody where
  | data (d : DataFrag)
  | beacon (b : Beacon)
  | pdelayReq
  | pdelayResp (t2 t3 : Nat)
  | enum (e : Enum)
  | regReq (write : Bool) (tag n addr : Nat) (words : List Nat)
  | regResp (tag : Nat) (codes words : List Nat)
  | ack (queue : Nat)
deriving DecidableEq, Repr

/-- A ring frame (R311). -/
structure Frame where
  wraps : Nat := 0
  dst : Nat
  src : Nat
  ttl : Nat := 128
  seq : Nat
  body : FrameBody
deriving DecidableEq, Repr

/-- TYPE of R313. -/
def FrameBody.type : FrameBody → Nat
  | .data _ => 0
  | .beacon _ => 1
  | .pdelayReq => 2
  | .pdelayResp _ _ => 3
  | .enum _ => 4
  | .regReq _ _ _ _ _ => 5
  | .regResp _ _ _ => 6
  | .ack _ => 7

/-- The fields of a frame lie in their widths. -/
def Frame.ok (f : Frame) : Bool :=
  decide (f.wraps < 4) && decide (f.dst < 256) && decide (f.src < 256) && decide (f.ttl < 256) && decide (f.seq < 65536) &&
  match f.body with
  | .data d => decide (d.lane < 4) && decide (d.queue < 512) && decide (d.bytes ≤ 1024) && decide (d.words.length = (d.bytes + 3) / 4)
      && d.words.all (fun w => decide (w < 2 ^ 32)) && (!d.first || decide (4 ≤ d.bytes))
  | .beacon b => decide (b.origin < 2 ^ 80) && decide (-(2 ^ 47) ≤ b.corr) && decide (b.corr < 2 ^ 47) && decide (b.hops < 256)
      && decide (b.head < 64) && decide (b.prio < 16) && decide (b.uid < 2 ^ 64) && decide (b.map < 2 ^ 64) && decide (b.gen < 2 ^ 32)
  | .pdelayReq => true
  | .pdelayResp t2 t3 => decide (t2 < 2 ^ 80) && decide (t3 < 2 ^ 80)
  | .enum e => decide (e.kind < 4) && decide (e.uid < 2 ^ 64) && decide (e.want.getD 0 < 64) && decide (e.number < 64)
      && decide (e.hopsE < 256) && decide (e.hopsW < 256)
  | .regReq w tag n addr ws => decide (tag < 256) && decide (1 ≤ n) && decide (n ≤ 16) && decide (addr < 2 ^ 32)
      && decide (ws.length = if w then n else 0) && ws.all (fun x => decide (x < 2 ^ 32))
  | .regResp tag cs ws => decide (tag < 256) && decide (cs.length = 16) && decide (ws.length ≤ 16)
      && cs.all (fun x => decide (x < 4)) && ws.all (fun x => decide (x < 2 ^ 32))
  | .ack q => decide (q < 512)

/-- What the memories present to one read besides data: a byte of a TCM with bad parity (R262), and what a word of the pool presents
(R230). -/
structure Sense where
  par : Bool := false
  up : Upset := .clean
deriving DecidableEq, Repr

/-- A fetch that meets bad parity of the core's own TCM (R262), or fails otherwise (R263): at PC or at the word after it. -/
structure FetchBad where
  second : Bool := false
  par : Bool := false
deriving DecidableEq, Repr

/-- What the memories present to one step of a halted core (R270): to its fetch, and to the accesses of its instruction. -/
structure StepSense where
  bad : Option FetchBad := none
  x : Sense := {}
  y : Sense := {}
deriving DecidableEq, Repr

/-- An edge of PPS_IN as the updates of TB sampled it (R38): whether it falls, TB at its first sample, and for how many samples its new level held. -/
structure PpsEdge where
  falling : Bool
  cap : Nat
  held : Nat
deriving DecidableEq, Repr

/-- The edges of a counter's pin since the last update of TB (R53). -/
structure PinEdges where
  rises : Nat := 0
  falls : Nat := 0
deriving DecidableEq, Repr

/-- What a channel's source presented since its last output (R64): its bits, whether nothing drove its PDM pin meanwhile (R76), whether a descriptor
or filter state word that enters with them carries a parity error (R223), and the single-bit errors of its state words that were corrected (R360). -/
structure SourceBits where
  bits : List Bool := []
  undriven : Bool := false
  poison : Bool := false
  corr : Nat := 0
deriving DecidableEq, Repr

/-- What comes with a multi-bit sample: POISON (R223), and the single-bit errors of the channel's state words corrected meanwhile (R360). -/
structure SampleMarks where
  poison : Bool := false
  corr : Nat := 0
deriving DecidableEq, Repr

/-- A read of EVC.TAKEt (R247): its target, and what the memory of the record ring presents. -/
structure TakeRead where
  target : Nat
  x : Sense := {}
deriving DecidableEq, Repr

/-- A write of DBG.STEP (R270): the word, and what the memories present to the step of each core it names. -/
structure StepWrite where
  word : Word
  xs : List StepSense := []
deriving DecidableEq, Repr

/-- A string instruction (R284): its kind, the code of its element size, and rv. -/
structure StrOp where
  kind : Nat
  size : Nat
  rv : Nat
deriving DecidableEq, Repr

/-- The forms that R284 defines: kinds 0 to 5, sizes 0 to 2, rv 0 where it is reserved, and w11 to w13 never written by LDS or STS. -/
def StrOp.ok (o : StrOp) : Bool :=
  decide (o.kind < 6) && decide (o.size < 3) && decide (o.rv < 16) && (!(o.kind == 0 || o.kind == 3) || o.rv == 0)
    && !(decide (4 ≤ o.kind) && decide (11 ≤ o.rv) && decide (o.rv ≤ 13))

/-- The commands: one constructor per row of the table. -/
inductive Instr where
  /-- COLD_RESET (R335): Power-on or supply return resets everything except Hearth, then runs the bring-up sequence of clocks, TCM clear, journal scan and staged restore. -/
  | coldReset (straps : Nat) (head : Bool)
  /-- WARM_RESET (R338): RESET_N held low resets all pages except TB, CMP, BBOX and the AON domain, which keep running, then restores the other pages. -/
  | warmReset
  /-- WARM_RESET_GO (R9): A write of SYS.WARM_RESET.GO = 1 performs a software WARM reset of the hub. -/
  | warmResetGo (m : Master)
  /-- PAGE_RESTORE (R337): A page applies its restored Kept image, starts its block and sets READY. -/
  | pageRestore (p : Nat)
  /-- SOFT_RESET (R22): A write of PG_CTRL.SOFT_RESET = 1 clears READY, performs a PAGE reset and sets READY again within its bound. -/
  | softReset (m : Master) (p : Nat)
  /-- COMMIT (R342): A write of PG_CTRL.COMMIT = 1 sets BUSY and places the page in Hearth's commit queue. -/
  | commit (m : Master) (p : Nat) (v : Word)
  /-- COMMIT_DONE (R342): Hearth finishes a queued commit with a FULL or DELTA record, an UNCHANGED result or a failure. -/
  | commitDone (bad : Nat)
  /-- COMMIT_CREDIT (R343): Each second of TB every page gains one commit credit, up to 8. -/
  | commitCredit
  /-- COMPACTION_DONE (R346): A compaction rewrites the FULL records needed from the oldest FULL segment, then marks that segment OBSOLETE and erases it. -/
  | compactionDone
  /-- ERASE_ALL (R348): An admitted HEARTH.CMD.ERASE_ALL waits for the running commit, erases every journal segment and clears every page's generation. -/
  | eraseAll (m : Master) (v : Word)
  /-- COMPACT (R348): HEARTH.CMD.COMPACT = 1 starts one compaction while no commit runs. -/
  | compact (m : Master) (v : Word)
  /-- PG_KEY_WRITE (R23): A write to PG_KEY advances, completes or breaks the two-word unlock sequence of the page. -/
  | pgKeyWrite (m : Master) (p : Nat) (v : Word)
  /-- UNLOCK_EXPIRE (R23): An unlock that admits no write within 1,024 BUS cycles ends. -/
  | unlockExpire (m : Master) (p : Nat)
  /-- REGISTER_WRITE (R6): A direct write to a register or table word that has no row of its own acts by the field access codes, subject to locks, READY and bus-error rules. -/
  | registerWrite (m : Master) (a : Nat) (n : Nat) (v : Word)
  /-- ALIAS_WRITE (R20): A write through the set or clear alias performs an atomic bitwise read-modify-write of the page's fields. -/
  | aliasWrite (m : Master) (a : Nat) (v : Word)
  /-- READ_CLEAR (R6): A direct read of an RC field returns its value and clears it, or restarts a tracking field from the present value. -/
  | readClear (m : Master) (a : Nat) (n : Nat) (x : Sense)
  /-- REF_OK (R30): After 4,096 consecutive reference cycles with no missing edge, CLK_STAT.REF_OK sets and VCO band calibration starts. -/
  | refOk
  /-- VCO_BAND_CALIBRATION (R30): VCO band calibration ends after 512 reference cycles and the band is chosen. -/
  | vcoBand
  /-- PLL_LOCK (R30): Phase error below 1 ns for 1,024 consecutive reference cycles sets PLL_LOCK. -/
  | pllLock
  /-- DIVIDER_RELEASE (R31): At the next alignment edge Bellows releases every PLL divider, records ALIGN and switches TB to PLL clocking. -/
  | dividerRelease
  /-- PLL_LOCK_LOST (R32): Phase error above 4 ns for 16 reference cycles switches the domains to reference clocking, stops CORE, idles the ring and restarts PLL lock. -/
  | pllLockLost
  /-- REF_LOST (R33): No reference edge for 2 µs stops every domain except AON and HOSTSPI and puts TB into coast. -/
  | refLost
  /-- REF_RESTORED (R33): The returning reference restarts PLL bring-up and the hub resumes as on exit from DOZE, raising source 577. -/
  | refRestored
  /-- XTAL32_FAIL (R33): No 32.768 kHz edge for 4 ms clears XTAL32_OK, sets XTAL32_FAIL and raises source 578. -/
  | xtalFail
  /-- XTAL_MEAS (R44): At the end of each crystal measurement window Bellows stores XTAL_MEAS and recomputes COAST_INC. -/
  | xtalMeas
  /-- TB_SNAP (R37): A write of TB.SNAP.GO = 1 captures TB and FRAC into SNAP_LO, SNAP_HI and SNAP_FRAC. -/
  | tbSnap (m : Master)
  /-- TB_NOW_LO_READ (R37): A read of TB.NOW_LO returns TB[31:0] and latches TB[63:32] and FRAC into the master's shadow. -/
  | tbNowLoRead (m : Master)
  /-- TB_NOW_HI_READ (R37): A read of TB.NOW_HI returns the shadow after a NOW_LO read, or else the live word and sets TORN_RISK. -/
  | tbNowHiRead (m : Master)
  /-- PPS_CAPTURE (R40): An accepted PPS_IN edge stores the capture, computes the phase error against EXP and advances EXP. -/
  | ppsCapture (edge : PpsEdge)
  /-- PPS_MISSING (R40): No edge accepted by EXP + WINDOW counts a miss, raises source 609 and advances EXP. -/
  | ppsMissing
  /-- PPS_CAP_LO_READ (R39): A read of PPS_CAP_LO returns the capture, latches PPS_CAP_HI for the master and clears FULL. -/
  | ppsCapLoRead (m : Master)
  /-- PPS_EXP_COMMIT (R40): A write to PPS_EXP_HI commits the expected-second pair and sets EXP_VALID. -/
  | ppsExpCommit (m : Master) (v : Word)
  /-- TB_LOAD (R46): An admitted TB.CMD.LOAD sets TB to LOAD at the next TB update, sets STEPPED, clears LOCKED and applies each compare channel's LOADMODE. -/
  | tbLoad (m : Master)
  /-- CMP_MATCH (R48): An armed compare channel matches when TB reaches CMP and delivers a strobe with its nominal instant to every consumer. -/
  | cmpMatch (n : Nat)
  /-- CMP_ADVANCE_DONE (R49): A periodic channel's advance installs the new CMP, counting skipped instants, and testing resumes. -/
  | cmpAdvanceDone (n : Nat)
  /-- CMP_COMMIT (R50): A write to CMPn_HI commits the compare value, cancelling a pending arming or advance, and matches at once with LATE if already passed. -/
  | cmpCommit (m : Master) (n : Nat) (v : Word)
  /-- PER_COMMIT (R50): A write to PERn_HI commits PERIOD for the next advance. -/
  | perCommit (m : Master) (n : Nat) (v : Word)
  /-- PHASE_COMMIT (R50): A write to PHASEn_HI commits PHASE for the next advance. -/
  | phaseCommit (m : Master) (n : Nat) (v : Word)
  /-- CMP_ARM (R51): Setting ARM from 0 to 1 arms the channel on its CMP, or with ALIGN computes CMP on the PHASE grid. -/
  | cmpArm (m : Master) (n : Nat) (v : Word)
  /-- CMP_ALIGN_DONE (R51): An aligned arming places its computed CMP and clears PENDING. -/
  | cmpAlignDone (n : Nat)
  /-- LC_COUNT_EVENT (R53): A selected source, pin edge, monitor edge or prescaler count advances a running linked counter. -/
  | lcCountEvent (n : Nat) (k : PinEdges)
  /-- LC_MATCH (R54): COUNT passing MATCH sets MATCHED and performs the enabled match actions. -/
  | lcMatch (n : Nat) (k : PinEdges)
  /-- LC_OVERFLOW (R54): COUNT wrapping past its top sets OVERFLOWED and performs the enabled overflow actions. -/
  | lcOverflow (n : Nat) (k : PinEdges)
  /-- LC_LINK_ACTION (R55): A link or master action arrives at its target counter one cycle later and applies in the order stop, reset, start, advance, capture. -/
  | lcLinkAction (n : Nat)
  /-- LC_SNAP (R59): A write of LC.SNAP with GO captures the named counter or pair into SNAP_LO and SNAP_HI. -/
  | lcSnap (m : Master) (v : Word)
  /-- LC_COUNT_READ (R58): A read of a chained pair's COUNT or CAP word uses the master's shadow and sets TORN_RISK on a live high read. -/
  | lcCountRead (m : Master) (n : Nat)
  /-- LC_CAP_READ (R60): A read of CAP clears FULL and latches the high word of a pair. -/
  | lcCapRead (m : Master) (n : Nat)
  /-- OVERLOAD (R67): A modulator at its limit for 16 bits is reset, sets OVERLOAD and raises source 112 + n. -/
  | overload (n : Nat)
  /-- OPEN (R68): With BURNOUT on, 4,096 consecutive ones set OPEN and raise source 112 + n. -/
  | openInput (n : Nat)
  /-- REF_FAULT (R69): An input whose reference becomes unavailable delivers zeros and sets REF_FAULT. -/
  | refFault (r : Nat)
  /-- VEXC_OC (R70): An excitation output over its current limit is latched off, sets VEXC_OC and raises source 181. -/
  | vexcOc (k : Nat)
  /-- IEXC_CMPL (R71): A current source out of compliance for 1 ms sets IEXC_CMPL and raises source 181. -/
  | iexcCmpl (j : Nat)
  /-- PDM_STUCK (R76): A stream unchanged for STUCK_LEN × 1,024 bits sets PDM_STUCK, raises source 184 + p and marks outputs CLIPPED. -/
  | pdmStuck (t : Nat)
  /-- HK_GO (R77): A write of HK_CTRL.GO = 1 starts one housekeeping scan. -/
  | hkGo (m : Master) (v : Word)
  /-- HK_ENTRY_DONE (R78): A housekeeping conversion completes, writes its result and optionally emits it into a channel. -/
  | hkEntryDone (v : Word)
  /-- HK_STALE (R356): No temperature result for 50 ms sets HK_STALE and applies stage 2. -/
  | hkStale
  /-- THERMAL_TRIP_145 (R357): The analog comparator at 145 °C starts stage 4 shutdown within 20 µs. -/
  | thermalTrip
  /-- SM_START (R79): SM_CTRLk.START = 1 starts or refuses a zero-gap recalibration of the target input. -/
  | smStart (m : Master) (k : Nat) (v : Word)
  /-- SM_ABORT (R83): SM_CTRLk.ABORT = 1 releases the spare at once or drains back to the primary, ending with ABORTED. -/
  | smAbort (m : Master) (k : Nat) (v : Word)
  /-- SM_STATE_ADVANCE (R80): A recalibration state completes its output count and moves to the next state, switching delivery and writing corrections at REFILL. -/
  | smStateAdvance (k : Nat)
  /-- SM_FAIL (R83): A spare overload or failure ends the recalibration with FAIL_SM and sets SM_FAIL. -/
  | smFail (k : Nat)
  /-- COMPARATOR_CHANGE (R87): A window-monitor comparator asserts or releases as the input crosses its threshold and hysteresis. -/
  | comparatorChange (n : Nat) (nv : Nat)
  /-- FIRST_EVALUATION (R88): A comparator's first evaluation against the band centre completes and fills the filter history. -/
  | firstEvaluation (n : Nat) (nv : Nat)
  /-- FILTERED_EDGE (R90): The majority filter changes state and sets the HI or LO rise or fall flag. -/
  | filteredEdge (n : Nat) (k : Nat)
  /-- CHECK_SWAP (R93): WM.CHECKn.CMD = 1 checks each enabled comparator with input and DAC swapped. -/
  | checkSwap (m : Master) (n : Nat)
  /-- CHECK_ZERO (R93): WM.CHECKn.CMD = 2 checks the comparators with the input tied to 0 V. -/
  | checkZero (m : Master) (n : Nat)
  /-- CHECK_HALF (R93): WM.CHECKn.CMD = 3 checks the comparators with the input tied to VREF/2. -/
  | checkHalf (m : Master) (n : Nat)
  /-- CHECK_FULL (R93): WM.CHECKn.CMD = 4 checks the comparators with the input tied to VREF. -/
  | checkFull (m : Master) (n : Nat)
  /-- CHECK_DONE (R93): A comparator check ends and writes PASS, FAIL or INCONCLUSIVE. -/
  | checkDone (n : Nat) (hi : Probe) (lo : Probe)
  /-- PG_START (R97): A write of PG.START starts a running generator's periods or restarts them under RESTART. -/
  | pgStart (m : Master) (v : Word)
  /-- PG_PERIOD_START (R96): A generator period begins on its grid, setting PERIOD_EVT and ending after NPER periods. -/
  | pgPeriodStart (g : Nat)
  /-- PG_EDGE (R98): An output edge falls due at its scheduled TB and the output changes level. -/
  | pgEdge (g : Nat)
  /-- TRIP (R99): A selected trip line asserting outside blanking drives the output to SAFE, sets TRIPPED, CAUSE and TRIP_EVT and writes a black-box record. -/
  | trip (g : Nat)
  /-- BLANK_END (R92): The blanking time after an active edge ends and a still-asserted trip line trips the generator. -/
  | blankEnd (g : Nat)
  /-- DUTY_TRIP (R101): The sliding active-time sum exceeding DUTY_MAX × 512,000 trips the generator with CAUSE = 2. -/
  | dutyTrip (g : Nat)
  /-- TRIP_CLEAR (R100): A write of 1 to PG.TRIPPED clears the trip, LOCKOUT and RETRIES. -/
  | tripClear (m : Master) (v : Word)
  /-- CHANNEL_ENABLE (R117): A write changing descriptor EN from 0 to 1 starts admission of the channel. -/
  | channelEnable (m : Master) (c : Nat) (v : Word)
  /-- ADMISSION (R117): Admission ends with the channel in WAIT_SYNC or refused with REASON, ADMIT_REFUSED and source 512. -/
  | admission (c : Nat)
  /-- CHANNEL_DISABLE (R117): A write changing EN from 1 to 0 puts the channel in STOPPING. -/
  | channelDisable (m : Master) (c : Nat) (v : Word)
  /-- CHANNEL_STOP_DONE (R117): A stopping channel delivers begun outputs, closes its batch and goes OFF, releasing its load. -/
  | channelStopDone (c : Nat)
  /-- DESCRIPTOR_WRITE (R118): A write to descriptor words of an active channel applies, is locked, or as an admitted write is checked and restarts the channel. -/
  | descriptorWrite (m : Master) (c : Nat) (j : Nat) (v : Word)
  /-- GROUP_SYNC (R132): ANV_SCHED.SYNC with GO requests a SYNC of every running channel on the named compare channel at its next match. -/
  | groupSync (m : Master) (k : Nat)
  /-- CHANNEL_OUTPUT (R115): The output stage formats, corrects and stamps an output, passes it to Hardy slots and writes it to its queue or batch. -/
  | channelOutput (c : Nat) (bs : SourceBits) (sp : (List Bool)) (st : (List Bool))
  /-- SAMPLE_ARRIVAL (R122): A multi-bit sample arrives at a channel's input FIFO, or is dropped with OVERRATE when the FIFO is full. -/
  | sampleArrival (c : Nat) (v : Word) (stamp : Nat) (clip : Bool) (marks : SampleMarks)
  /-- DEADLINE_MISS (R122): A one-bit block overwritten before it is stepped sets DEADLINE_MISS, flags GAP and restarts the filter. -/
  | deadlineMiss (c : Nat)
  /-- DCSUM_UPDATE (R111): After a write to a bank or its TAPS the hub updates DCSUMb. -/
  | dcsumUpdate (b : Nat)
  /-- SWAP (R135): ANV_SCHED.SWAP with GO requests a cross-fade to a new bank, which is accepted, queued or refused. -/
  | swap (m : Master) (v : Word)
  /-- FADE_DONE (R135): The L-th fade output completes the swap, sets BANK, recomputes load, raises source 516 and starts any queued swap. -/
  | fadeDone (c : Nat)
  /-- RETUNE (R137): ANV_SCHED.RETUNE with GO requests a retune to the standby descriptor, which is accepted or refused. -/
  | retune (m : Master) (c : Nat)
  /-- RETUNE_SWITCH (R137): The new filter reaches its first delivered output, the old filter stops, the descriptors exchange and RETUNE_RESULT is set. -/
  | retuneSwitch (c : Nat)
  /-- HARDY_UPDATE (R188): A Hardy lane takes an update from its FIFO and updates the slot's features, attachment and sub-windows. -/
  | hardyUpdate (lane : Nat)
  /-- SLOT_ENABLE (R190): Setting slot EN from 0 to 1 checks the entry and restarts the slot or refuses it. -/
  | slotEnable (m : Master) (n : Nat) (v : Word)
  /-- SLOT_CONFIG_WRITE (R201): A write to an enabled slot's fields takes effect at the next update, restarting or refusing as the field requires. -/
  | slotConfigWrite (m : Master) (n : Nat) (j : Nat) (v : Word)
  /-- HARDY_SLOT_READ (R200): A read of slot word 8 latches words 9 to 15 into the master's shadow. -/
  | hardySlotRead (m : Master) (n : Nat)
  /-- EVALUATION_POINT (R209): The rule stage takes a point from its FIFO and evaluates every enabled rule it concerns in ascending order. -/
  | evaluationPoint
  /-- RULE_WRITE (R208): A write of word 0 or word 3 of a rule clears its hidden state and takes effect from the next point. -/
  | ruleWrite (m : Master) (r : Nat) (j : Nat) (v : Word)
  /-- EVENT (R212): The action unit writes one EVENT packet to the action's queue and lane. -/
  | event
  /-- LINE_SET (R213): The action unit sets Hardy line HLn. -/
  | lineSet
  /-- LINE_CLEAR (R213): The action unit clears Hardy line HLn. -/
  | lineClear
  /-- PG_START_ACTION (R211): The action unit starts the named pulse generator under R97. -/
  | pgStartAction
  /-- BURST (R214): The action unit places a rewind mark PRE before the trigger and begins counting post-trigger packets, or reports BUSY. -/
  | burst
  /-- BURST_END (R214): A burst ends after POST packets or on mark loss and writes a BURST packet to its notice queue. -/
  | burstEnd
  /-- RETUNE_ACTION (R211): The action unit requests a retune of the named channel as a write of ANV_SCHED.RETUNE. -/
  | retuneAction
  /-- FLAG_SET (R211): The action unit sets a SEQ.FLAGS bit. -/
  | flagSet
  /-- FLAG_CLEAR (R211): The action unit clears a SEQ.FLAGS bit. -/
  | flagClear
  /-- CHAR_RECEIVED (R147): A port receiver takes a character, checking noise, parity, framing and break, and stores it in the receive FIFO. -/
  | charReceived (p : Nat) (c : RxChar)
  /-- NMEA_SENTENCE (R154): A received LF ends an NMEA sentence, whose checksum and length are checked before delivery. -/
  | nmeaSentence (p : Nat) (c : RxChar)
  /-- MODBUS_FRAME_END (R155): T3.5 of idle line ends a Modbus frame, whose CRC is checked before delivery. -/
  | modbusFrameEnd (p : Nat)
  /-- I2C_STRETCH_TO (R156): A target holding SCL longer than STRETCH_TO ends the transfer with a STOP attempt and sets I2C_STRETCH_TO. -/
  | i2cStretchTo (p : Nat)
  /-- SDI_RESP_WAIT (R151): No reply start bit within RESP_WAIT of the end of command ends the receive as timed out. -/
  | sdiRespWait (p : Nat)
  /-- SDI_GAP (R151): More than 1.66 ms of marking between reply characters sets SDI_GAP and ends the receive. -/
  | sdiGap (p : Nat)
  /-- PUMP_OK (R152): The SDI-12 charge pump becomes ready and held sends proceed. -/
  | pumpOk
  /-- PUMP_FAULT (R152): Pump output below 4.5 V for 1 ms sets PUMP_FAULT, ends sends and holds lines at marking. -/
  | pumpFault
  /-- SPI_AUTO_GO (R159): A write of SPI_AUTO.GO = 1 starts an automatic SPI read at the granted BUS cycle. -/
  | spiAutoGo (m : Master) (p : Nat) (v : Word)
  /-- SPI_AUTO_STOP (R159): A write of SPI_AUTO.STOP = 1 ends the automatic read after the word in flight. -/
  | spiAutoStop (m : Master) (p : Nat) (v : Word)
  /-- SPI_AUTO_WORD (R159): An automatic read's word falls due on its grid, is framed, stamped and handed to its channel. -/
  | spiAutoWord (p : Nat) (w : Word)
  /-- SEQ_START (R165): A write of SEQ.START starts a context at its entry or counts a missed start. -/
  | seqStart (m : Master) (v : Word)
  /-- SEQ_STOP (R185): A write of SEQ.STOP returns the context to IDLE at once and discards its stage. -/
  | seqStop (m : Master) (v : Word)
  /-- END (R177): END ends the program, sets DONE and returns the context to IDLE. -/
  | opEnd (n : Nat)
  /-- SEND (R168): SEND issues its literal bytes on the port with address substitution and optional stamp. -/
  | opSend (n : Nat)
  /-- SEND_DONE (R168): The transmission of a SEND ends, setting ST and RR and latching the stamp. -/
  | sendDone (n : Nat) (cap : Nat) (e : LineEnd) (rx : (List Word))
  /-- BREAK (R169): BREAK issues a break and marking on the line. -/
  | opBreak (n : Nat)
  /-- BREAK_DONE (R169): The break and marking of a BREAK end. -/
  | breakDone (n : Nat)
  /-- WAIT (R169): WAIT starts a wait of COUNT µs or ms. -/
  | opWait (n : Nat)
  /-- WAIT_DONE (R169): A WAIT ends at the first turn at or after its time. -/
  | waitDone (n : Nat)
  /-- RECV (R170): RECV clears or appends to the reply buffer and starts taking input until its END condition or timer. -/
  | opRecv (n : Nat)
  /-- RECV_DONE (R170): A RECV's END condition holds and it completes, setting ST and RR. -/
  | recvDone (n : Nat) (cap : Nat) (e : LineEnd) (rx : (List Word))
  /-- RECV_TIMEOUT (R170): A RECV's timer expires, ending it with TIMEOUT and RR = SILENT if nothing arrived. -/
  | recvTimeout (n : Nat)
  /-- MATCH (R172): MATCH compares or searches its literal in the reply buffer and moves CUR on success. -/
  | opMatch (n : Nat)
  /-- PARSE (R173): PARSE skips separators and reads one field into a stage entry or register. -/
  | opParse (n : Nat)
  /-- EMIT (R174): EMIT delivers the stage entries to their channels as stamped multi-bit samples. -/
  | opEmit (n : Nat)
  /-- RETRY (R175): RETRY jumps to TARGET while RC < N, else clears RC and falls through. -/
  | opRetry (n : Nat)
  /-- BR (R175): BR jumps to TARGET when its condition holds. -/
  | opBr (n : Nat)
  /-- ADDR (R176): ADDR sets the bus address or searches the next address meeting SEL. -/
  | opAddr (n : Nat)
  /-- ATTEND (R180): ATTEND updates the attendance entry of the port and address from RR, with optional identity hash. -/
  | opAttend (n : Nat)
  /-- SETV (R177): SETV sets or adds to a register or moves between a register and A. -/
  | opSetv (n : Nat)
  /-- SIGNAL (R177): SIGNAL sets or clears a poll flag or raises a context event with a code. -/
  | opSignal (n : Nat)
  /-- CUR (R172): CUR sets, adds to or moves the cursor to the end, clamping with RANGE. -/
  | opCur (n : Nat)
  /-- RAW (R177): RAW writes the reply buffer as one RAW packet to the configured queue. -/
  | opRaw (n : Nat)
  /-- ATT_CLEAR (R183): A write of ATT.CLEAR clears every entry of the port without raising LEAVE. -/
  | attClear (m : Master) (v : Word)
  /-- WR_OPEN (R240): A write of WR_OPEN with GO opens a software packet on the port, or refuses it. -/
  | wrOpen (m : Master) (v : Word)
  /-- WR_DATA (R240): A write of WR_DATA appends one word to the open packet. -/
  | wrData (m : Master) (v : Word)
  /-- WR_CLOSE (R240): A write of WR_CLOSE closes the packet with its length, pad and TRUNC. -/
  | wrClose (m : Master) (v : Word)
  /-- RD_DATA (R240): A read of RD_DATA takes the next word of the selected queue and latches its tag. -/
  | rdData (m : Master) (u : Upset)
  /-- SKIP (R240): A write of RD_CTRL.SKIP abandons the packet in progress. -/
  | skip (m : Master)
  /-- MARK (R233): QCMD OP 1 places the queue's rewind mark. -/
  | mark (m : Master) (q : Nat) (lane : Nat)
  /-- REWIND (R233): QCMD OP 2 returns the read position of the mark's lane to the mark. -/
  | rewind (m : Master) (q : Nat) (lane : Nat)
  /-- RELEASE (R233): QCMD OP 3 clears the mark and frees read packets it held. -/
  | release (m : Master) (q : Nat)
  /-- FLUSH (R233): QCMD OP 4 frees every closed readable packet, clears the mark and abandons the packet in progress. -/
  | flush (m : Master) (q : Nat)
  /-- CELL_TEST_DONE (R376): A background test of a suspect pool cell ends, returning it to the free list or retiring it. -/
  | cellTestDone (c : Nat) (pass : Bool)
  /-- NOTICE_RELEASE (R302): A held notice is released when MAX_HOLD expires. -/
  | noticeRelease (q : Nat)
  /-- SOURCE_ASSERT (R242): An event source asserts under its sense, setting PEND for its targets or coalescing. -/
  | sourceAssert (n : Nat)
  /-- REARM_EXPIRE (R243): The REARM interval after a source's last append ends and the source becomes eligible again. -/
  | rearmExpire (n : Nat) (t : Nat)
  /-- RECORD_APPEND (R244): A target appends the record of its highest-level eligible source to its record queue and sets OUT. -/
  | recordAppend (t : Nat)
  /-- TAKE (R247): A read of EVC.TAKEn moves the oldest untaken record into service and pushes its level on the stack. -/
  | take (m : Master) (t : TakeRead)
  /-- EOI (R248): A write of EVC.EOIt completes the record at the top of the stack and pops it. -/
  | eoi (m : Master) (t : Nat) (level : Nat)
  /-- STACK_RESET (R250): A write of STACK_RESETt empties and unfreezes the stack and abandons records in service. -/
  | stackReset (m : Master) (t : Nat)
  /-- SOURCE_ENTRY_WRITE (R369): A write of a source entry's word 0 changes level, sense or targets, moving pending state between targets when it can. -/
  | sourceEntryWrite (m : Master) (n : Nat) (v : Word)
  /-- WAKE_LATCH (R252): An assertion of a WAKE source while the BUS clock is stopped sets its AON latch and requests a wake. -/
  | wakeLatch (n : Nat)
  /-- CORE_RESET (R266): A write of CORE.CTRL.RESET = 1 resets the core's registers, sets PC to START_PC and clears its event targets. -/
  | coreReset (m : Master) (n : Nat) (v : Word)
  /-- FENCE (R266): A write of CTRL.FENCE = 1 stops the core at once and abandons its bus access. -/
  | fence (m : Master) (n : Nat) (v : Word)
  /-- CORE_RUN (R266): A write of CTRL.RUN = 1 starts a core held in RESET. -/
  | coreRun (m : Master) (n : Nat) (v : Word)
  /-- WDOG_KICK (R267): A write to WDOG_KICK restarts the watchdog on the correct key or sets BAD_KICK. -/
  | wdogKick (m : Master) (n : Nat) (v : Word)
  /-- WDOG_WARN (R267): The watchdog's first stage expires, raising source 592 + n and starting stage 2. -/
  | wdogWarn (n : Nat)
  /-- WDOG_EXPIRE (R267): Stage 2 expires and applies ACTION: none, fence and core reset, or WARM reset. -/
  | wdogExpire (n : Nat)
  /-- EVENT_EXCEPTION (R265): With the event line high and IE = 1 the core takes EVENT at the next instruction or iteration boundary. -/
  | eventException (n : Nat)
  /-- WAIT_WAKE (R265): A core in WAIT resumes when its event line rises. -/
  | waitWake (n : Nat)
  /-- HALT (R270): A write to DBG.HALT halts or resumes a core at its next boundary. -/
  | halt (m : Master) (v : Word)
  /-- STEP (R270): A write to DBG.STEP executes one instruction or one repeat iteration of a halted core. -/
  | step (m : Master) (v : StepWrite)
  /-- REG_DATA (R270): An access to DBG.REG_DATA reads or writes the selected register of a halted core, or sets NOT_HALTED. -/
  | regData (m : Master) (wr : Bool) (v : Word)
  /-- EXTEST (R269): TAP instruction EXTEST selects boundary scan for external test. -/
  | extest
  /-- SAMPLE_PRELOAD (R269): TAP instruction SAMPLE/PRELOAD selects boundary scan for sampling. -/
  | samplePreload
  /-- IDCODE (R269): TAP instruction IDCODE selects the 32-bit identity register. -/
  | idcode
  /-- DBGACC (R269): TAP DBGACC Update-DR performs a read or write as master DBG and reports its response. -/
  | dbgacc (op : Nat) (a : Nat) (v : Word) (x : Sense)
  /-- BYPASS (R269): TAP instruction BYPASS selects the one-bit bypass register. -/
  | bypass (ir : Nat)
  /-- ADD (R274): ADD writes ra + rb to rd and sets NZCV. -/
  | add (n : Nat) (rd : Nat) (ra : Nat) (rb : Nat)
  /-- ADC (R274): ADC writes ra + rb + C to rd and sets NZCV. -/
  | adc (n : Nat) (rd : Nat) (ra : Nat) (rb : Nat)
  /-- SUB (R274): SUB writes ra − rb to rd and sets NZCV. -/
  | sub (n : Nat) (rd : Nat) (ra : Nat) (rb : Nat)
  /-- SBC (R274): SBC writes ra − rb − (1 − C) to rd and sets NZCV. -/
  | sbc (n : Nat) (rd : Nat) (ra : Nat) (rb : Nat)
  /-- CMP (R274): CMP sets NZCV from ra − rb. -/
  | cmp (n : Nat) (ra : Nat) (rb : Nat)
  /-- NEG (R277): NEG writes 0 − ra to rd with defined flags at its edge. -/
  | neg (n : Nat) (rd : Nat) (ra : Nat)
  /-- AND (R274): AND writes ra AND rb to rd and sets NZ. -/
  | andR (n : Nat) (rd : Nat) (ra : Nat) (rb : Nat)
  /-- OR (R274): OR writes ra OR rb to rd and sets NZ. -/
  | orR (n : Nat) (rd : Nat) (ra : Nat) (rb : Nat)
  /-- XOR (R274): XOR writes ra XOR rb to rd and sets NZ. -/
  | xorR (n : Nat) (rd : Nat) (ra : Nat) (rb : Nat)
  /-- ANDN (R274): ANDN writes ra AND NOT rb to rd and sets NZ. -/
  | andnR (n : Nat) (rd : Nat) (ra : Nat) (rb : Nat)
  /-- NOT (R274): NOT writes NOT ra to rd and sets NZ. -/
  | notR (n : Nat) (rd : Nat) (ra : Nat)
  /-- TST (R274): TST sets NZ from ra AND rb. -/
  | tst (n : Nat) (ra : Nat) (rb : Nat)
  /-- MOV (R274): MOV copies ra to rd. -/
  | mov (n : Nat) (rd : Nat) (ra : Nat)
  /-- LSL (R275): LSL shifts ra left by the full count in rb with defined results for large counts. -/
  | lsl (n : Nat) (rd : Nat) (ra : Nat) (rb : Nat)
  /-- LSR (R275): LSR shifts ra right logically by the count in rb. -/
  | lsr (n : Nat) (rd : Nat) (ra : Nat) (rb : Nat)
  /-- ASR (R275): ASR shifts ra right arithmetically by the count in rb. -/
  | asr (n : Nat) (rd : Nat) (ra : Nat) (rb : Nat)
  /-- ROR (R275): ROR rotates ra right by the count in rb. -/
  | ror (n : Nat) (rd : Nat) (ra : Nat) (rb : Nat)
  /-- MUL (R276): MUL writes the low word of ra × rb and sets NZ and V. -/
  | mul (n : Nat) (rd : Nat) (ra : Nat) (rb : Nat)
  /-- MULHS (R274): MULHS writes the high word of the signed product. -/
  | mulhs (n : Nat) (rd : Nat) (ra : Nat) (rb : Nat)
  /-- MULHU (R274): MULHU writes the high word of the unsigned product. -/
  | mulhu (n : Nat) (rd : Nat) (ra : Nat) (rb : Nat)
  /-- DIVS (R277): DIVS writes the signed remainder and quotient with defined results for zero and overflow. -/
  | divs (n : Nat) (rd : Nat) (rr : Nat) (ra : Nat) (rb : Nat)
  /-- DIVU (R277): DIVU writes the unsigned remainder and quotient with defined results for zero. -/
  | divu (n : Nat) (rd : Nat) (rr : Nat) (ra : Nat) (rb : Nat)
  /-- SEXTB (R274): SEXTB sign-extends ra[7:0] into rd. -/
  | sextb (n : Nat) (rd : Nat) (ra : Nat)
  /-- SEXTH (R274): SEXTH sign-extends ra[15:0] into rd. -/
  | sexth (n : Nat) (rd : Nat) (ra : Nat)
  /-- ZEXTB (R274): ZEXTB zero-extends ra[7:0] into rd. -/
  | zextb (n : Nat) (rd : Nat) (ra : Nat)
  /-- ZEXTH (R274): ZEXTH zero-extends ra[15:0] into rd. -/
  | zexth (n : Nat) (rd : Nat) (ra : Nat)
  /-- CLZ (R274): CLZ writes the number of leading zero bits of ra. -/
  | clz (n : Nat) (rd : Nat) (ra : Nat)
  /-- ADDI (R278): ADDI adds a sign-extended immediate and sets NZCV. -/
  | addi (n : Nat) (rd : Nat) (ra : Nat) (imm : Nat)
  /-- ANDI (R278): ANDI ANDs a zero-extended immediate and sets NZ. -/
  | andi (n : Nat) (rd : Nat) (ra : Nat) (imm : Nat)
  /-- ORI (R278): ORI ORs a zero-extended immediate and sets NZ. -/
  | ori (n : Nat) (rd : Nat) (ra : Nat) (imm : Nat)
  /-- XORI (R278): XORI XORs a zero-extended immediate and sets NZ. -/
  | xori (n : Nat) (rd : Nat) (ra : Nat) (imm : Nat)
  /-- CMPI (R278): CMPI sets NZCV from ra minus a sign-extended immediate. -/
  | cmpi (n : Nat) (ra : Nat) (imm : Nat)
  /-- LSLI (R278): LSLI shifts left by an immediate count. -/
  | lsli (n : Nat) (rd : Nat) (ra : Nat) (k : Nat)
  /-- LSRI (R278): LSRI shifts right logically by an immediate count. -/
  | lsri (n : Nat) (rd : Nat) (ra : Nat) (k : Nat)
  /-- ASRI (R278): ASRI shifts right arithmetically by an immediate count. -/
  | asri (n : Nat) (rd : Nat) (ra : Nat) (k : Nat)
  /-- RORI (R278): RORI rotates right by an immediate count. -/
  | rori (n : Nat) (rd : Nat) (ra : Nat) (k : Nat)
  /-- MOVI (R278): MOVI loads a sign-extended immediate into rd. -/
  | movi (n : Nat) (rd : Nat) (imm : Nat)
  /-- MOVH (R278): MOVH loads the high half of rd, keeping the low half. -/
  | movh (n : Nat) (rd : Nat) (imm : Nat)
  /-- ADR (R278): ADR writes PC plus four times a signed immediate into rd. -/
  | adr (n : Nat) (rd : Nat) (imm : Nat)
  /-- LDB (R279): LDB loads a sign-extended byte. -/
  | ldb (n : Nat) (rd : Nat) (ra : Nat) (imm : Nat) (x : Sense)
  /-- LDBU (R279): LDBU loads a zero-extended byte. -/
  | ldbu (n : Nat) (rd : Nat) (ra : Nat) (imm : Nat) (x : Sense)
  /-- LDH (R279): LDH loads a sign-extended half-word. -/
  | ldh (n : Nat) (rd : Nat) (ra : Nat) (imm : Nat) (x : Sense)
  /-- LDHU (R279): LDHU loads a zero-extended half-word. -/
  | ldhu (n : Nat) (rd : Nat) (ra : Nat) (imm : Nat) (x : Sense)
  /-- LDW (R279): LDW loads a word. -/
  | ldw (n : Nat) (rd : Nat) (ra : Nat) (imm : Nat) (x : Sense)
  /-- STB (R279): STB stores the low byte of rd. -/
  | stb (n : Nat) (rd : Nat) (ra : Nat) (imm : Nat)
  /-- STH (R279): STH stores the low half-word of rd. -/
  | sth (n : Nat) (rd : Nat) (ra : Nat) (imm : Nat)
  /-- STW (R279): STW stores rd. -/
  | stw (n : Nat) (rd : Nat) (ra : Nat) (imm : Nat)
  /-- PUSH (R279): PUSH decrements sp and stores rd. -/
  | push (n : Nat) (rd : Nat)
  /-- POP (R279): POP loads rd from sp and increments sp. -/
  | pop (n : Nat) (rd : Nat) (x : Sense)
  /-- SWP (R280): SWP atomically exchanges rd with a word in TCM or retained scratch. -/
  | swp (n : Nat) (rd : Nat) (ra : Nat) (x : Sense)
  /-- B (R281): B branches PC-relative when its condition holds. -/
  | branch (n : Nat) (cond : Nat) (off : Nat)
  /-- CALL (R281): CALL saves the return address in lr and branches PC-relative. -/
  | call (n : Nat) (off : Nat)
  /-- JR (R282): JR jumps to ra, faulting on a misaligned target. -/
  | jr (n : Nat) (ra : Nat)
  /-- CALLR (R281): CALLR saves lr and jumps to ra. -/
  | callr (n : Nat) (ra : Nat)
  /-- MFC (R283): MFC reads a control register into rd. -/
  | mfc (n : Nat) (rd : Nat) (cr : Nat)
  /-- MTC (R283): MTC writes ra to a control register under privilege rules. -/
  | mtc (n : Nat) (cr : Nat) (ra : Nat)
  /-- STSET (R283): STSET sets STATUS bits given by the immediate. -/
  | stset (n : Nat) (imm : Nat)
  /-- STCLR (R283): STCLR clears STATUS bits given by the immediate. -/
  | stclr (n : Nat) (imm : Nat)
  /-- SYSCALL (R283): SYSCALL raises the SYSCALL exception. -/
  | syscall (n : Nat) (imm : Nat)
  /-- BREAK_INSTRUCTION (R283): The break instruction halts the core while a debugger is attached, otherwise raises BREAK. -/
  | breakInstr (n : Nat) (imm : Nat)
  /-- ERET (R283): ERET restores STATUS from ESTATUS and PC from EPC. -/
  | eret (n : Nat)
  /-- WAIT_INSTRUCTION (R265): The wait instruction stops the core in WAIT until its event line is high. -/
  | waitInstr (n : Nat)
  /-- NOP (R283): NOP does nothing. -/
  | nop (n : Nat)
  /-- ILLEGAL (R272): An undefined or malformed instruction word raises ILLEGAL without executing. -/
  | illegal (n : Nat)
  /-- MOVS (R284): MOVS copies one element from src to dst and steps both. -/
  | movs (n : Nat) (size : Nat) (x : Sense)
  /-- FILL (R284): FILL stores rv's element at dst and steps dst. -/
  | fill (n : Nat) (size : Nat) (rv : Nat)
  /-- SCAN (R284): SCAN compares rv's element with the element at src and steps src. -/
  | scan (n : Nat) (size : Nat) (rv : Nat) (x : Sense)
  /-- CMPS (R284): CMPS compares the elements at src and dst and steps both. -/
  | cmps (n : Nat) (size : Nat) (x : Sense) (y : Sense)
  /-- LDS (R284): LDS shifts an element from src into the top of rv. -/
  | lds (n : Nat) (size : Nat) (rv : Nat) (x : Sense)
  /-- STS (R284): STS stores rv's low element at dst and shifts rv right. -/
  | sts (n : Nat) (size : Nat) (rv : Nat)
  /-- REP (R286): The REP prefix repeats its string instruction while cnt is not 0. -/
  | rep (n : Nat) (o : StrOp) (x : Sense) (y : Sense)
  /-- REPZ (R286): The REPZ prefix repeats its string instruction while cnt is not 0 and, for SCAN and CMPS, Z stays 1. -/
  | repz (n : Nat) (o : StrOp) (x : Sense) (y : Sense)
  /-- REPNZ (R286): The REPNZ prefix repeats its string instruction while cnt is not 0 and, for SCAN and CMPS, Z stays 0. -/
  | repnz (n : Nat) (o : StrOp) (x : Sense) (y : Sense)
  /-- ILLEGAL_PREFIX (R285): A prefix followed by a word that is not a legal string instruction raises ILLEGAL_PREFIX. -/
  | illegalPrefix (n : Nat)
  /-- RD (R294): Host command RD reads N words during the dummy phase and returns them after the status byte. -/
  | rdCmd (a : Nat) (k : Nat) (late : Bool) (xs : (List Sense))
  /-- WR (R295): Host command WR writes N words as their bytes arrive. -/
  | wrCmd (a : Nat) (k : Nat) (ws : (List Word))
  /-- STATUS (R294): Host command STATUS returns HOST.STAT. -/
  | status
  /-- QRD_W (R297): Host command QRD_W delivers tag and word pairs from a queue for as long as the host clocks. -/
  | qrdW (q : Nat) (late : Bool) (us : (List Upset))
  /-- QRD_P (R298): Host command QRD_P delivers whole packets from a queue for as long as the host clocks. -/
  | qrdP (q : Nat) (late : Bool) (us : (List Upset)) (under : Bool)
  /-- QWR (R300): Host command QWR opens, fills and closes a packet through Tongs write port 4. -/
  | qwr (v : Word) (len : Nat) (bs : (List Byte))
  /-- RRD (R301): Host command RRD starts a local or remote read of up to 16 words on a numbered hub. -/
  | rrd (hub : Nat) (a : Nat) (k : Nat) (xs : (List Sense))
  /-- RWR (R301): Host command RWR starts a local or remote write of up to 16 words on a numbered hub. -/
  | rwr (hub : Nat) (a : Nat) (k : Nat) (ws : (List Word))
  /-- RESET_WIDTH (R292): Host command 0xFF resets the port to 1-1-1 and DUMMY to its Reset value. -/
  | resetWidth
  /-- BAD_CMD (R294): An undefined command byte performs nothing, reports BUS_ERROR and sets BAD_CMD. -/
  | badCmd (c : Nat)
  /-- ABORTED (R295): CS_N rising before a command's arguments are complete aborts it and sets ABORTED. -/
  | aborted (c : Nat)
  /-- HOST_SELECT (R359): A falling edge of CS_N starts a transaction and pulses source 585. -/
  | hostSelect
  /-- HOST_SLEEP (R303): A change of HOST_SLEEP releases or holds notices according to WAKE. -/
  | hostSleep (level : Bool)
  /-- REMOTE_TIMEOUT (R301): No reply within REMOTE_CFG.TIMEOUT ends the remote operation with TIMEOUT. -/
  | remoteTimeout
  /-- ATTN_HOLDOFF_END (R304): HOST_ATTN's 16-cycle minimum deasserted time ends and it may assert again. -/
  | attnHoldoffEnd
  /-- SIGNAL_DETECT (R310): A DOWN port detects signal with clock recovery locked and enters ALIGN. -/
  | signalDetect (p : Nat)
  /-- ALIGN_DONE (R310): 64 error-free comma-aligned ordered sets move the port to TRAIN. -/
  | alignDone (p : Nat)
  /-- TRAIN_DONE (R310): 16 TS1 or TS2 received and 16 TS2 sent move the port to HOLD, or LOOPBACK holds it. -/
  | trainDone (p : Nat) (uid : Nat) (peer : Nat)
  /-- HEAL (R325): HEAL_CFG.MS error-free ms in HOLD bring the port UP and unwrap it. -/
  | heal (p : Nat)
  /-- LINK_DOWN (R309): Missing commas, errors, signal loss or received TS1/TS2 take the link down and wrap the port. -/
  | linkDown (p : Nat) (errs : Nat)
  /-- FRAME_ERROR (R311): A frame failing CRC or length, or ending in ABORT, is dropped and counted. -/
  | frameError (p : Nat) (unknown : Bool)
  /-- DATA (R328): A received DATA frame is forwarded or written into its destination queue as a fragment of a packet. -/
  | dataFrame (p : Nat) (f : Frame)
  /-- BEACON (R322): A received BEACON is forwarded with corrected CORR and, on the time port, steers or steps TB. -/
  | beacon (p : Nat) (f : Frame) (tin : Nat) (res : Nat)
  /-- PDELAY_REQ (R321): A received PDELAY_REQ is stamped and answered with PDELAY_RESP. -/
  | pdelayReq (p : Nat) (f : Frame) (t2 : Nat) (t3 : Nat)
  /-- PDELAY_RESP (R321): A received PDELAY_RESP gives the link delay d and updates the smoothed delay. -/
  | pdelayResp (p : Nat) (f : Frame) (t4 : Nat)
  /-- ENUM_JOIN (R315): The active head answers a received JOIN with GRANT or REFUSE, or queues it for firmware. -/
  | enumJoin (p : Nat) (f : Frame)
  /-- GRANT (R315): A received GRANT sets the hub's number and NUM_VALID and raises source 558. -/
  | grant (p : Nat) (f : Frame)
  /-- HELLO (R317): The active head records a received HELLO or REFUSEs a conflicting number. -/
  | hello (p : Nat) (f : Frame)
  /-- REFUSE (R317): A received REFUSE sets REFUSED or clears NUM_VALID for a rejoin. -/
  | refuse (p : Nat) (f : Frame)
  /-- REG_REQ (R331): A received REG_REQ is performed as master RING and answered with REG_RESP. -/
  | regReq (p : Nat) (f : Frame) (xs : (List Sense))
  /-- REG_RESP (R331): A received REG_RESP sets the remote result from its responses. -/
  | regResp (p : Nat) (f : Frame)
  /-- ACK (R330): A received ACK releases acknowledged frames from the retry store. -/
  | ackFrame (p : Nat) (f : Frame)
  /-- RING_GRANT_WRITE (R315): A write of RING.GRANT with GO answers the waiting JOIN with a number or REFUSE. -/
  | ringGrantWrite (m : Master) (v : Word)
  /-- BEACON_SEND (R320): The active head sends a BEACON out of both ports once per millisecond. -/
  | beaconSend (tE : Nat) (tW : Nat)
  /-- PDELAY_REQ_SEND (R321): Each UP port sends PDELAY_REQ once per millisecond, counting unanswered requests. -/
  | pdelayReqSend (p : Nat) (t1 : Nat)
  /-- JOIN_SEND (R315): An unnumbered hub sends JOIN to the active head every 10 ms, or every 1 s after a refusal. -/
  | joinSend
  /-- HELLO_SEND (R317): A numbered hub sends HELLO to the active head every 100 ms. -/
  | helloSend
  /-- MEMBER_ABSENT (R317): 300 ms without HELLO marks a number absent and raises source 554. -/
  | memberAbsent (n : Nat)
  /-- NUMBER_HOLD_EXPIRE (R317): After HOLD seconds an absent number becomes free. -/
  | numberHoldExpire (n : Nat)
  /-- BEACON_MISS (R322): A period without an accepted beacon counts a miss; three clear BEACON_OK and raise source 620. -/
  | beaconMiss
  /-- HEAD_TAKEOVER (R318): A head without a beacon for 3 periods becomes active at its next millisecond. -/
  | headTakeover
  /-- DATA_FRAME_SEND (R316): A port sends a local DATA frame once its token bucket holds the payload and transit is empty. -/
  | dataFrameSend (p : Nat) (us : (List Upset))
  /-- ACK_SEND (R330): A receiver sends ACK within 50 µs of an unacknowledged frame or after 16 frames. -/
  | ackSend (q : Nat)
  /-- RETRY_TIMEOUT (R330): No acknowledgement for RETRY_CFG.TO resends the route's frames, or after 8 resends discards them. -/
  | retryTimeout (q : Nat)
  /-- RX_GAP (R328): An FSEQ gap or 1 ms without a frame closes the open packet with TRUNC. -/
  | rxGap (q : Nat)
  /-- PWR_REQ_RUN (R353): PWR_REQ with TARGET RUN leaves WATCH for RUN, or completes at once in RUN. -/
  | pwrReqRun (m : Master)
  /-- PWR_REQ_WATCH (R352): PWR_REQ with TARGET WATCH is refused or enters WATCH. -/
  | pwrReqWatch (m : Master)
  /-- PWR_REQ_DOZE (R351): PWR_REQ with TARGET DOZE is refused or waits for the commit queue to empty. -/
  | pwrReqDoze (m : Master)
  /-- PWR_REQ_OFF_KEEP (R351): PWR_REQ with TARGET OFF-KEEP is refused or waits for the commit queue to empty. -/
  | pwrReqOffKeep (m : Master)
  /-- POINT_OF_NO_RETURN (R351): The commit queue empties and the DOZE or OFF-KEEP entry begins. -/
  | pointOfNoReturn
  /-- COMMIT_WAIT (R351): The commit wait exceeds COMMIT_WAIT ms and the request ends with RESULT 6. -/
  | commitWait
  /-- ENTRY_DONE (R352): The entry steps of a power state complete, setting STATE and RESULT = DONE. -/
  | entryDone
  /-- WAKE (R353): WAKE_PENDING rising starts the exit from WATCH or DOZE to RUN. -/
  | wake
  /-- EXIT_DONE (R353): The exit reaches RUN, channels and contexts return and source 579 is raised. -/
  | exitDone
  /-- BROWNOUT (R403): A main rail below its falling threshold for 200 ns freezes the black box and holds the hub in reset. -/
  | brownout (rails : Nat) (vaon : Nat)
  /-- VAON_POWER_ON (R404): VAON rising past 1.55 V after falling below 1.40 V clears the retained AON state. -/
  | vaonPowerOn
  /-- ERASE (R373): IMG.CMD.ERASE erases the load bank and clears LOAD_VALID. -/
  | imgErase (m : Master) (v : Word)
  /-- LOAD_DATA (R373): A write of LOAD_DATA stages a word for programming at LOAD_ADDR, or overruns. -/
  | loadData (m : Master) (v : Word)
  /-- VERIFY (R373): IMG.CMD.VERIFY checks the load bank image and sets RESULT and LOAD_VALID. -/
  | verify (m : Master) (v : Word)
  /-- IMG_DONE (R373): An erase or verification ends and raises source 564. -/
  | imgDone (hash : Bool) (sig : Bool)
  /-- IMG_SWAP (R374): An admitted CMD.SWAP exchanges the banks, starts the trial or is refused. -/
  | imgSwap (m : Master) (v : Word)
  /-- CONFIRM (R375): CMD.CONFIRM ends the trial, sets PREF and queues an IMG commit. -/
  | confirm (m : Master) (v : Word)
  /-- TRIAL_EXPIRE (R375): The trial timer expires, swapping the banks back, fencing and restarting the cores from the ROM. -/
  | trialExpire
  /-- BOOT_CHECK (R372): The boot ROM's image check ends, starting an image or leaving C0 in WAIT. -/
  | bootCheck (hash0 : Bool) (sig0 : Bool) (hash1 : Bool) (sig1 : Bool)
  /-- RESIDUE (R360): A residue check failure discards the result and declares the slice failed. -/
  | residue (x : Nat)
  /-- KAT (R360): The periodic known-answer test runs and declares the slice failed on error. -/
  | kat (x : Nat) (pass : Bool)
  /-- ECC_UNCORR (R361): A double-bit state error restarts the channel with GAP and SETTLING. -/
  | eccUncorr (c : Nat)
  /-- AUDIT_MISMATCH (R363): An audit comparison mismatch flags GAP and runs KATs to resolve the faulty slice. -/
  | auditMismatch (c : Nat) (xPass : Bool) (sparePass : Bool) (agree : Bool)
  /-- FAILOVER_DONE (R364): The spare has adopted every channel of the failed slice and raises source 521. -/
  | failoverDone (lost : (List Nat))
  /-- TEST (R366): SL_CMD.TEST starts the self-test of a fenced slice. -/
  | sliceTest (m : Master) (x : Nat) (v : Word)
  /-- SELF_TEST_DONE (R366): A slice self-test ends with PASS or FAIL. -/
  | selfTestDone (x : Nat) (pass : Bool)
  /-- UNFENCE (R366): SL_CMD.UNFENCE makes a passed fenced slice the spare. -/
  | unfence (m : Master) (x : Nat) (v : Word)
  /-- DRAIN (R366): SL_CMD.DRAIN starts moving an active slice's channels to the spare. -/
  | drain (m : Master) (x : Nat) (v : Word)
  /-- DRAIN_DONE (R366): All channels have moved, the drained slice becomes spare and source 525 is raised. -/
  | drainDone
  /-- FREEZE (R387): CMD.FREEZE = 1 writes a FREEZE record, freezes the ring and starts the copy into Hearth. -/
  | freeze (m : Master)
  /-- COPY_DONE (R388): The copy of the ring into Hearth segments 56 to 63 ends and raises source 569. -/
  | copyDone
  /-- BB_RELEASE (R390): CMD.RELEASE = 1 clears FROZEN and resumes recording. -/
  | bbRelease (m : Master)
  /-- ERASE_COPY (R391): An admitted CMD.ERASE_COPY erases the Hearth copy area. -/
  | eraseCopy (m : Master)
  /-- ERASE_COPY_DONE (R390): The erase of the copy area ends with COPY = EMPTY. -/
  | eraseCopyDone
  /-- SW_CODE (R385): A write of BBOX.SW_CODE appends a software record or sets BAD_CODE. -/
  | swCode (m : Master) (v : Word)
  /-- BBOX_SLOT_READ (R383): A read of word 0 of a black-box slot latches words 1 to 3 into the master's shadow. -/
  | bboxSlotRead (m : Master) (slot : Nat)
  /-- XTAL32_OK (R28): The 32.768 kHz crystal starts or returns, and Bellows sets CLK_STAT.XTAL32_OK, which re-enables DOZE entry. -/
  | xtalOk
  /-- REFERENCE_RETURNS (R69): The selected REFIN or VEXC voltage at the ball rises back above half its lower limit, and the input's bits return to normal at the next block boundary. -/
  | referenceReturns (r : Nat)
  /-- UNDEFINED_OPCODE (R167): A context's turn fetches an undefined opcode, a parity-failed word or a PC outside its region and halts with ST = ILLEGAL and FAULT set. -/
  | undefinedOpcode (n : Nat) (parity : Bool)
  /-- FETCH_ERROR (R263): A core's instruction fetch from a non-fetchable address, a bus error or a failed image line check raises FETCH_ERROR. -/
  | fetchError (n : Nat) (f : FetchBad)
  /-- RESET_N_RISES (R338): RESET_N rises after a WARM reset and, 10 µs later, Hearth scans its journal and the pages restore. -/
  | resetRises (straps : Nat) (head : Bool)
  /-- ERASE_ALL_DONE (R348): The erase of every journal segment ends, BUSY and ERASING clear, and queued commits and waiting sleep requests proceed. -/
  | eraseAllDone
  /-- LOAD_WORD_PROGRAMMED (R373): A staged image word finishes programming at LOAD_ADDR after 2 µs, freeing a staging entry. -/
  | loadWordProgrammed
deriving DecidableEq, Repr

end Sys2Proof
end

