-- ==== Sys2Proof/Decode.lean ====
section
/-!
DEFINITION. Sys2Proof/Decode.lean: commands spelled by table words. The rows of spec/opcode_table.json give their commands no bits, so no
word spells one. The encoding of Glemi-32 instructions, which cores fetch from memory, is in Machine/GlemiDecode.lean.
-/
namespace Sys2Proof

/-- The command that a word of `nbits` bits spells. -/
def decodeTableWord (_nbits _w : Nat) : Option Instr := none

/-! ### The host's commands (R294) -/

/-- The commands of the host port, and any other byte. -/
inductive HostCmd where
  | rd | wr | status | qrdW | qrdP | qwr | rrd | rwr | resetWidth | bad
deriving DecidableEq, Repr

/-- The command that a byte names. -/
def hostCmdOf (b : Nat) : HostCmd := match b with
  | 0x01 => .rd
  | 0x02 => .wr
  | 0x05 => .status
  | 0x10 => .qrdW
  | 0x11 => .qrdP
  | 0x18 => .qwr
  | 0x30 => .rrd
  | 0x31 => .rwr
  | 0xFF => .resetWidth
  | _ => .bad

/-- The byte of a command. -/
def HostCmd.byte : HostCmd → Nat
  | .rd => 0x01
  | .wr => 0x02
  | .status => 0x05
  | .qrdW => 0x10
  | .qrdP => 0x11
  | .qwr => 0x18
  | .rrd => 0x30
  | .rwr => 0x31
  | .resetWidth => 0xFF
  | .bad => 0

/-- How many bytes of arguments follow a command byte. -/
def HostCmd.args : HostCmd → Nat
  | .rd => 5
  | .wr => 5
  | .status => 0
  | .qrdW => 2
  | .qrdP => 2
  | .qwr => 6
  | .rrd => 6
  | .rwr => 6
  | .resetWidth => 0
  | .bad => 0

/-- A number sent most significant byte first. -/
def beNat (bs : List Nat) : Nat := bs.foldl (fun n b => n * 256 + b) 0

/-- The whole words of a stream sent least significant byte first: a partial word at its end is discarded (R295). -/
def wholeWords : List Nat → List Word
  | b0 :: b1 :: b2 :: b3 :: r => w32 (b0 + 256 * b1 + 65536 * b2 + 16777216 * b3) :: wholeWords r
  | _ => []

/-- A transaction as the host spelled it (R294): a command with its arguments and the data that came whole, or one cut in its arguments. -/
inductive HostCall where
  | rd (a k : Nat)
  | wr (a k : Nat) (ws : List Word)
  | status
  | qrdW (q : Nat)
  | qrdP (q : Nat)
  | qwr (v : Word) (len : Nat) (bs : List Byte)
  | rrd (hub a k : Nat)
  | rwr (hub a k : Nat) (ws : List Word)
  | resetWidth
  | bad (b : Nat)
  | aborted (b : Nat)
deriving DecidableEq, Repr

/-- What the bytes from the host spell, CS_N having risen after the last of them: the command byte, its arguments, and for a write its data.
Of N − 1 the low four bits count, and the WR_OPEN word is sent as arguments are, most significant byte first: R294 gives no larger N, and R291
names the word in neither of its two lists (DESIGN CHOICE, log entry 31). -/
def decodeHost (bs : List Nat) : Option HostCall := match bs with
  | [] => none
  | b :: r =>
    let c := hostCmdOf b
    if r.length < c.args then some (.aborted b)
    else match c with
      | .rd => some (.rd (beNat (r.take 4)) (r.getD 4 0 % 16))
      | .wr => some (.wr (beNat (r.take 4)) (r.getD 4 0 % 16) ((wholeWords (r.drop 5)).take (r.getD 4 0 % 16 + 1)))
      | .status => some .status
      | .qrdW => some (.qrdW (beNat (r.take 2)))
      | .qrdP => some (.qrdP (beNat (r.take 2)))
      | .qwr => some (.qwr (w32 (beNat (r.take 4))) (beNat ((r.drop 4).take 2))
          (((r.drop 6).take (beNat ((r.drop 4).take 2))).map (fun x => BitVec.ofNat 8 x)))
      | .rrd => some (.rrd (r.getD 0 0) (beNat ((r.drop 1).take 4)) (r.getD 5 0 % 16))
      | .rwr => some (.rwr (r.getD 0 0) (beNat ((r.drop 1).take 4)) (r.getD 5 0 % 16) ((wholeWords (r.drop 6)).take (r.getD 5 0 % 16 + 1)))
      | .resetWidth => some .resetWidth
      | .bad => some (.bad b)

end Sys2Proof
end

