-- ==== Sys2Proof/Config.lean ====
section
/-!
DEFINITION. Sys2Proof/Config.lean: what a part fixes and what the manual leaves open. The opaque constants have no body:
nothing proved in this package can rest on a value of theirs. Each is named in the assumption log (notes/assumptions).
-/
namespace Sys2Proof.Config

/-- SYS.CHIP.STEP, "per silicon" (spec/02_register_pages.md, SYS.CHIP). DESIGN CHOICE, log entry 3. -/
opaque siliconStep : BitVec 8

/-- RING.UID, the factory-programmed unique identity (spec/18_niong_ring.md). DESIGN CHOICE, log entry 3. -/
opaque uid : BitVec 64

/-- The 32-bit identity register that TAP instruction IDCODE selects, whose value the manual does not give. DESIGN CHOICE, log entry 3. -/
opaque idcode : BitVec 32

/-- The contents of the boot ROM (R16), which the manual does not give. DESIGN CHOICE, log entry 4. -/
opaque bootRom : Nat → BitVec 8

/-- The order in which Tongs takes cells from its free list (R219), which the manual does not give: applied to the
draw counter of the state. DESIGN CHOICE, log entry 5. -/
opaque freeCell : Nat → Nat

/-- The first payload word of a RAW packet, which holds the port, A, ST and the reply length (R177) in places that the manual
does not give. DESIGN CHOICE, log entry 8. -/
opaque rawHeader : Nat → Nat → Nat → Nat → BitVec 32

/-- TOT of a window whose sum of intervals is negative, because stamps went back within it (R198): the manual states no result.
DESIGN CHOICE, log entry 6. -/
opaque negativeTot : Int → BitVec 32

/-- A value the manual leaves unstated: the `n`-th draw (see the log entries that name `Config.freeValue`). DESIGN CHOICE, log entry 6. -/
opaque freeValue : Nat → Nat

end Sys2Proof.Config
end

