-- ==== Sys2Proof/Machine/Operands.lean ====
section
/-!
DEFINITION. Sys2Proof/Machine/Operands.lean: the number forms the manual's fields take: signed fields, saturation, rounding,
byte order, checksums. Registers hold words; a field is read as a natural number and, where the manual calls it signed,
taken through `sx`.
-/
namespace Sys2Proof.Machine

/-- The signed value of the `w`-bit two's-complement number `n`. -/
def sx (w n : Nat) : Int :=
  if n % 2 ^ w < 2 ^ (w - 1) then (n % 2 ^ w : Nat) else (n % 2 ^ w : Nat) - (2 ^ w : Nat)

/-- The `w`-bit two's-complement form of `i`, that is `i` modulo `2^w`. -/
def ux (w : Nat) (i : Int) : Nat := (i % (2 ^ w : Nat)).toNat

/-- `i` saturated to the signed `w`-bit range. -/
def satS (w : Nat) (i : Int) : Int :=
  if i > (2 ^ (w - 1) : Nat) - 1 then (2 ^ (w - 1) : Nat) - 1
  else if i < -((2 ^ (w - 1) : Nat) : Int) then -((2 ^ (w - 1) : Nat) : Int) else i

/-- `n` saturated to the unsigned `w`-bit range. -/
def satU (w n : Nat) : Nat := if n < 2 ^ w then n else 2 ^ w - 1

/-- Bit `b` of `n`. -/
def bit (n b : Nat) : Bool := n / 2 ^ b % 2 == 1

/-- The `w` bits of `n` from bit `lo` up. -/
def bits (n lo w : Nat) : Nat := n / 2 ^ lo % 2 ^ w

/-- `n` with its `w` bits from `lo` up replaced by the low `w` bits of `v`. -/
def putBits (n lo w v : Nat) : Nat := n - bits n lo w * 2 ^ lo + v % 2 ^ w * 2 ^ lo

/-- 1 for true, 0 for false. -/
def b2n (b : Bool) : Nat := if b then 1 else 0

/-- A signed value divided by `2^k`, rounded to the nearest, halves upwards. -/
def rshRound (i : Int) (k : Nat) : Int := if k = 0 then i else (i + 2 ^ (k - 1)) / 2 ^ k

/-- An arithmetic right shift: division by `2^k` toward minus infinity. -/
def rshFloor (i : Int) (k : Nat) : Int := i / 2 ^ k

/-- `⌈a / b⌉` for a positive `b`. -/
def ceilDiv (a b : Nat) : Nat := (a + b - 1) / b

/-- The four bytes of a word, low byte first. -/
def wordBytes (w : Nat) : List Nat := [w % 256, w / 256 % 256, w / 65536 % 256, w / 16777216 % 256]

/-- The number whose base-256 digits, lowest first, are `bs`. -/
def leNat : List Nat → Nat
  | [] => 0
  | b :: r => b % 256 + 256 * leNat r

/-- One bit of the reflected CRC-32 of IEEE 802.3. -/
def crc32Bit (c : Nat) : Nat := if c % 2 = 1 then (c / 2) ^^^ 0xEDB88320 else c / 2

/-- One byte of the reflected CRC-32 of IEEE 802.3. -/
def crc32Byte (c b : Nat) : Nat := Nat.repeat crc32Bit 8 (c ^^^ (b % 256))

/-- CRC-32 with the IEEE 802.3 polynomial, initial value 0xFFFF_FFFF and final inversion, over bytes (R341). -/
def crc32 (bs : List Nat) : Nat := (bs.foldl crc32Byte 0xFFFFFFFF) ^^^ 0xFFFFFFFF

/-- CRC-32 over words, each taken low byte first (R341). -/
def crc32Words (ws : List Nat) : Nat := crc32 (ws.flatMap wordBytes)

/-- One bit of the CRC-16 of Modbus (polynomial 0xA001 reflected). -/
def crc16Bit (c : Nat) : Nat := if c % 2 = 1 then (c / 2) ^^^ 0xA001 else c / 2

/-- CRC-16 with the reflected polynomial 0xA001 from the given start value, over bytes. -/
def crc16 (start : Nat) (bs : List Nat) : Nat := bs.foldl (fun c b => Nat.repeat crc16Bit 8 (c ^^^ (b % 256))) start

/-- The population count of the low `w` bits. -/
def popCount (n : Nat) : Nat → Nat
  | 0 => 0
  | w + 1 => b2n (bit n w) + popCount n w

/-- The least bit number below `w` that is set in `n` and satisfies `p`, counting from `k`. -/
def lowestBit (n : Nat) (w : Nat) : Option Nat := (List.range w).find? (fun b => bit n b)

/-- Replace entry `i` of a list, if it has one. -/
def setAt {α : Type} (l : List α) (i : Nat) (a : α) : List α := l.set i a

end Sys2Proof.Machine
end

