-- ==== Sys2Proof/Machine/RegTable.lean ====
section
/-!
DEFINITION. Sys2Proof/Machine/RegTable.lean: the register pages of the hub as data, transcribed from the register
tables of spec/02 to spec/23: for every register its offset, its bank (stride and count), and for every field its bits,
access code (R6), Reset value, Kept mark (R10) and whether a WARM reset leaves it unchanged; and one name per field.
A name is PAGE_REGISTER_FIELD as the manual spells it; a page with several instances takes the instance first, a bank
takes the instance number last. The rows are read by the bus (Machine/Bus.lean), by resets and by Hearth.
-/
namespace Sys2Proof.Machine

/-- The access codes of R6. -/
inductive Acc where
  | rw | ro | wo | w1c | w1s | rc
deriving DecidableEq, Repr

/-- Where a field stands: the direct-view address of its word, its lowest bit and its width. -/
structure Fld where
  addr : Nat
  lo : Nat
  w : Nat
deriving DecidableEq, Repr

/-- One field of a register row. `track`: a tracking field (R414). `warm`: WARM leaves it unchanged (R10). -/
structure FRow where
  lo : Nat
  w : Nat
  acc : Acc
  rst : Nat
  kept : Bool
  warm : Bool
  track : Bool
deriving DecidableEq, Repr

/-- One register, or a bank of `cnt` registers `stride` bytes apart. -/
structure Row where
  off : Nat
  stride : Nat
  cnt : Nat
  flds : List FRow
deriving DecidableEq, Repr

/-- A plain field. -/
def fl (acc : Acc) (lo w rst : Nat) : FRow := ⟨lo, w, acc, rst, false, false, false⟩
/-- A Kept read-write field. -/
def fk (lo w rst : Nat) : FRow := ⟨lo, w, .rw, rst, true, false, false⟩
/-- A Kept read-only field, restored from Hearth. -/
def fkro (lo w rst : Nat) : FRow := ⟨lo, w, .ro, rst, true, false, false⟩
/-- A field that WARM leaves unchanged. -/
def fw (acc : Acc) (lo w rst : Nat) (kept : Bool) : FRow := ⟨lo, w, acc, rst, kept, true, false⟩
/-- A tracking field (R414). -/
def ft (lo w rst : Nat) : FRow := ⟨lo, w, .rc, rst, false, false, true⟩
/-- A single register. -/
def r1 (off : Nat) (flds : List FRow) : Row := ⟨off, 4, 1, flds⟩
/-- A bank of registers. -/
def rb (off stride cnt : Nat) (flds : List FRow) : Row := ⟨off, stride, cnt, flds⟩

/-- The first address of page `p` (R18). -/
def pageBase (p : Nat) : Nat := 0x40000000 + p * 0x4000
/-- The first address of the table space of page `p` (R18). -/
def tableBase (p : Nat) : Nat := 0x50000000 + p * 0x100000

/-! ### The common page header (02, R18 to R23, R417) -/

def PG_STAT_SPARE (p : Nat) : Fld := ⟨pageBase p + 0x8, 7, 1⟩
def PG_STAT_FENCED (p : Nat) : Fld := ⟨pageBase p + 0x8, 6, 1⟩
def PG_STAT_QUIESCED (p : Nat) : Fld := ⟨pageBase p + 0x8, 5, 1⟩
def PG_STAT_DEFAULTED (p : Nat) : Fld := ⟨pageBase p + 0x8, 4, 1⟩
def PG_STAT_RESTORED (p : Nat) : Fld := ⟨pageBase p + 0x8, 3, 1⟩
def PG_STAT_FAULT (p : Nat) : Fld := ⟨pageBase p + 0x8, 2, 1⟩
def PG_STAT_BUSY (p : Nat) : Fld := ⟨pageBase p + 0x8, 1, 1⟩
def PG_STAT_READY (p : Nat) : Fld := ⟨pageBase p + 0x8, 0, 1⟩
def PG_CTRL_HALT_FREEZE (p : Nat) : Fld := ⟨pageBase p + 0xC, 3, 1⟩
def PG_CTRL_QUIESCE (p : Nat) : Fld := ⟨pageBase p + 0xC, 1, 1⟩
def PG_CTRL_ENABLE (p : Nat) : Fld := ⟨pageBase p + 0xC, 0, 1⟩
def PG_FAULT_ALL (p : Nat) : Fld := ⟨pageBase p + 0x10, 0, 32⟩
def PG_FAULT_COMMIT_FAIL (p : Nat) : Fld := ⟨pageBase p + 0x10, 31, 1⟩
def PG_FAULT_COMMIT_BUSY (p : Nat) : Fld := ⟨pageBase p + 0x10, 30, 1⟩
def PG_FAULT_KEY_FAIL (p : Nat) : Fld := ⟨pageBase p + 0x10, 29, 1⟩
def PG_FAULT_LOCKED_WRITE (p : Nat) : Fld := ⟨pageBase p + 0x10, 28, 1⟩
def PG_FAULT_BLOCK (p : Nat) : Fld := ⟨pageBase p + 0x10, 0, 28⟩
def PG_FAULT_EN_ALL (p : Nat) : Fld := ⟨pageBase p + 0x14, 0, 32⟩
def PG_GEN_GEN (p : Nat) : Fld := ⟨pageBase p + 0x18, 0, 32⟩
/-- Bit `b` of PG_FAULT of page `p`. -/
def PG_FAULT_bit (p b : Nat) : Fld := ⟨pageBase p + 0x10, b, 1⟩

/-! ### SYS (spec chapters 02) -/

def SYS_CHIP_FAMILY : Fld := ⟨pageBase 0x0 + 0x40, 16, 16⟩
def SYS_CHIP_STEP : Fld := ⟨pageBase 0x0 + 0x40, 8, 8⟩
def SYS_HUB_NUM_VALID : Fld := ⟨pageBase 0x0 + 0x44, 15, 1⟩
def SYS_HUB_HEAD : Fld := ⟨pageBase 0x0 + 0x44, 8, 1⟩
def SYS_HUB_NUMBER : Fld := ⟨pageBase 0x0 + 0x44, 0, 6⟩
def SYS_STRAPS_LEVEL : Fld := ⟨pageBase 0x0 + 0x48, 0, 4⟩
def SYS_RESET_CAUSE_THERMAL : Fld := ⟨pageBase 0x0 + 0x4C, 5, 1⟩
def SYS_RESET_CAUSE_BROWNOUT : Fld := ⟨pageBase 0x0 + 0x4C, 4, 1⟩
def SYS_RESET_CAUSE_WDOG : Fld := ⟨pageBase 0x0 + 0x4C, 3, 1⟩
def SYS_RESET_CAUSE_WARM_SW : Fld := ⟨pageBase 0x0 + 0x4C, 2, 1⟩
def SYS_RESET_CAUSE_WARM_PIN : Fld := ⟨pageBase 0x0 + 0x4C, 1, 1⟩
def SYS_RESET_CAUSE_COLD : Fld := ⟨pageBase 0x0 + 0x4C, 0, 1⟩
def SYS_WARM_RESET_GO : Fld := ⟨pageBase 0x0 + 0x50, 0, 1⟩
def SYS_NOT_READY_WRITES_LAST_PAGE : Fld := ⟨pageBase 0x0 + 0x54, 16, 8⟩
def SYS_NOT_READY_WRITES_COUNT : Fld := ⟨pageBase 0x0 + 0x54, 0, 16⟩
def SYS_BUS_ERR_ADDR_ADDR : Fld := ⟨pageBase 0x0 + 0x58, 0, 32⟩
def SYS_BUS_ERR_INFO_VALID : Fld := ⟨pageBase 0x0 + 0x5C, 31, 1⟩
def SYS_BUS_ERR_INFO_WRITE : Fld := ⟨pageBase 0x0 + 0x5C, 7, 1⟩
def SYS_BUS_ERR_INFO_KIND : Fld := ⟨pageBase 0x0 + 0x5C, 4, 3⟩
def SYS_BUS_ERR_INFO_MASTER : Fld := ⟨pageBase 0x0 + 0x5C, 0, 3⟩
def SYS_PAGE_READY_READY (n : Nat) : Fld := ⟨pageBase 0x0 + 0x60 + n * 0x4, 0, 32⟩

/-- The registers of SYS. -/
def pageSYS : List Row := [
  r1 0x40 [fl .ro 16 16 29270, fl .ro 8 8 1],
  r1 0x44 [fl .ro 15 1 0, fl .ro 8 1 0, fl .ro 0 6 0],
  r1 0x48 [fl .ro 0 4 0],
  r1 0x4C [fl .w1c 5 1 0, fl .w1c 4 1 0, fl .w1c 3 1 0, fl .w1c 2 1 0, fl .w1c 1 1 0, fl .w1c 0 1 1],
  r1 0x50 [fl .wo 0 1 0],
  r1 0x54 [fl .ro 16 8 0, fl .rc 0 16 0],
  r1 0x58 [fl .ro 0 32 0],
  r1 0x5C [fl .w1c 31 1 0, fl .ro 7 1 0, fl .ro 4 3 0, fl .ro 0 3 0],
  rb 0x60 0x4 3 [fl .ro 0 32 0]]

/-! ### BELLOWS (spec chapters 03,20,23) -/

def BELLOWS_CLK_STAT_CLKSRC : Fld := ⟨pageBase 0x1 + 0x40, 6, 2⟩
def BELLOWS_CLK_STAT_XTAL32_OK : Fld := ⟨pageBase 0x1 + 0x40, 5, 1⟩
def BELLOWS_CLK_STAT_REF_OK : Fld := ⟨pageBase 0x1 + 0x40, 4, 1⟩
def BELLOWS_CLK_STAT_PLL_LOCK : Fld := ⟨pageBase 0x1 + 0x40, 3, 1⟩
def BELLOWS_CLK_STAT_XTAL32_FAIL : Fld := ⟨pageBase 0x1 + 0x40, 2, 1⟩
def BELLOWS_CLK_STAT_REF_LOST : Fld := ⟨pageBase 0x1 + 0x40, 1, 1⟩
def BELLOWS_CLK_STAT_LOCK_LOST : Fld := ⟨pageBase 0x1 + 0x40, 0, 1⟩
def BELLOWS_ALIGN_LO_TB : Fld := ⟨pageBase 0x1 + 0x44, 0, 32⟩
def BELLOWS_ALIGN_HI_TB : Fld := ⟨pageBase 0x1 + 0x48, 0, 32⟩
def BELLOWS_XTAL_MEAS_MEAS : Fld := ⟨pageBase 0x1 + 0x4C, 0, 32⟩
def BELLOWS_COAST_CFG_MEAS_LOG2 : Fld := ⟨pageBase 0x1 + 0x50, 0, 3⟩
def BELLOWS_COAST_INC_FRAC : Fld := ⟨pageBase 0x1 + 0x54, 0, 32⟩
def BELLOWS_COAST_ADJ_FRAC : Fld := ⟨pageBase 0x1 + 0x58, 0, 32⟩
def BELLOWS_XTAL32_CFG_CLOAD : Fld := ⟨pageBase 0x1 + 0x5C, 0, 5⟩
def BELLOWS_PWR_REQ_GO : Fld := ⟨pageBase 0x1 + 0x80, 31, 1⟩
def BELLOWS_PWR_REQ_TARGET : Fld := ⟨pageBase 0x1 + 0x80, 0, 2⟩
def BELLOWS_PWR_STAT_RESULT : Fld := ⟨pageBase 0x1 + 0x84, 20, 4⟩
def BELLOWS_PWR_STAT_BUSY : Fld := ⟨pageBase 0x1 + 0x84, 7, 1⟩
def BELLOWS_PWR_STAT_REQ : Fld := ⟨pageBase 0x1 + 0x84, 2, 2⟩
def BELLOWS_PWR_STAT_STATE : Fld := ⟨pageBase 0x1 + 0x84, 0, 2⟩
def BELLOWS_PWR_CFG_COMMIT_WAIT : Fld := ⟨pageBase 0x1 + 0x88, 0, 8⟩
def BELLOWS_WAKE_LAST_VALID : Fld := ⟨pageBase 0x1 + 0x8C, 31, 1⟩
def BELLOWS_WAKE_LAST_CAUSE : Fld := ⟨pageBase 0x1 + 0x8C, 26, 2⟩
def BELLOWS_WAKE_LAST_SOURCE : Fld := ⟨pageBase 0x1 + 0x8C, 16, 10⟩
def BELLOWS_WAKE_LAST_FROM : Fld := ⟨pageBase 0x1 + 0x8C, 0, 2⟩

/-- The registers of BELLOWS. -/
def pageBELLOWS : List Row := [
  r1 0x40 [fl .ro 6 2 1, fl .ro 5 1 0, fl .ro 4 1 0, fl .ro 3 1 0, fw .w1c 2 1 0 false, fw .w1c 1 1 0 false, fl .w1c 0 1 0],
  r1 0x44 [fw .ro 0 32 0 false],
  r1 0x48 [fw .ro 0 32 0 false],
  r1 0x4C [fw .ro 0 32 0 false],
  r1 0x50 [fk 0 3 3],
  r1 0x54 [fw .ro 0 32 0 false],
  r1 0x58 [fk 0 32 0],
  r1 0x5C [fw .rw 0 5 18 true],
  r1 0x80 [fl .wo 31 1 0, fl .wo 0 2 0],
  r1 0x84 [fl .ro 20 4 0, fl .ro 7 1 0, fl .ro 2 2 0, fl .ro 0 2 0],
  r1 0x88 [fk 0 8 20],
  r1 0x8C [fl .w1c 31 1 0, fl .ro 26 2 0, fl .ro 16 10 0, fl .ro 0 2 0]]

/-! ### TB (spec chapters 03) -/

def TB_NOW_LO_TB : Fld := ⟨pageBase 0x2 + 0x40, 0, 32⟩
def TB_NOW_HI_TB : Fld := ⟨pageBase 0x2 + 0x44, 0, 32⟩
def TB_NOW_FRAC_FRAC : Fld := ⟨pageBase 0x2 + 0x48, 0, 32⟩
def TB_SNAP_GO : Fld := ⟨pageBase 0x2 + 0x4C, 0, 1⟩
def TB_SNAP_LO_TB : Fld := ⟨pageBase 0x2 + 0x50, 0, 32⟩
def TB_SNAP_HI_TB : Fld := ⟨pageBase 0x2 + 0x54, 0, 32⟩
def TB_SNAP_FRAC_FRAC : Fld := ⟨pageBase 0x2 + 0x58, 0, 32⟩
def TB_STAT_COASTED : Fld := ⟨pageBase 0x2 + 0x5C, 5, 1⟩
def TB_STAT_STEPPED : Fld := ⟨pageBase 0x2 + 0x5C, 4, 1⟩
def TB_STAT_TORN_RISK : Fld := ⟨pageBase 0x2 + 0x5C, 3, 1⟩
def TB_STAT_HOLDOVER : Fld := ⟨pageBase 0x2 + 0x5C, 2, 1⟩
def TB_STAT_LOCKED : Fld := ⟨pageBase 0x2 + 0x5C, 1, 1⟩
def TB_TRIM_TRIM : Fld := ⟨pageBase 0x2 + 0x60, 0, 32⟩
def TB_DISC_CTRL_PPS_EDGE : Fld := ⟨pageBase 0x2 + 0x64, 3, 1⟩
def TB_DISC_CTRL_SERVO_EN : Fld := ⟨pageBase 0x2 + 0x64, 2, 1⟩
def TB_DISC_CTRL_SRC : Fld := ⟨pageBase 0x2 + 0x64, 0, 2⟩
def TB_SERVO_GAIN_LOCK_CNT : Fld := ⟨pageBase 0x2 + 0x68, 24, 8⟩
def TB_SERVO_GAIN_LOCK_THR : Fld := ⟨pageBase 0x2 + 0x68, 16, 8⟩
def TB_SERVO_GAIN_KI : Fld := ⟨pageBase 0x2 + 0x68, 8, 8⟩
def TB_SERVO_GAIN_KP : Fld := ⟨pageBase 0x2 + 0x68, 0, 8⟩
def TB_SERVO_INT_INT : Fld := ⟨pageBase 0x2 + 0x6C, 0, 32⟩
def TB_PPS_CFG_MISS_LIMIT : Fld := ⟨pageBase 0x2 + 0x70, 28, 4⟩
def TB_PPS_CFG_WINDOW : Fld := ⟨pageBase 0x2 + 0x70, 8, 16⟩
def TB_PPS_CFG_MIN_WIDTH : Fld := ⟨pageBase 0x2 + 0x70, 0, 8⟩
def TB_PPS_CAP_LO_TB : Fld := ⟨pageBase 0x2 + 0x74, 0, 32⟩
def TB_PPS_CAP_HI_TB : Fld := ⟨pageBase 0x2 + 0x78, 0, 32⟩
def TB_PPS_STAT_MISSES : Fld := ⟨pageBase 0x2 + 0x7C, 16, 16⟩
def TB_PPS_STAT_EXP_VALID : Fld := ⟨pageBase 0x2 + 0x7C, 3, 1⟩
def TB_PPS_STAT_OUTLIER : Fld := ⟨pageBase 0x2 + 0x7C, 2, 1⟩
def TB_PPS_STAT_OVERRUN : Fld := ⟨pageBase 0x2 + 0x7C, 1, 1⟩
def TB_PPS_STAT_FULL : Fld := ⟨pageBase 0x2 + 0x7C, 0, 1⟩
def TB_PPS_ERR_ERR : Fld := ⟨pageBase 0x2 + 0x80, 0, 32⟩
def TB_PPS_EXP_LO_TB : Fld := ⟨pageBase 0x2 + 0x84, 0, 32⟩
def TB_PPS_EXP_HI_TB : Fld := ⟨pageBase 0x2 + 0x88, 0, 32⟩
def TB_LOAD_LO_TB : Fld := ⟨pageBase 0x2 + 0x8C, 0, 32⟩
def TB_LOAD_HI_TB : Fld := ⟨pageBase 0x2 + 0x90, 0, 32⟩
def TB_CMD_LOAD : Fld := ⟨pageBase 0x2 + 0x94, 0, 1⟩

/-- The registers of TB. -/
def pageTB : List Row := [
  r1 0x40 [fl .ro 0 32 0],
  r1 0x44 [fl .ro 0 32 0],
  r1 0x48 [fl .ro 0 32 0],
  r1 0x4C [fl .wo 0 1 0],
  r1 0x50 [fl .ro 0 32 0],
  r1 0x54 [fl .ro 0 32 0],
  r1 0x58 [fl .ro 0 32 0],
  r1 0x5C [fl .w1c 5 1 0, fl .w1c 4 1 0, fl .w1c 3 1 0, fl .ro 2 1 0, fl .ro 1 1 0],
  r1 0x60 [fw .rw 0 32 0 true],
  r1 0x64 [fk 3 1 0, fk 2 1 0, fk 0 2 0],
  r1 0x68 [fk 24 8 16, fk 16 8 2, fk 8 8 1, fk 0 8 4],
  r1 0x6C [fw .rw 0 32 0 true],
  r1 0x70 [fk 28 4 4, fk 8 16 1311, fk 0 8 131],
  r1 0x74 [fl .ro 0 32 0],
  r1 0x78 [fl .ro 0 32 0],
  r1 0x7C [fl .ro 16 16 0, fl .w1c 3 1 0, fl .w1c 2 1 0, fl .w1c 1 1 0, fl .ro 0 1 0],
  r1 0x80 [fl .ro 0 32 0],
  r1 0x84 [fl .rw 0 32 0],
  r1 0x88 [fl .rw 0 32 0],
  r1 0x8C [fl .rw 0 32 0],
  r1 0x90 [fl .rw 0 32 0],
  r1 0x94 [fl .wo 0 1 0]]

/-! ### CMP (spec chapters 04) -/

def CMP_ARM_LO_ARM : Fld := ⟨pageBase 0x3 + 0x40, 0, 32⟩
def CMP_ARM_HI_ARM : Fld := ⟨pageBase 0x3 + 0x44, 0, 32⟩
def CMP_HIT_LO_HIT : Fld := ⟨pageBase 0x3 + 0x48, 0, 32⟩
def CMP_HIT_HI_HIT : Fld := ⟨pageBase 0x3 + 0x4C, 0, 32⟩
def CMP_CMP_LO_CMP (n : Nat) : Fld := ⟨pageBase 0x3 + 0x100 + n * 0x20, 0, 32⟩
def CMP_CMP_HI_CMP (n : Nat) : Fld := ⟨pageBase 0x3 + 0x104 + n * 0x20, 0, 32⟩
def CMP_PER_LO_PER (n : Nat) : Fld := ⟨pageBase 0x3 + 0x108 + n * 0x20, 0, 32⟩
def CMP_PER_HI_PER (n : Nat) : Fld := ⟨pageBase 0x3 + 0x10C + n * 0x20, 0, 16⟩
def CMP_PHASE_LO_PHASE (n : Nat) : Fld := ⟨pageBase 0x3 + 0x110 + n * 0x20, 0, 32⟩
def CMP_PHASE_HI_PHASE (n : Nat) : Fld := ⟨pageBase 0x3 + 0x114 + n * 0x20, 0, 16⟩
def CMP_CTRL_LOADMODE (n : Nat) : Fld := ⟨pageBase 0x3 + 0x118 + n * 0x20, 3, 2⟩
def CMP_CTRL_ALIGN (n : Nat) : Fld := ⟨pageBase 0x3 + 0x118 + n * 0x20, 2, 1⟩
def CMP_CTRL_PERIODIC (n : Nat) : Fld := ⟨pageBase 0x3 + 0x118 + n * 0x20, 1, 1⟩
def CMP_CTRL_ARM (n : Nat) : Fld := ⟨pageBase 0x3 + 0x118 + n * 0x20, 0, 1⟩
def CMP_STAT_SKIPPED (n : Nat) : Fld := ⟨pageBase 0x3 + 0x11C + n * 0x20, 16, 16⟩
def CMP_STAT_LATE (n : Nat) : Fld := ⟨pageBase 0x3 + 0x11C + n * 0x20, 2, 1⟩
def CMP_STAT_SKIP (n : Nat) : Fld := ⟨pageBase 0x3 + 0x11C + n * 0x20, 1, 1⟩
def CMP_STAT_PENDING (n : Nat) : Fld := ⟨pageBase 0x3 + 0x11C + n * 0x20, 0, 1⟩

/-- The registers of CMP. -/
def pageCMP : List Row := [
  r1 0x40 [fk 0 32 0],
  r1 0x44 [fk 0 32 0],
  r1 0x48 [fl .w1c 0 32 0],
  r1 0x4C [fl .w1c 0 32 0],
  rb 0x100 0x20 64 [fl .rw 0 32 0],
  rb 0x104 0x20 64 [fl .rw 0 32 0],
  rb 0x108 0x20 64 [fk 0 32 0],
  rb 0x10C 0x20 64 [fk 0 16 0],
  rb 0x110 0x20 64 [fk 0 32 0],
  rb 0x114 0x20 64 [fk 0 16 0],
  rb 0x118 0x20 64 [fk 3 2 0, fk 2 1 0, fk 1 1 0, fk 0 1 0],
  rb 0x11C 0x20 64 [fl .rc 16 16 0, fl .w1c 2 1 0, fl .w1c 1 1 0, fl .ro 0 1 0]]

/-! ### LC (spec chapters 04) -/

def LC_RUN_RUN : Fld := ⟨pageBase 0x4 + 0x40, 0, 16⟩
def LC_SNAP_GO : Fld := ⟨pageBase 0x4 + 0x44, 31, 1⟩
def LC_SNAP_CTR : Fld := ⟨pageBase 0x4 + 0x44, 0, 4⟩
def LC_SNAP_LO_COUNT : Fld := ⟨pageBase 0x4 + 0x48, 0, 32⟩
def LC_SNAP_HI_COUNT : Fld := ⟨pageBase 0x4 + 0x4C, 0, 32⟩
def LC_CFG_CHAIN (n : Nat) : Fld := ⟨pageBase 0x4 + 0x100 + n * 0x20, 31, 1⟩
def LC_CFG_FREEZE_ON_HALT (n : Nat) : Fld := ⟨pageBase 0x4 + 0x100 + n * 0x20, 30, 1⟩
def LC_CFG_DOZE_RUN (n : Nat) : Fld := ⟨pageBase 0x4 + 0x100 + n * 0x20, 29, 1⟩
def LC_CFG_CAP_DELTA (n : Nat) : Fld := ⟨pageBase 0x4 + 0x100 + n * 0x20, 28, 1⟩
def LC_CFG_EDGE (n : Nat) : Fld := ⟨pageBase 0x4 + 0x100 + n * 0x20, 26, 2⟩
def LC_CFG_MODE (n : Nat) : Fld := ⟨pageBase 0x4 + 0x100 + n * 0x20, 23, 3⟩
def LC_CFG_MASTER (n : Nat) : Fld := ⟨pageBase 0x4 + 0x100 + n * 0x20, 19, 4⟩
def LC_CFG_SRC (n : Nat) : Fld := ⟨pageBase 0x4 + 0x100 + n * 0x20, 16, 3⟩
def LC_CFG_SEL (n : Nat) : Fld := ⟨pageBase 0x4 + 0x100 + n * 0x20, 0, 10⟩
def LC_ACT_CAP_CMP (n : Nat) : Fld := ⟨pageBase 0x4 + 0x104 + n * 0x20, 24, 6⟩
def LC_ACT_CAP_EN (n : Nat) : Fld := ⟨pageBase 0x4 + 0x104 + n * 0x20, 23, 1⟩
def LC_ACT_LINK (n : Nat) : Fld := ⟨pageBase 0x4 + 0x104 + n * 0x20, 16, 4⟩
def LC_ACT_O_STOP_LINK (n : Nat) : Fld := ⟨pageBase 0x4 + 0x104 + n * 0x20, 12, 1⟩
def LC_ACT_O_RESET_LINK (n : Nat) : Fld := ⟨pageBase 0x4 + 0x104 + n * 0x20, 11, 1⟩
def LC_ACT_O_START_LINK (n : Nat) : Fld := ⟨pageBase 0x4 + 0x104 + n * 0x20, 10, 1⟩
def LC_ACT_O_STOP (n : Nat) : Fld := ⟨pageBase 0x4 + 0x104 + n * 0x20, 9, 1⟩
def LC_ACT_O_EVENT (n : Nat) : Fld := ⟨pageBase 0x4 + 0x104 + n * 0x20, 8, 1⟩
def LC_ACT_M_STOP_LINK (n : Nat) : Fld := ⟨pageBase 0x4 + 0x104 + n * 0x20, 6, 1⟩
def LC_ACT_M_RESET_LINK (n : Nat) : Fld := ⟨pageBase 0x4 + 0x104 + n * 0x20, 5, 1⟩
def LC_ACT_M_START_LINK (n : Nat) : Fld := ⟨pageBase 0x4 + 0x104 + n * 0x20, 4, 1⟩
def LC_ACT_M_CAPTURE (n : Nat) : Fld := ⟨pageBase 0x4 + 0x104 + n * 0x20, 3, 1⟩
def LC_ACT_M_STOP (n : Nat) : Fld := ⟨pageBase 0x4 + 0x104 + n * 0x20, 2, 1⟩
def LC_ACT_M_RESET (n : Nat) : Fld := ⟨pageBase 0x4 + 0x104 + n * 0x20, 1, 1⟩
def LC_ACT_M_EVENT (n : Nat) : Fld := ⟨pageBase 0x4 + 0x104 + n * 0x20, 0, 1⟩
def LC_PRESC_DIV (n : Nat) : Fld := ⟨pageBase 0x4 + 0x108 + n * 0x20, 0, 16⟩
def LC_COUNT_COUNT (n : Nat) : Fld := ⟨pageBase 0x4 + 0x10C + n * 0x20, 0, 32⟩
def LC_MATCH_MATCH (n : Nat) : Fld := ⟨pageBase 0x4 + 0x110 + n * 0x20, 0, 32⟩
def LC_CAP_CAP (n : Nat) : Fld := ⟨pageBase 0x4 + 0x114 + n * 0x20, 0, 32⟩
def LC_STAT_RUNNING (n : Nat) : Fld := ⟨pageBase 0x4 + 0x118 + n * 0x20, 7, 1⟩
def LC_STAT_EDGE_LOST (n : Nat) : Fld := ⟨pageBase 0x4 + 0x118 + n * 0x20, 6, 1⟩
def LC_STAT_TORN_RISK (n : Nat) : Fld := ⟨pageBase 0x4 + 0x118 + n * 0x20, 5, 1⟩
def LC_STAT_SKIP (n : Nat) : Fld := ⟨pageBase 0x4 + 0x118 + n * 0x20, 4, 1⟩
def LC_STAT_OVERFLOWED (n : Nat) : Fld := ⟨pageBase 0x4 + 0x118 + n * 0x20, 3, 1⟩
def LC_STAT_MATCHED (n : Nat) : Fld := ⟨pageBase 0x4 + 0x118 + n * 0x20, 2, 1⟩
def LC_STAT_OVERRUN (n : Nat) : Fld := ⟨pageBase 0x4 + 0x118 + n * 0x20, 1, 1⟩
def LC_STAT_FULL (n : Nat) : Fld := ⟨pageBase 0x4 + 0x118 + n * 0x20, 0, 1⟩

/-- The registers of LC. -/
def pageLC : List Row := [
  r1 0x40 [fk 0 16 0],
  r1 0x44 [fl .wo 31 1 0, fl .wo 0 4 0],
  r1 0x48 [fl .ro 0 32 0],
  r1 0x4C [fl .ro 0 32 0],
  rb 0x100 0x20 16 [fk 31 1 0, fk 30 1 0, fk 29 1 0, fk 28 1 0, fk 26 2 0, fk 23 3 0, fk 19 4 0, fk 16 3 0, fk 0 10 0],
  rb 0x104 0x20 16 [fk 24 6 0, fk 23 1 0, fk 16 4 0, fk 12 1 0, fk 11 1 0, fk 10 1 0, fk 9 1 0, fk 8 1 0, fk 6 1 0, fk 5 1 0, fk 4 1 0, fk 3 1 0, fk 2 1 0, fk 1 1 0, fk 0 1 0],
  rb 0x108 0x20 16 [fk 0 16 0],
  rb 0x10C 0x20 16 [fl .rw 0 32 0],
  rb 0x110 0x20 16 [fk 0 32 0],
  rb 0x114 0x20 16 [fl .ro 0 32 0],
  rb 0x118 0x20 16 [fl .ro 7 1 0, fl .w1c 6 1 0, fl .w1c 5 1 0, fl .w1c 4 1 0, fl .w1c 3 1 0, fl .w1c 2 1 0, fl .w1c 1 1 0, fl .ro 0 1 0]]

/-! ### AFE (spec chapters 05) -/

def AFE_IN_ENABLE_EN (i : Nat) : Fld := ⟨pageBase (0x8 + i) + 0x40, 0, 8⟩
def AFE_IN_CFG_BURNOUT (i n : Nat) : Fld := ⟨pageBase (0x8 + i) + 0x100 + n * 0x20, 13, 1⟩
def AFE_IN_CFG_REF_SEL (i n : Nat) : Fld := ⟨pageBase (0x8 + i) + 0x100 + n * 0x20, 10, 3⟩
def AFE_IN_CFG_CHOP_DIV (i n : Nat) : Fld := ⟨pageBase (0x8 + i) + 0x100 + n * 0x20, 7, 3⟩
def AFE_IN_CFG_CHOP (i n : Nat) : Fld := ⟨pageBase (0x8 + i) + 0x100 + n * 0x20, 6, 1⟩
def AFE_IN_CFG_LP (i n : Nat) : Fld := ⟨pageBase (0x8 + i) + 0x100 + n * 0x20, 5, 1⟩
def AFE_IN_CFG_GAIN (i n : Nat) : Fld := ⟨pageBase (0x8 + i) + 0x100 + n * 0x20, 2, 3⟩
def AFE_IN_CFG_ENABLE (i n : Nat) : Fld := ⟨pageBase (0x8 + i) + 0x100 + n * 0x20, 0, 1⟩
def AFE_IN_STAT_SPARE_DELIVERING (i n : Nat) : Fld := ⟨pageBase (0x8 + i) + 0x104 + n * 0x20, 4, 1⟩
def AFE_IN_STAT_RECAL (i n : Nat) : Fld := ⟨pageBase (0x8 + i) + 0x104 + n * 0x20, 3, 1⟩
def AFE_IN_STAT_CHOP_RATIO (i n : Nat) : Fld := ⟨pageBase (0x8 + i) + 0x104 + n * 0x20, 2, 1⟩
def AFE_IN_STAT_BOUND (i n : Nat) : Fld := ⟨pageBase (0x8 + i) + 0x104 + n * 0x20, 1, 1⟩
def AFE_IN_STAT_RUNNING (i n : Nat) : Fld := ⟨pageBase (0x8 + i) + 0x104 + n * 0x20, 0, 1⟩
def AFE_CORR_OFS_OFS (i n : Nat) : Fld := ⟨pageBase (0x8 + i) + 0x108 + n * 0x20, 0, 32⟩
def AFE_CORR_GAIN_GAIN (i n : Nat) : Fld := ⟨pageBase (0x8 + i) + 0x10C + n * 0x20, 0, 32⟩
def AFE_CAL_TB_TB (i n : Nat) : Fld := ⟨pageBase (0x8 + i) + 0x110 + n * 0x20, 0, 32⟩

/-- The registers of AFE. -/
def pageAFE : List Row := [
  r1 0x40 [fk 0 8 0],
  rb 0x100 0x20 8 [fk 13 1 0, fk 10 3 0, fk 7 3 0, fk 6 1 0, fk 5 1 0, fk 2 3 0, fk 0 1 0],
  rb 0x104 0x20 8 [fl .ro 4 1 0, fl .ro 3 1 0, fl .ro 2 1 0, fl .ro 1 1 0, fl .ro 0 1 0],
  rb 0x108 0x20 8 [fk 0 32 0],
  rb 0x10C 0x20 8 [fk 0 32 0x400000],
  rb 0x110 0x20 8 [fkro 0 32 0]]

/-! ### AFE_COM (spec chapters 05,21) -/

def AFE_COM_REF_CTRL_VCM_EN : Fld := ⟨pageBase 0x10 + 0x40, 2, 1⟩
def AFE_COM_REF_CTRL_VREF_OUT_EN : Fld := ⟨pageBase 0x10 + 0x40, 1, 1⟩
def AFE_COM_REF_CTRL_INT_EN : Fld := ⟨pageBase 0x10 + 0x40, 0, 1⟩
def AFE_COM_VEXC_CTRL_EN3 : Fld := ⟨pageBase 0x10 + 0x44, 31, 1⟩
def AFE_COM_VEXC_CTRL_LEVEL3 : Fld := ⟨pageBase 0x10 + 0x44, 29, 2⟩
def AFE_COM_VEXC_CTRL_GATE3 : Fld := ⟨pageBase 0x10 + 0x44, 28, 1⟩
def AFE_COM_VEXC_CTRL_PG3 : Fld := ⟨pageBase 0x10 + 0x44, 24, 4⟩
def AFE_COM_VEXC_CTRL_EN2 : Fld := ⟨pageBase 0x10 + 0x44, 23, 1⟩
def AFE_COM_VEXC_CTRL_LEVEL2 : Fld := ⟨pageBase 0x10 + 0x44, 21, 2⟩
def AFE_COM_VEXC_CTRL_GATE2 : Fld := ⟨pageBase 0x10 + 0x44, 20, 1⟩
def AFE_COM_VEXC_CTRL_PG2 : Fld := ⟨pageBase 0x10 + 0x44, 16, 4⟩
def AFE_COM_VEXC_CTRL_EN1 : Fld := ⟨pageBase 0x10 + 0x44, 15, 1⟩
def AFE_COM_VEXC_CTRL_LEVEL1 : Fld := ⟨pageBase 0x10 + 0x44, 13, 2⟩
def AFE_COM_VEXC_CTRL_GATE1 : Fld := ⟨pageBase 0x10 + 0x44, 12, 1⟩
def AFE_COM_VEXC_CTRL_PG1 : Fld := ⟨pageBase 0x10 + 0x44, 8, 4⟩
def AFE_COM_VEXC_CTRL_EN0 : Fld := ⟨pageBase 0x10 + 0x44, 7, 1⟩
def AFE_COM_VEXC_CTRL_LEVEL0 : Fld := ⟨pageBase 0x10 + 0x44, 5, 2⟩
def AFE_COM_VEXC_CTRL_GATE0 : Fld := ⟨pageBase 0x10 + 0x44, 4, 1⟩
def AFE_COM_VEXC_CTRL_PG0 : Fld := ⟨pageBase 0x10 + 0x44, 0, 4⟩
def AFE_COM_IEXC_CTRL_EN7 : Fld := ⟨pageBase 0x10 + 0x48, 31, 1⟩
def AFE_COM_IEXC_CTRL_LEVEL7 : Fld := ⟨pageBase 0x10 + 0x48, 28, 3⟩
def AFE_COM_IEXC_CTRL_EN6 : Fld := ⟨pageBase 0x10 + 0x48, 27, 1⟩
def AFE_COM_IEXC_CTRL_LEVEL6 : Fld := ⟨pageBase 0x10 + 0x48, 24, 3⟩
def AFE_COM_IEXC_CTRL_EN5 : Fld := ⟨pageBase 0x10 + 0x48, 23, 1⟩
def AFE_COM_IEXC_CTRL_LEVEL5 : Fld := ⟨pageBase 0x10 + 0x48, 20, 3⟩
def AFE_COM_IEXC_CTRL_EN4 : Fld := ⟨pageBase 0x10 + 0x48, 19, 1⟩
def AFE_COM_IEXC_CTRL_LEVEL4 : Fld := ⟨pageBase 0x10 + 0x48, 16, 3⟩
def AFE_COM_IEXC_CTRL_EN3 : Fld := ⟨pageBase 0x10 + 0x48, 15, 1⟩
def AFE_COM_IEXC_CTRL_LEVEL3 : Fld := ⟨pageBase 0x10 + 0x48, 12, 3⟩
def AFE_COM_IEXC_CTRL_EN2 : Fld := ⟨pageBase 0x10 + 0x48, 11, 1⟩
def AFE_COM_IEXC_CTRL_LEVEL2 : Fld := ⟨pageBase 0x10 + 0x48, 8, 3⟩
def AFE_COM_IEXC_CTRL_EN1 : Fld := ⟨pageBase 0x10 + 0x48, 7, 1⟩
def AFE_COM_IEXC_CTRL_LEVEL1 : Fld := ⟨pageBase 0x10 + 0x48, 4, 3⟩
def AFE_COM_IEXC_CTRL_EN0 : Fld := ⟨pageBase 0x10 + 0x48, 3, 1⟩
def AFE_COM_IEXC_CTRL_LEVEL0 : Fld := ⟨pageBase 0x10 + 0x48, 0, 3⟩
def AFE_COM_HK_CTRL_GO : Fld := ⟨pageBase 0x10 + 0x50, 8, 1⟩
def AFE_COM_HK_CTRL_SCAN_LEN_M1 : Fld := ⟨pageBase 0x10 + 0x50, 4, 4⟩
def AFE_COM_HK_CTRL_OSR : Fld := ⟨pageBase 0x10 + 0x50, 2, 2⟩
def AFE_COM_HK_CTRL_SCAN_EVT : Fld := ⟨pageBase 0x10 + 0x50, 1, 1⟩
def AFE_COM_HK_CTRL_CONTINUOUS : Fld := ⟨pageBase 0x10 + 0x50, 0, 1⟩
def AFE_COM_HK_STAT_SCANS : Fld := ⟨pageBase 0x10 + 0x54, 16, 16⟩
def AFE_COM_HK_STAT_ENTRY : Fld := ⟨pageBase 0x10 + 0x54, 0, 4⟩
def AFE_COM_HK_ENTRY_CH_EN (n : Nat) : Fld := ⟨pageBase 0x10 + 0x80 + n * 0x4, 16, 1⟩
def AFE_COM_HK_ENTRY_CHANNEL (n : Nat) : Fld := ⟨pageBase 0x10 + 0x80 + n * 0x4, 8, 8⟩
def AFE_COM_HK_ENTRY_CODE (n : Nat) : Fld := ⟨pageBase 0x10 + 0x80 + n * 0x4, 0, 8⟩
def AFE_COM_HK_RESULT_VALUE (n : Nat) : Fld := ⟨pageBase 0x10 + 0xC0 + n * 0x4, 0, 32⟩
def AFE_COM_SM_CTRL_ABORT (n : Nat) : Fld := ⟨pageBase 0x10 + 0x100 + n * 0x20, 25, 1⟩
def AFE_COM_SM_CTRL_START (n : Nat) : Fld := ⟨pageBase 0x10 + 0x100 + n * 0x20, 24, 1⟩
def AFE_COM_SM_CTRL_CAL_OUTPUTS (n : Nat) : Fld := ⟨pageBase 0x10 + 0x100 + n * 0x20, 16, 8⟩
def AFE_COM_SM_CTRL_OVERLAP (n : Nat) : Fld := ⟨pageBase 0x10 + 0x100 + n * 0x20, 8, 8⟩
def AFE_COM_SM_CTRL_SEAM_COMP (n : Nat) : Fld := ⟨pageBase 0x10 + 0x100 + n * 0x20, 7, 1⟩
def AFE_COM_SM_CTRL_TARGET (n : Nat) : Fld := ⟨pageBase 0x10 + 0x100 + n * 0x20, 0, 4⟩
def AFE_COM_SM_STAT_RESULT (n : Nat) : Fld := ⟨pageBase 0x10 + 0x104 + n * 0x20, 4, 4⟩
def AFE_COM_SM_STAT_STATE (n : Nat) : Fld := ⟨pageBase 0x10 + 0x104 + n * 0x20, 0, 3⟩
def AFE_COM_SEAM_IN_SEAM (n : Nat) : Fld := ⟨pageBase 0x10 + 0x108 + n * 0x20, 0, 32⟩
def AFE_COM_SEAM_OUT_SEAM (n : Nat) : Fld := ⟨pageBase 0x10 + 0x10C + n * 0x20, 0, 32⟩
def AFE_COM_CAL_OFS_OFS (n : Nat) : Fld := ⟨pageBase 0x10 + 0x110 + n * 0x20, 0, 32⟩
def AFE_COM_CAL_GAIN_GAIN (n : Nat) : Fld := ⟨pageBase 0x10 + 0x114 + n * 0x20, 0, 32⟩
def AFE_COM_SM_SCHED_EN (n : Nat) : Fld := ⟨pageBase 0x10 + 0x118 + n * 0x20, 31, 1⟩
def AFE_COM_SM_SCHED_CMP (n : Nat) : Fld := ⟨pageBase 0x10 + 0x118 + n * 0x20, 24, 6⟩
def AFE_COM_SM_SCHED_MASK (n : Nat) : Fld := ⟨pageBase 0x10 + 0x118 + n * 0x20, 0, 16⟩
def AFE_COM_SM_SCHED_STAT_SKIPPED (n : Nat) : Fld := ⟨pageBase 0x10 + 0x11C + n * 0x20, 16, 16⟩
def AFE_COM_SM_SCHED_STAT_RUNS (n : Nat) : Fld := ⟨pageBase 0x10 + 0x11C + n * 0x20, 8, 8⟩
def AFE_COM_SM_SCHED_STAT_LAST (n : Nat) : Fld := ⟨pageBase 0x10 + 0x11C + n * 0x20, 0, 4⟩

/-- The registers of AFE_COM. -/
def pageAFE_COM : List Row := [
  r1 0x40 [fk 2 1 1, fk 1 1 0, fk 0 1 1],
  r1 0x44 [fk 31 1 0, fk 29 2 0, fk 28 1 0, fk 24 4 0, fk 23 1 0, fk 21 2 0, fk 20 1 0, fk 16 4 0, fk 15 1 0, fk 13 2 0, fk 12 1 0, fk 8 4 0, fk 7 1 0, fk 5 2 0, fk 4 1 0, fk 0 4 0],
  r1 0x48 [fk 31 1 0, fk 28 3 0, fk 27 1 0, fk 24 3 0, fk 23 1 0, fk 20 3 0, fk 19 1 0, fk 16 3 0, fk 15 1 0, fk 12 3 0, fk 11 1 0, fk 8 3 0, fk 7 1 0, fk 4 3 0, fk 3 1 0, fk 0 3 0],
  r1 0x50 [fl .wo 8 1 0, fk 4 4 2, fk 2 2 1, fk 1 1 0, fk 0 1 1],
  r1 0x54 [fl .ro 16 16 0, fl .ro 0 4 0],
  rb 0x80 0x4 16 [fk 16 1 0, fk 8 8 0, fk 0 8 0],
  rb 0xC0 0x4 16 [fl .ro 0 32 0],
  rb 0x100 0x20 4 [fl .wo 25 1 0, fl .wo 24 1 0, fk 16 8 16, fk 8 8 16, fk 7 1 1, fk 0 4 0],
  rb 0x104 0x20 4 [fl .ro 4 4 0, fl .ro 0 3 0],
  rb 0x108 0x20 4 [fl .ro 0 32 0],
  rb 0x10C 0x20 4 [fl .ro 0 32 0],
  rb 0x110 0x20 4 [fl .ro 0 32 0],
  rb 0x114 0x20 4 [fl .ro 0 32 0],
  rb 0x118 0x20 4 [fk 31 1 0, fk 24 6 0, fk 0 16 0],
  rb 0x11C 0x20 4 [fl .rc 16 16 0, fl .rc 8 8 0, fl .ro 0 4 15]]

/-! ### PDM (spec chapters 05) -/

def PDM_CLK_CTRL_RATE : Fld := ⟨pageBase 0x11 + 0x40, 4, 4⟩
def PDM_CLK_CTRL_EN : Fld := ⟨pageBase 0x11 + 0x40, 0, 4⟩
def PDM_STREAM_EN_EN : Fld := ⟨pageBase 0x11 + 0x44, 0, 32⟩
def PDM_PULL_EN : Fld := ⟨pageBase 0x11 + 0x48, 0, 16⟩
def PDM_STUCK_CFG_LEN : Fld := ⟨pageBase 0x11 + 0x4C, 0, 4⟩
def PDM_STUCK_STUCK : Fld := ⟨pageBase 0x11 + 0x50, 0, 32⟩

/-- The registers of PDM. -/
def pagePDM : List Row := [
  r1 0x40 [fk 4 4 0, fk 0 4 0],
  r1 0x44 [fk 0 32 0],
  r1 0x48 [fk 0 16 65535],
  r1 0x4C [fk 0 4 4],
  r1 0x50 [fl .w1c 0 32 0]]

/-! ### WM (spec chapters 06) -/

def WM_ENABLE_EN : Fld := ⟨pageBase 0x14 + 0x40, 0, 16⟩
def WM_EVT_SUM_SRC : Fld := ⟨pageBase 0x14 + 0x44, 0, 16⟩
def WM_CFG_TRIP_ON_UNSETTLED (n : Nat) : Fld := ⟨pageBase 0x14 + 0x100 + n * 0x20, 19, 1⟩
def WM_CFG_LC_OUT (n : Nat) : Fld := ⟨pageBase 0x14 + 0x100 + n * 0x20, 17, 2⟩
def WM_CFG_DOZE_EN (n : Nat) : Fld := ⟨pageBase 0x14 + 0x100 + n * 0x20, 16, 1⟩
def WM_CFG_FCLK (n : Nat) : Fld := ⟨pageBase 0x14 + 0x100 + n * 0x20, 14, 2⟩
def WM_CFG_FILT (n : Nat) : Fld := ⟨pageBase 0x14 + 0x100 + n * 0x20, 12, 2⟩
def WM_CFG_ATTEN (n : Nat) : Fld := ⟨pageBase 0x14 + 0x100 + n * 0x20, 11, 1⟩
def WM_CFG_MODE (n : Nat) : Fld := ⟨pageBase 0x14 + 0x100 + n * 0x20, 9, 2⟩
def WM_CFG_HI_EN (n : Nat) : Fld := ⟨pageBase 0x14 + 0x100 + n * 0x20, 8, 1⟩
def WM_CFG_LO_EN (n : Nat) : Fld := ⟨pageBase 0x14 + 0x100 + n * 0x20, 7, 1⟩
def WM_THR_HI_HYST (n : Nat) : Fld := ⟨pageBase 0x14 + 0x104 + n * 0x20, 28, 3⟩
def WM_THR_HI_THR (n : Nat) : Fld := ⟨pageBase 0x14 + 0x104 + n * 0x20, 16, 10⟩
def WM_THR_LO_HYST (n : Nat) : Fld := ⟨pageBase 0x14 + 0x104 + n * 0x20, 12, 3⟩
def WM_THR_LO_THR (n : Nat) : Fld := ⟨pageBase 0x14 + 0x104 + n * 0x20, 0, 10⟩
def WM_STAT_CHECKING (n : Nat) : Fld := ⟨pageBase 0x14 + 0x108 + n * 0x20, 7, 1⟩
def WM_STAT_UNSETTLED_HI (n : Nat) : Fld := ⟨pageBase 0x14 + 0x108 + n * 0x20, 6, 1⟩
def WM_STAT_UNSETTLED_LO (n : Nat) : Fld := ⟨pageBase 0x14 + 0x108 + n * 0x20, 5, 1⟩
def WM_STAT_INSIDE_F (n : Nat) : Fld := ⟨pageBase 0x14 + 0x108 + n * 0x20, 4, 1⟩
def WM_STAT_HI_F (n : Nat) : Fld := ⟨pageBase 0x14 + 0x108 + n * 0x20, 3, 1⟩
def WM_STAT_LO_F (n : Nat) : Fld := ⟨pageBase 0x14 + 0x108 + n * 0x20, 2, 1⟩
def WM_STAT_HI_RAW (n : Nat) : Fld := ⟨pageBase 0x14 + 0x108 + n * 0x20, 1, 1⟩
def WM_STAT_LO_RAW (n : Nat) : Fld := ⟨pageBase 0x14 + 0x108 + n * 0x20, 0, 1⟩
def WM_EVT_SETTLED (n : Nat) : Fld := ⟨pageBase 0x14 + 0x10C + n * 0x20, 4, 1⟩
def WM_EVT_HI_RISE (n : Nat) : Fld := ⟨pageBase 0x14 + 0x10C + n * 0x20, 3, 1⟩
def WM_EVT_HI_FALL (n : Nat) : Fld := ⟨pageBase 0x14 + 0x10C + n * 0x20, 2, 1⟩
def WM_EVT_LO_RISE (n : Nat) : Fld := ⟨pageBase 0x14 + 0x10C + n * 0x20, 1, 1⟩
def WM_EVT_LO_FALL (n : Nat) : Fld := ⟨pageBase 0x14 + 0x10C + n * 0x20, 0, 1⟩
def WM_EVT_EN_SETTLED (n : Nat) : Fld := ⟨pageBase 0x14 + 0x110 + n * 0x20, 4, 1⟩
def WM_EVT_EN_HI_RISE (n : Nat) : Fld := ⟨pageBase 0x14 + 0x110 + n * 0x20, 3, 1⟩
def WM_EVT_EN_HI_FALL (n : Nat) : Fld := ⟨pageBase 0x14 + 0x110 + n * 0x20, 2, 1⟩
def WM_EVT_EN_LO_RISE (n : Nat) : Fld := ⟨pageBase 0x14 + 0x110 + n * 0x20, 1, 1⟩
def WM_EVT_EN_LO_FALL (n : Nat) : Fld := ⟨pageBase 0x14 + 0x110 + n * 0x20, 0, 1⟩
def WM_CHECK_RESULT_HI (n : Nat) : Fld := ⟨pageBase 0x14 + 0x114 + n * 0x20, 16, 4⟩
def WM_CHECK_RESULT_LO (n : Nat) : Fld := ⟨pageBase 0x14 + 0x114 + n * 0x20, 12, 4⟩
def WM_CHECK_CMD (n : Nat) : Fld := ⟨pageBase 0x14 + 0x114 + n * 0x20, 0, 3⟩

/-- The registers of WM. -/
def pageWM : List Row := [
  r1 0x40 [fk 0 16 0],
  r1 0x44 [fl .ro 0 16 0],
  rb 0x100 0x20 16 [fk 19 1 0, fk 17 2 0, fk 16 1 0, fk 14 2 1, fk 12 2 0, fk 11 1 0, fk 9 2 3, fk 8 1 0, fk 7 1 0],
  rb 0x104 0x20 16 [fk 28 3 0, fk 16 10 1023, fk 12 3 0, fk 0 10 0],
  rb 0x108 0x20 16 [fl .ro 7 1 0, fl .ro 6 1 0, fl .ro 5 1 0, fl .ro 4 1 0, fl .ro 3 1 0, fl .ro 2 1 0, fl .ro 1 1 0, fl .ro 0 1 0],
  rb 0x10C 0x20 16 [fl .w1c 4 1 0, fl .w1c 3 1 0, fl .w1c 2 1 0, fl .w1c 1 1 0, fl .w1c 0 1 0],
  rb 0x110 0x20 16 [fk 4 1 0, fk 3 1 0, fk 2 1 0, fk 1 1 0, fk 0 1 0],
  rb 0x114 0x20 16 [fl .ro 16 4 0, fl .ro 12 4 0, fl .wo 0 3 0]]

/-! ### PG (spec chapters 06) -/

def PG_RUN_RUN : Fld := ⟨pageBase 0x15 + 0x40, 0, 16⟩
def PG_START_GO : Fld := ⟨pageBase 0x15 + 0x44, 0, 16⟩
def PG_TRIPPED_TRIP : Fld := ⟨pageBase 0x15 + 0x48, 0, 16⟩
def PG_OUT_LEVEL : Fld := ⟨pageBase 0x15 + 0x4C, 0, 16⟩
def PG_CFG_NPER (n : Nat) : Fld := ⟨pageBase 0x15 + 0x100 + n * 0x20, 16, 16⟩
def PG_CFG_TRIG_EN (n : Nat) : Fld := ⟨pageBase 0x15 + 0x100 + n * 0x20, 15, 1⟩
def PG_CFG_TRIG_CMP (n : Nat) : Fld := ⟨pageBase 0x15 + 0x100 + n * 0x20, 9, 6⟩
def PG_CFG_RESTART (n : Nat) : Fld := ⟨pageBase 0x15 + 0x100 + n * 0x20, 8, 1⟩
def PG_CFG_POL (n : Nat) : Fld := ⟨pageBase 0x15 + 0x100 + n * 0x20, 7, 1⟩
def PG_CFG_SAFE (n : Nat) : Fld := ⟨pageBase 0x15 + 0x100 + n * 0x20, 5, 2⟩
def PG_CFG_CLEAR_MODE (n : Nat) : Fld := ⟨pageBase 0x15 + 0x100 + n * 0x20, 4, 1⟩
def PG_CFG_RETRY_LIMIT (n : Nat) : Fld := ⟨pageBase 0x15 + 0x100 + n * 0x20, 0, 4⟩
def PG_PERIOD_TICKS (n : Nat) : Fld := ⟨pageBase 0x15 + 0x104 + n * 0x20, 0, 32⟩
def PG_DELAY_TICKS (n : Nat) : Fld := ⟨pageBase 0x15 + 0x108 + n * 0x20, 0, 32⟩
def PG_WIDTH_TICKS (n : Nat) : Fld := ⟨pageBase 0x15 + 0x10C + n * 0x20, 0, 32⟩
def PG_TRIP_DUTY_MAX (n : Nat) : Fld := ⟨pageBase 0x15 + 0x110 + n * 0x20, 24, 8⟩
def PG_TRIP_BLANK (n : Nat) : Fld := ⟨pageBase 0x15 + 0x110 + n * 0x20, 16, 8⟩
def PG_TRIP_COND (n : Nat) : Fld := ⟨pageBase 0x15 + 0x110 + n * 0x20, 5, 2⟩
def PG_TRIP_TRIP_EN (n : Nat) : Fld := ⟨pageBase 0x15 + 0x110 + n * 0x20, 4, 1⟩
def PG_TRIP_WM (n : Nat) : Fld := ⟨pageBase 0x15 + 0x110 + n * 0x20, 0, 4⟩
def PG_STAT_RETRIES (n : Nat) : Fld := ⟨pageBase 0x15 + 0x114 + n * 0x20, 24, 8⟩
def PG_STAT_LOCKOUT (n : Nat) : Fld := ⟨pageBase 0x15 + 0x114 + n * 0x20, 7, 1⟩
def PG_STAT_CAUSE (n : Nat) : Fld := ⟨pageBase 0x15 + 0x114 + n * 0x20, 5, 2⟩
def PG_STAT_RUNNING (n : Nat) : Fld := ⟨pageBase 0x15 + 0x114 + n * 0x20, 4, 1⟩
def PG_STAT_PERIOD_EVT (n : Nat) : Fld := ⟨pageBase 0x15 + 0x114 + n * 0x20, 3, 1⟩
def PG_STAT_LOCKOUT_EVT (n : Nat) : Fld := ⟨pageBase 0x15 + 0x114 + n * 0x20, 2, 1⟩
def PG_STAT_TRIP_EVT (n : Nat) : Fld := ⟨pageBase 0x15 + 0x114 + n * 0x20, 1, 1⟩
def PG_EVT_EN_EN (n : Nat) : Fld := ⟨pageBase 0x15 + 0x118 + n * 0x20, 1, 3⟩
def PG_DUTY_TICKS (n : Nat) : Fld := ⟨pageBase 0x15 + 0x11C + n * 0x20, 0, 28⟩

/-- The registers of PG. -/
def pagePG : List Row := [
  r1 0x40 [fk 0 16 0],
  r1 0x44 [fl .wo 0 16 0],
  r1 0x48 [fl .w1c 0 16 0],
  r1 0x4C [fl .ro 0 16 0],
  rb 0x100 0x20 16 [fk 16 16 0, fk 15 1 0, fk 9 6 0, fk 8 1 1, fk 7 1 1, fk 5 2 0, fk 4 1 0, fk 0 4 0],
  rb 0x104 0x20 16 [fk 0 32 131072],
  rb 0x108 0x20 16 [fk 0 32 0],
  rb 0x10C 0x20 16 [fk 0 32 0],
  rb 0x110 0x20 16 [fk 24 8 128, fk 16 8 0, fk 5 2 0, fk 4 1 0, fk 0 4 0],
  rb 0x114 0x20 16 [fl .ro 24 8 0, fl .ro 7 1 0, fl .ro 5 2 0, fl .ro 4 1 0, fl .w1c 3 1 0, fl .w1c 2 1 0, fl .w1c 1 1 0],
  rb 0x118 0x20 16 [fk 1 3 0],
  rb 0x11C 0x20 16 [fl .ro 0 28 0]]

/-! ### ANV (spec chapters 07,21) -/

def ANV_SL_UTIL_PEAK (i : Nat) : Fld := ⟨pageBase (0x18 + i) + 0x40, 16, 16⟩
def ANV_SL_UTIL_NOW (i : Nat) : Fld := ⟨pageBase (0x18 + i) + 0x40, 0, 16⟩
def ANV_SL_CHANS_COUNT (i : Nat) : Fld := ⟨pageBase (0x18 + i) + 0x44, 0, 9⟩
def ANV_SL_STAT_CAUSE (i : Nat) : Fld := ⟨pageBase (0x18 + i) + 0x48, 8, 3⟩
def ANV_SL_STAT_TEST (i : Nat) : Fld := ⟨pageBase (0x18 + i) + 0x48, 4, 2⟩
def ANV_SL_STAT_ROLE (i : Nat) : Fld := ⟨pageBase (0x18 + i) + 0x48, 0, 2⟩
def ANV_SL_CMD_DRAIN (i : Nat) : Fld := ⟨pageBase (0x18 + i) + 0x4C, 2, 1⟩
def ANV_SL_CMD_UNFENCE (i : Nat) : Fld := ⟨pageBase (0x18 + i) + 0x4C, 1, 1⟩
def ANV_SL_CMD_TEST (i : Nat) : Fld := ⟨pageBase (0x18 + i) + 0x4C, 0, 1⟩
def ANV_ECC_CNT_CORR (i : Nat) : Fld := ⟨pageBase (0x18 + i) + 0x50, 16, 16⟩
def ANV_ECC_CNT_UNCORR (i : Nat) : Fld := ⟨pageBase (0x18 + i) + 0x50, 0, 16⟩

/-- The registers of ANV. -/
def pageANV : List Row := [
  r1 0x40 [ft 16 16 0, fl .ro 0 16 0],
  r1 0x44 [fl .ro 0 9 0],
  r1 0x48 [fl .ro 8 3 0, fl .ro 4 2 0, fl .ro 0 2 0],
  r1 0x4C [fl .wo 2 1 0, fl .wo 1 1 0, fl .wo 0 1 0],
  r1 0x50 [fl .rc 16 16 0, fl .rc 0 16 0]]

/-! ### SCHED (spec chapters 07,08,21) -/

def SCHED_LOAD_A_STEPS : Fld := ⟨pageBase 0x1B + 0x40, 0, 32⟩
def SCHED_LOAD_B_STEPS : Fld := ⟨pageBase 0x1B + 0x44, 0, 32⟩
def SCHED_WATCH_SET_COUNT : Fld := ⟨pageBase 0x1B + 0x48, 27, 5⟩
def SCHED_WATCH_SET_LOAD : Fld := ⟨pageBase 0x1B + 0x48, 0, 26⟩
def SCHED_LAST_REFUSAL_VALID : Fld := ⟨pageBase 0x1B + 0x4C, 31, 1⟩
def SCHED_LAST_REFUSAL_REASON : Fld := ⟨pageBase 0x1B + 0x4C, 8, 4⟩
def SCHED_LAST_REFUSAL_CHANNEL : Fld := ⟨pageBase 0x1B + 0x4C, 0, 8⟩
def SCHED_SHED_COUNT_NOW : Fld := ⟨pageBase 0x1B + 0x50, 0, 9⟩
def SCHED_MISS_COUNT_COUNT : Fld := ⟨pageBase 0x1B + 0x54, 0, 32⟩
def SCHED_SWAP_GO : Fld := ⟨pageBase 0x1B + 0x60, 31, 1⟩
def SCHED_SWAP_NEW_BANK : Fld := ⟨pageBase 0x1B + 0x60, 24, 4⟩
def SCHED_SWAP_FADE_M1 : Fld := ⟨pageBase 0x1B + 0x60, 16, 8⟩
def SCHED_SWAP_CHANNEL : Fld := ⟨pageBase 0x1B + 0x60, 0, 8⟩
def SCHED_RETUNE_GO : Fld := ⟨pageBase 0x1B + 0x64, 31, 1⟩
def SCHED_RETUNE_CHANNEL : Fld := ⟨pageBase 0x1B + 0x64, 0, 8⟩
def SCHED_SYNC_GO : Fld := ⟨pageBase 0x1B + 0x68, 31, 1⟩
def SCHED_SYNC_CMP : Fld := ⟨pageBase 0x1B + 0x68, 0, 6⟩
def SCHED_HOLD_FREE : Fld := ⟨pageBase 0x1B + 0x6C, 0, 10⟩
def SCHED_SYNC_PEND_LO_PEND : Fld := ⟨pageBase 0x1B + 0x70, 0, 32⟩
def SCHED_SYNC_PEND_HI_PEND : Fld := ⟨pageBase 0x1B + 0x74, 0, 32⟩
def SCHED_AUDIT_CFG_EN : Fld := ⟨pageBase 0x1B + 0x78, 31, 1⟩
def SCHED_AUDIT_CFG_PARALLEL : Fld := ⟨pageBase 0x1B + 0x78, 16, 5⟩
def SCHED_AUDIT_CFG_OUTPUTS : Fld := ⟨pageBase 0x1B + 0x78, 0, 8⟩
def SCHED_AUDIT_STAT_ROUND_MS : Fld := ⟨pageBase 0x1B + 0x7C, 16, 16⟩
def SCHED_AUDIT_STAT_MISMATCHES : Fld := ⟨pageBase 0x1B + 0x7C, 0, 16⟩
def SCHED_NOCORR_OFF (n : Nat) : Fld := ⟨pageBase 0x1B + 0x80 + n * 0x4, 0, 32⟩

/-- The registers of SCHED. -/
def pageSCHED : List Row := [
  r1 0x40 [fl .ro 0 32 0],
  r1 0x44 [fl .ro 0 32 0],
  r1 0x48 [fl .ro 27 5 0, fl .ro 0 26 0],
  r1 0x4C [fl .w1c 31 1 0, fl .ro 8 4 0, fl .ro 0 8 0],
  r1 0x50 [fl .ro 0 9 0],
  r1 0x54 [fl .rc 0 32 0],
  r1 0x60 [fl .wo 31 1 0, fl .wo 24 4 0, fl .wo 16 8 0, fl .wo 0 8 0],
  r1 0x64 [fl .wo 31 1 0, fl .wo 0 8 0],
  r1 0x68 [fl .wo 31 1 0, fl .wo 0 6 0],
  r1 0x6C [fl .ro 0 10 512],
  r1 0x70 [fl .ro 0 32 0],
  r1 0x74 [fl .ro 0 32 0],
  r1 0x78 [fk 31 1 1, fk 16 5 8, fk 0 8 2],
  r1 0x7C [fl .ro 16 16 0, fl .rc 0 16 0],
  rb 0x80 0x4 8 [fk 0 32 0]]
def SCHED_CH0_EN (n : Nat) : Fld := ⟨tableBase 0x1B + 0x0 + n * 0x40, 31, 1⟩
def SCHED_CH0_WATCH (n : Nat) : Fld := ⟨tableBase 0x1B + 0x0 + n * 0x40, 30, 1⟩
def SCHED_CH0_SLICE (n : Nat) : Fld := ⟨tableBase 0x1B + 0x0 + n * 0x40, 28, 2⟩
def SCHED_CH0_PRIO (n : Nat) : Fld := ⟨tableBase 0x1B + 0x0 + n * 0x40, 24, 4⟩
def SCHED_CH0_SRC_TYPE (n : Nat) : Fld := ⟨tableBase 0x1B + 0x0 + n * 0x40, 20, 4⟩
def SCHED_CH0_SRC_NUM (n : Nat) : Fld := ⟨tableBase 0x1B + 0x0 + n * 0x40, 8, 8⟩
def SCHED_CH0_SUPPRESS_SETTLING (n : Nat) : Fld := ⟨tableBase 0x1B + 0x0 + n * 0x40, 5, 1⟩
def SCHED_CH0_LOCKIN (n : Nat) : Fld := ⟨tableBase 0x1B + 0x0 + n * 0x40, 4, 1⟩
def SCHED_CH0_LOCKIN_PG (n : Nat) : Fld := ⟨tableBase 0x1B + 0x0 + n * 0x40, 0, 4⟩
def SCHED_CH1_CIC_EN (n : Nat) : Fld := ⟨tableBase 0x1B + 0x4 + n * 0x40, 31, 1⟩
def SCHED_CH1_ORDER (n : Nat) : Fld := ⟨tableBase 0x1B + 0x4 + n * 0x40, 28, 3⟩
def SCHED_CH1_RATIO_M1 (n : Nat) : Fld := ⟨tableBase 0x1B + 0x4 + n * 0x40, 0, 16⟩
def SCHED_CH2_SH1_6 (n : Nat) : Fld := ⟨tableBase 0x1B + 0x8 + n * 0x40, 0, 30⟩
def SCHED_CH3_SH7_10 (n : Nat) : Fld := ⟨tableBase 0x1B + 0xC + n * 0x40, 0, 20⟩
def SCHED_CH4_FIR_EN (n : Nat) : Fld := ⟨tableBase 0x1B + 0x10 + n * 0x40, 31, 1⟩
def SCHED_CH4_BANK (n : Nat) : Fld := ⟨tableBase 0x1B + 0x10 + n * 0x40, 24, 4⟩
def SCHED_CH4_FIR_DEC (n : Nat) : Fld := ⟨tableBase 0x1B + 0x10 + n * 0x40, 20, 4⟩
def SCHED_CH4_FORMAT (n : Nat) : Fld := ⟨tableBase 0x1B + 0x10 + n * 0x40, 18, 2⟩
def SCHED_CH4_SHIFT16 (n : Nat) : Fld := ⟨tableBase 0x1B + 0x10 + n * 0x40, 14, 4⟩
def SCHED_CH4_PHASE_DELAY (n : Nat) : Fld := ⟨tableBase 0x1B + 0x10 + n * 0x40, 0, 12⟩
def SCHED_CH5_PTRIM (n : Nat) : Fld := ⟨tableBase 0x1B + 0x14 + n * 0x40, 26, 6⟩
def SCHED_CH5_RESTART_CMP (n : Nat) : Fld := ⟨tableBase 0x1B + 0x14 + n * 0x40, 18, 6⟩
def SCHED_CH5_HSLOT (n : Nat) : Fld := ⟨tableBase 0x1B + 0x14 + n * 0x40, 8, 9⟩
def SCHED_CH5_HCOUNT (n : Nat) : Fld := ⟨tableBase 0x1B + 0x14 + n * 0x40, 5, 3⟩
def SCHED_CH6_QUEUE (n : Nat) : Fld := ⟨tableBase 0x1B + 0x18 + n * 0x40, 23, 9⟩
def SCHED_CH6_LANE (n : Nat) : Fld := ⟨tableBase 0x1B + 0x18 + n * 0x40, 21, 2⟩
def SCHED_CH6_BATCH (n : Nat) : Fld := ⟨tableBase 0x1B + 0x18 + n * 0x40, 13, 8⟩
def SCHED_CH7_MIN_INTERVAL (n : Nat) : Fld := ⟨tableBase 0x1B + 0x1C + n * 0x40, 0, 32⟩
def SCHED_CH8_STATE (n : Nat) : Fld := ⟨tableBase 0x1B + 0x20 + n * 0x40, 28, 4⟩
def SCHED_CH8_REASON (n : Nat) : Fld := ⟨tableBase 0x1B + 0x20 + n * 0x40, 24, 4⟩
def SCHED_CH8_ON_SLICE (n : Nat) : Fld := ⟨tableBase 0x1B + 0x20 + n * 0x40, 22, 2⟩
def SCHED_CH8_LOCKIN_RATIO (n : Nat) : Fld := ⟨tableBase 0x1B + 0x20 + n * 0x40, 3, 1⟩
def SCHED_CH8_OVERRATE (n : Nat) : Fld := ⟨tableBase 0x1B + 0x20 + n * 0x40, 2, 1⟩
def SCHED_CH8_DEADLINE_MISS (n : Nat) : Fld := ⟨tableBase 0x1B + 0x20 + n * 0x40, 1, 1⟩
def SCHED_CH9_LOAD (n : Nat) : Fld := ⟨tableBase 0x1B + 0x24 + n * 0x40, 0, 32⟩
def SCHED_CH10_NORM_M (n : Nat) : Fld := ⟨tableBase 0x1B + 0x28 + n * 0x40, 0, 32⟩
def SCHED_CH11_NORM_E (n : Nat) : Fld := ⟨tableBase 0x1B + 0x2C + n * 0x40, 0, 7⟩
def SCHED_CH12_DELAY_INT (n : Nat) : Fld := ⟨tableBase 0x1B + 0x30 + n * 0x40, 0, 32⟩
def SCHED_CH13_DELAY_FRAC (n : Nat) : Fld := ⟨tableBase 0x1B + 0x34 + n * 0x40, 16, 16⟩
def SCHED_CH13_KSLICE (n : Nat) : Fld := ⟨tableBase 0x1B + 0x34 + n * 0x40, 8, 8⟩
def SCHED_CH13_KSRC (n : Nat) : Fld := ⟨tableBase 0x1B + 0x34 + n * 0x40, 0, 8⟩
def SCHED_CH14_FADE_LEFT (n : Nat) : Fld := ⟨tableBase 0x1B + 0x38 + n * 0x40, 23, 9⟩
def SCHED_CH14_FADE_BANK (n : Nat) : Fld := ⟨tableBase 0x1B + 0x38 + n * 0x40, 19, 4⟩
def SCHED_CH14_SWAP_Q (n : Nat) : Fld := ⟨tableBase 0x1B + 0x38 + n * 0x40, 18, 1⟩
def SCHED_CH14_SWAP_Q_BANK (n : Nat) : Fld := ⟨tableBase 0x1B + 0x38 + n * 0x40, 14, 4⟩
def SCHED_CH14_SWAP_RESULT (n : Nat) : Fld := ⟨tableBase 0x1B + 0x38 + n * 0x40, 11, 3⟩
def SCHED_CH14_RETUNE_RESULT (n : Nat) : Fld := ⟨tableBase 0x1B + 0x38 + n * 0x40, 8, 3⟩
def SCHED_CH14_RETUNING (n : Nat) : Fld := ⟨tableBase 0x1B + 0x38 + n * 0x40, 7, 1⟩
def SCHED_CH15_SETTLE_LEFT (n : Nat) : Fld := ⟨tableBase 0x1B + 0x3C + n * 0x40, 16, 16⟩
def SCHED_CH15_HOLD (n : Nat) : Fld := ⟨tableBase 0x1B + 0x3C + n * 0x40, 0, 10⟩
def SCHED_SB0_EN (n : Nat) : Fld := ⟨tableBase 0x1B + 0x4000 + n * 0x20, 31, 1⟩
def SCHED_SB0_WATCH (n : Nat) : Fld := ⟨tableBase 0x1B + 0x4000 + n * 0x20, 30, 1⟩
def SCHED_SB0_SLICE (n : Nat) : Fld := ⟨tableBase 0x1B + 0x4000 + n * 0x20, 28, 2⟩
def SCHED_SB0_PRIO (n : Nat) : Fld := ⟨tableBase 0x1B + 0x4000 + n * 0x20, 24, 4⟩
def SCHED_SB0_SRC_TYPE (n : Nat) : Fld := ⟨tableBase 0x1B + 0x4000 + n * 0x20, 20, 4⟩
def SCHED_SB0_SRC_NUM (n : Nat) : Fld := ⟨tableBase 0x1B + 0x4000 + n * 0x20, 8, 8⟩
def SCHED_SB0_SUPPRESS_SETTLING (n : Nat) : Fld := ⟨tableBase 0x1B + 0x4000 + n * 0x20, 5, 1⟩
def SCHED_SB0_LOCKIN (n : Nat) : Fld := ⟨tableBase 0x1B + 0x4000 + n * 0x20, 4, 1⟩
def SCHED_SB0_LOCKIN_PG (n : Nat) : Fld := ⟨tableBase 0x1B + 0x4000 + n * 0x20, 0, 4⟩
def SCHED_SB1_CIC_EN (n : Nat) : Fld := ⟨tableBase 0x1B + 0x4004 + n * 0x20, 31, 1⟩
def SCHED_SB1_ORDER (n : Nat) : Fld := ⟨tableBase 0x1B + 0x4004 + n * 0x20, 28, 3⟩
def SCHED_SB1_RATIO_M1 (n : Nat) : Fld := ⟨tableBase 0x1B + 0x4004 + n * 0x20, 0, 16⟩
def SCHED_SB2_SH1_6 (n : Nat) : Fld := ⟨tableBase 0x1B + 0x4008 + n * 0x20, 0, 30⟩
def SCHED_SB3_SH7_10 (n : Nat) : Fld := ⟨tableBase 0x1B + 0x400C + n * 0x20, 0, 20⟩
def SCHED_SB4_FIR_EN (n : Nat) : Fld := ⟨tableBase 0x1B + 0x4010 + n * 0x20, 31, 1⟩
def SCHED_SB4_BANK (n : Nat) : Fld := ⟨tableBase 0x1B + 0x4010 + n * 0x20, 24, 4⟩
def SCHED_SB4_FIR_DEC (n : Nat) : Fld := ⟨tableBase 0x1B + 0x4010 + n * 0x20, 20, 4⟩
def SCHED_SB4_FORMAT (n : Nat) : Fld := ⟨tableBase 0x1B + 0x4010 + n * 0x20, 18, 2⟩
def SCHED_SB4_SHIFT16 (n : Nat) : Fld := ⟨tableBase 0x1B + 0x4010 + n * 0x20, 14, 4⟩
def SCHED_SB4_PHASE_DELAY (n : Nat) : Fld := ⟨tableBase 0x1B + 0x4010 + n * 0x20, 0, 12⟩
def SCHED_SB5_PTRIM (n : Nat) : Fld := ⟨tableBase 0x1B + 0x4014 + n * 0x20, 26, 6⟩
def SCHED_SB5_RESTART_CMP (n : Nat) : Fld := ⟨tableBase 0x1B + 0x4014 + n * 0x20, 18, 6⟩
def SCHED_SB5_HSLOT (n : Nat) : Fld := ⟨tableBase 0x1B + 0x4014 + n * 0x20, 8, 9⟩
def SCHED_SB5_HCOUNT (n : Nat) : Fld := ⟨tableBase 0x1B + 0x4014 + n * 0x20, 5, 3⟩
def SCHED_SB6_QUEUE (n : Nat) : Fld := ⟨tableBase 0x1B + 0x4018 + n * 0x20, 23, 9⟩
def SCHED_SB6_LANE (n : Nat) : Fld := ⟨tableBase 0x1B + 0x4018 + n * 0x20, 21, 2⟩
def SCHED_SB6_BATCH (n : Nat) : Fld := ⟨tableBase 0x1B + 0x4018 + n * 0x20, 13, 8⟩
def SCHED_SB7_MIN_INTERVAL (n : Nat) : Fld := ⟨tableBase 0x1B + 0x401C + n * 0x20, 0, 32⟩

/-- The table space of SCHED. -/
def tableSCHED : List Row := [
  rb 0x0 0x40 256 [fk 31 1 0, fk 30 1 0, fk 28 2 0, fk 24 4 0, fk 20 4 0, fk 8 8 0, fk 5 1 0, fk 4 1 0, fk 0 4 0],
  rb 0x4 0x40 256 [fk 31 1 0, fk 28 3 0, fk 0 16 0],
  rb 0x8 0x40 256 [fk 0 30 0],
  rb 0xC 0x40 256 [fk 0 20 0],
  rb 0x10 0x40 256 [fk 31 1 0, fk 24 4 0, fk 20 4 0, fk 18 2 0, fk 14 4 0, fk 0 12 0],
  rb 0x14 0x40 256 [fk 26 6 0, fk 18 6 0, fk 8 9 0, fk 5 3 0],
  rb 0x18 0x40 256 [fk 23 9 0, fk 21 2 0, fk 13 8 0],
  rb 0x1C 0x40 256 [fk 0 32 0],
  rb 0x20 0x40 256 [fl .ro 28 4 0, fl .ro 24 4 0, fl .ro 22 2 0, fl .ro 3 1 0, fl .w1c 2 1 0, fl .w1c 1 1 0],
  rb 0x24 0x40 256 [fl .ro 0 32 0],
  rb 0x28 0x40 256 [fl .ro 0 32 0],
  rb 0x2C 0x40 256 [fl .ro 0 7 0],
  rb 0x30 0x40 256 [fl .ro 0 32 0],
  rb 0x34 0x40 256 [fl .ro 16 16 0, fl .ro 8 8 0, fl .ro 0 8 0],
  rb 0x38 0x40 256 [fl .ro 23 9 0, fl .ro 19 4 0, fl .ro 18 1 0, fl .ro 14 4 0, fl .ro 11 3 0, fl .ro 8 3 0, fl .ro 7 1 0],
  rb 0x3C 0x40 256 [fl .ro 16 16 0, fl .ro 0 10 0],
  rb 0x4000 0x20 256 [fk 24 4 0, fk 20 4 0, fk 8 8 0, fk 5 1 0, fk 4 1 0, fk 0 4 0],
  rb 0x4004 0x20 256 [fk 31 1 0, fk 28 3 0, fk 0 16 0],
  rb 0x4008 0x20 256 [fk 0 30 0],
  rb 0x400C 0x20 256 [fk 0 20 0],
  rb 0x4010 0x20 256 [fk 31 1 0, fk 24 4 0, fk 20 4 0, fk 18 2 0, fk 14 4 0, fk 0 12 0],
  rb 0x4014 0x20 256 [fk 26 6 0, fk 18 6 0, fk 8 9 0, fk 5 3 0],
  rb 0x4018 0x20 256 [fk 23 9 0, fk 21 2 0, fk 13 8 0],
  rb 0x401C 0x20 256 [fk 0 32 0]]

/-! ### COEF (spec chapters 07) -/

def COEF_TAPS_TAPS (n : Nat) : Fld := ⟨pageBase 0x1C + 0x40 + n * 0x4, 0, 8⟩
def COEF_IN_USE_BANK : Fld := ⟨pageBase 0x1C + 0x80, 0, 16⟩
def COEF_DCSUM_SUM (n : Nat) : Fld := ⟨pageBase 0x1C + 0xC0 + n * 0x4, 0, 32⟩

/-- The registers of COEF. -/
def pageCOEF : List Row := [
  rb 0x40 0x4 16 [fk 0 8 0],
  r1 0x80 [fl .ro 0 16 0],
  rb 0xC0 0x4 16 [fl .ro 0 32 0]]
def COEF_COEF_COEF (n : Nat) : Fld := ⟨tableBase 0x1C + 0x0 + n * 0x4, 0, 24⟩

/-- The table space of COEF. -/
def tableCOEF : List Row := [
  rb 0x0 0x4 2048 [fk 0 24 0]]

/-! ### PORT (spec chapters 09) -/

def PORT_MODE_ECHO (i : Nat) : Fld := ⟨pageBase (0x20 + i) + 0x40, 7, 1⟩
def PORT_MODE_INV (i : Nat) : Fld := ⟨pageBase (0x20 + i) + 0x40, 6, 1⟩
def PORT_MODE_PHY (i : Nat) : Fld := ⟨pageBase (0x20 + i) + 0x40, 4, 2⟩
def PORT_MODE_MODE (i : Nat) : Fld := ⟨pageBase (0x20 + i) + 0x40, 0, 4⟩
def PORT_PIN_CFG_DRIVE2 (i : Nat) : Fld := ⟨pageBase (0x20 + i) + 0x44, 18, 1⟩
def PORT_PIN_CFG_PULL2 (i : Nat) : Fld := ⟨pageBase (0x20 + i) + 0x44, 16, 2⟩
def PORT_PIN_CFG_DRIVE1 (i : Nat) : Fld := ⟨pageBase (0x20 + i) + 0x44, 10, 1⟩
def PORT_PIN_CFG_PULL1 (i : Nat) : Fld := ⟨pageBase (0x20 + i) + 0x44, 8, 2⟩
def PORT_PIN_CFG_DRIVE0 (i : Nat) : Fld := ⟨pageBase (0x20 + i) + 0x44, 2, 1⟩
def PORT_PIN_CFG_PULL0 (i : Nat) : Fld := ⟨pageBase (0x20 + i) + 0x44, 0, 2⟩
def PORT_RATE_BAUD (i : Nat) : Fld := ⟨pageBase (0x20 + i) + 0x48, 0, 24⟩
def PORT_FRAME_MB_TXCRC (i : Nat) : Fld := ⟨pageBase (0x20 + i) + 0x4C, 20, 1⟩
def PORT_FRAME_NMEA_TXCK (i : Nat) : Fld := ⟨pageBase (0x20 + i) + 0x4C, 17, 1⟩
def PORT_FRAME_NMEA_REQ (i : Nat) : Fld := ⟨pageBase (0x20 + i) + 0x4C, 16, 1⟩
def PORT_FRAME_STOP2 (i : Nat) : Fld := ⟨pageBase (0x20 + i) + 0x4C, 7, 1⟩
def PORT_FRAME_PARITY (i : Nat) : Fld := ⟨pageBase (0x20 + i) + 0x4C, 4, 3⟩
def PORT_FRAME_DATA (i : Nat) : Fld := ⟨pageBase (0x20 + i) + 0x4C, 0, 4⟩
def PORT_DE_LAG (i : Nat) : Fld := ⟨pageBase (0x20 + i) + 0x50, 8, 8⟩
def PORT_DE_LEAD (i : Nat) : Fld := ⟨pageBase (0x20 + i) + 0x50, 0, 8⟩
def PORT_SDI12_BRK_MARK (i : Nat) : Fld := ⟨pageBase (0x20 + i) + 0x54, 16, 16⟩
def PORT_SDI12_BRK_BREAK (i : Nat) : Fld := ⟨pageBase (0x20 + i) + 0x54, 0, 16⟩
def PORT_SDI12_RSP_REBREAK (i : Nat) : Fld := ⟨pageBase (0x20 + i) + 0x58, 16, 16⟩
def PORT_SDI12_RSP_RESP_WAIT (i : Nat) : Fld := ⟨pageBase (0x20 + i) + 0x58, 0, 16⟩
def PORT_I2C_STRETCH_TO (i : Nat) : Fld := ⟨pageBase (0x20 + i) + 0x5C, 8, 8⟩
def PORT_I2C_SPEED (i : Nat) : Fld := ⟨pageBase (0x20 + i) + 0x5C, 0, 2⟩
def PORT_SPI_CS_IDLE (i : Nat) : Fld := ⟨pageBase (0x20 + i) + 0x60, 24, 4⟩
def PORT_SPI_CS_HOLD (i : Nat) : Fld := ⟨pageBase (0x20 + i) + 0x60, 20, 4⟩
def PORT_SPI_CS_SETUP (i : Nat) : Fld := ⟨pageBase (0x20 + i) + 0x60, 16, 4⟩
def PORT_SPI_DIV (i : Nat) : Fld := ⟨pageBase (0x20 + i) + 0x60, 10, 6⟩
def PORT_SPI_BITS_M1 (i : Nat) : Fld := ⟨pageBase (0x20 + i) + 0x60, 5, 5⟩
def PORT_SPI_WIRES (i : Nat) : Fld := ⟨pageBase (0x20 + i) + 0x60, 4, 1⟩
def PORT_SPI_LATE_SAMPLE (i : Nat) : Fld := ⟨pageBase (0x20 + i) + 0x60, 3, 1⟩
def PORT_SPI_LSB_FIRST (i : Nat) : Fld := ⟨pageBase (0x20 + i) + 0x60, 2, 1⟩
def PORT_SPI_CPOL (i : Nat) : Fld := ⟨pageBase (0x20 + i) + 0x60, 1, 1⟩
def PORT_SPI_CPHA (i : Nat) : Fld := ⟨pageBase (0x20 + i) + 0x60, 0, 1⟩
def PORT_SPI_CS_PIN (i : Nat) : Fld := ⟨pageBase (0x20 + i) + 0x64, 5, 2⟩
def PORT_SPI_CS_PORT (i : Nat) : Fld := ⟨pageBase (0x20 + i) + 0x64, 0, 5⟩
def PORT_SPI_AUTO_GO (i : Nat) : Fld := ⟨pageBase (0x20 + i) + 0x68, 31, 1⟩
def PORT_SPI_AUTO_STOP (i : Nat) : Fld := ⟨pageBase (0x20 + i) + 0x68, 30, 1⟩
def PORT_SPI_AUTO_CMP_EN (i : Nat) : Fld := ⟨pageBase (0x20 + i) + 0x68, 29, 1⟩
def PORT_SPI_AUTO_AUTO_CMP (i : Nat) : Fld := ⟨pageBase (0x20 + i) + 0x68, 23, 6⟩
def PORT_SPI_AUTO_SIGNED (i : Nat) : Fld := ⟨pageBase (0x20 + i) + 0x68, 22, 1⟩
def PORT_SPI_AUTO_CHANNEL (i : Nat) : Fld := ⟨pageBase (0x20 + i) + 0x68, 0, 8⟩
def PORT_SPI_PERIOD_TICKS (i : Nat) : Fld := ⟨pageBase (0x20 + i) + 0x6C, 0, 32⟩
def PORT_SPI_TXW_WORD (i : Nat) : Fld := ⟨pageBase (0x20 + i) + 0x70, 0, 32⟩
def PORT_STAT_RX_LEVEL (i : Nat) : Fld := ⟨pageBase (0x20 + i) + 0x74, 16, 8⟩
def PORT_STAT_TX_LEVEL (i : Nat) : Fld := ⟨pageBase (0x20 + i) + 0x74, 8, 8⟩
def PORT_STAT_PUMP_OK (i : Nat) : Fld := ⟨pageBase (0x20 + i) + 0x74, 7, 1⟩
def PORT_STAT_WATCH_PAUSED (i : Nat) : Fld := ⟨pageBase (0x20 + i) + 0x74, 6, 1⟩
def PORT_STAT_AUTO_RUNNING (i : Nat) : Fld := ⟨pageBase (0x20 + i) + 0x74, 5, 1⟩
def PORT_STAT_ACTIVE (i : Nat) : Fld := ⟨pageBase (0x20 + i) + 0x74, 4, 1⟩
def PORT_STAT_DRIVING (i : Nat) : Fld := ⟨pageBase (0x20 + i) + 0x74, 3, 1⟩
def PORT_STAT_PIN_LEVEL (i : Nat) : Fld := ⟨pageBase (0x20 + i) + 0x74, 0, 3⟩
def PORT_ERR_CS_CONFLICT (i : Nat) : Fld := ⟨pageBase (0x20 + i) + 0x78, 19, 1⟩
def PORT_ERR_SPI_CS_INVALID (i : Nat) : Fld := ⟨pageBase (0x20 + i) + 0x78, 18, 1⟩
def PORT_ERR_SRC_MISMATCH (i : Nat) : Fld := ⟨pageBase (0x20 + i) + 0x78, 17, 1⟩
def PORT_ERR_SPI_LATE (i : Nat) : Fld := ⟨pageBase (0x20 + i) + 0x78, 16, 1⟩
def PORT_ERR_I2C_STUCK (i : Nat) : Fld := ⟨pageBase (0x20 + i) + 0x78, 15, 1⟩
def PORT_ERR_I2C_ARB (i : Nat) : Fld := ⟨pageBase (0x20 + i) + 0x78, 14, 1⟩
def PORT_ERR_I2C_STRETCH_TO (i : Nat) : Fld := ⟨pageBase (0x20 + i) + 0x78, 13, 1⟩
def PORT_ERR_I2C_NACK (i : Nat) : Fld := ⟨pageBase (0x20 + i) + 0x78, 12, 1⟩
def PORT_ERR_MB_LONG (i : Nat) : Fld := ⟨pageBase (0x20 + i) + 0x78, 11, 1⟩
def PORT_ERR_MB_GAP (i : Nat) : Fld := ⟨pageBase (0x20 + i) + 0x78, 10, 1⟩
def PORT_ERR_MB_CRC (i : Nat) : Fld := ⟨pageBase (0x20 + i) + 0x78, 9, 1⟩
def PORT_ERR_NMEA_NOCKSUM (i : Nat) : Fld := ⟨pageBase (0x20 + i) + 0x78, 8, 1⟩
def PORT_ERR_NMEA_LONG (i : Nat) : Fld := ⟨pageBase (0x20 + i) + 0x78, 7, 1⟩
def PORT_ERR_NMEA_CKSUM (i : Nat) : Fld := ⟨pageBase (0x20 + i) + 0x78, 6, 1⟩
def PORT_ERR_SDI_CRC_GAP (i : Nat) : Fld := ⟨pageBase (0x20 + i) + 0x78, 5, 1⟩
def PORT_ERR_COLLISION (i : Nat) : Fld := ⟨pageBase (0x20 + i) + 0x78, 4, 1⟩
def PORT_ERR_RX_OVERRUN (i : Nat) : Fld := ⟨pageBase (0x20 + i) + 0x78, 3, 1⟩
def PORT_ERR_BREAK_DET (i : Nat) : Fld := ⟨pageBase (0x20 + i) + 0x78, 2, 1⟩
def PORT_ERR_FRAMING_PARITY (i : Nat) : Fld := ⟨pageBase (0x20 + i) + 0x78, 1, 1⟩
def PORT_ERR_NOISE (i : Nat) : Fld := ⟨pageBase (0x20 + i) + 0x78, 0, 1⟩
def PORT_ERR_EN_EN (i : Nat) : Fld := ⟨pageBase (0x20 + i) + 0x7C, 0, 20⟩
def PORT_ERR_CNT_LOST (i : Nat) : Fld := ⟨pageBase (0x20 + i) + 0x80, 16, 16⟩
def PORT_ERR_CNT_FRAMES_FAILED (i : Nat) : Fld := ⟨pageBase (0x20 + i) + 0x80, 0, 16⟩

/-- The registers of PORT. -/
def pagePORT : List Row := [
  r1 0x40 [fk 7 1 0, fk 6 1 0, fk 4 2 0, fk 0 4 0],
  r1 0x44 [fk 18 1 0, fk 16 2 1, fk 10 1 0, fk 8 2 1, fk 2 1 0, fk 0 2 1],
  r1 0x48 [fk 0 24 9600],
  r1 0x4C [fk 20 1 1, fk 17 1 0, fk 16 1 0, fk 7 1 0, fk 4 3 0, fk 0 4 8],
  r1 0x50 [fk 8 8 8, fk 0 8 8],
  r1 0x54 [fk 16 16 8333, fk 0 16 12000],
  r1 0x58 [fk 16 16 8700, fk 0 16 16670],
  r1 0x5C [fk 8 8 25, fk 0 2 0],
  r1 0x60 [fk 24 4 2, fk 20 4 1, fk 16 4 2, fk 10 6 0, fk 5 5 7, fk 4 1 0, fk 3 1 0, fk 2 1 0, fk 1 1 0, fk 0 1 0],
  r1 0x64 [fk 5 2 0, fk 0 5 0],
  r1 0x68 [fl .wo 31 1 0, fl .wo 30 1 0, fk 29 1 0, fk 23 6 0, fk 22 1 1, fk 0 8 0],
  r1 0x6C [fk 0 32 0],
  r1 0x70 [fk 0 32 0],
  r1 0x74 [fl .ro 16 8 0, fl .ro 8 8 0, fl .ro 7 1 0, fl .ro 6 1 0, fl .ro 5 1 0, fl .ro 4 1 0, fl .ro 3 1 0, fl .ro 0 3 0],
  r1 0x78 [fl .w1c 19 1 0, fl .w1c 18 1 0, fl .w1c 17 1 0, fl .w1c 16 1 0, fl .w1c 15 1 0, fl .w1c 14 1 0, fl .w1c 13 1 0, fl .w1c 12 1 0, fl .w1c 11 1 0, fl .w1c 10 1 0, fl .w1c 9 1 0, fl .w1c 8 1 0, fl .w1c 7 1 0, fl .w1c 6 1 0, fl .w1c 5 1 0, fl .w1c 4 1 0, fl .w1c 3 1 0, fl .w1c 2 1 0, fl .w1c 1 1 0, fl .w1c 0 1 0],
  r1 0x7C [fk 0 20 0],
  r1 0x80 [fl .rc 16 16 0, fl .rc 0 16 0]]

/-! ### SEQ (spec chapters 10) -/

def SEQ_START_GO : Fld := ⟨pageBase 0x38 + 0x40, 0, 24⟩
def SEQ_STOP_GO : Fld := ⟨pageBase 0x38 + 0x44, 0, 24⟩
def SEQ_RUNNING_CTX : Fld := ⟨pageBase 0x38 + 0x48, 0, 24⟩
def SEQ_FLAGS_FLAG : Fld := ⟨pageBase 0x38 + 0x4C, 0, 32⟩
def SEQ_QUEUES_RAW_EN : Fld := ⟨pageBase 0x38 + 0x50, 27, 1⟩
def SEQ_QUEUES_RAW_LANE : Fld := ⟨pageBase 0x38 + 0x50, 25, 2⟩
def SEQ_QUEUES_RAW_QUEUE : Fld := ⟨pageBase 0x38 + 0x50, 16, 9⟩
def SEQ_QUEUES_ATT_EN : Fld := ⟨pageBase 0x38 + 0x50, 11, 1⟩
def SEQ_QUEUES_ATT_LANE : Fld := ⟨pageBase 0x38 + 0x50, 9, 2⟩
def SEQ_QUEUES_ATT_QUEUE : Fld := ⟨pageBase 0x38 + 0x50, 0, 9⟩
def SEQ_CTX_CFG_CMP_EN (n : Nat) : Fld := ⟨pageBase 0x38 + 0x100 + n * 0x20, 31, 1⟩
def SEQ_CTX_CFG_AUTO_START (n : Nat) : Fld := ⟨pageBase 0x38 + 0x100 + n * 0x20, 30, 1⟩
def SEQ_CTX_CFG_START_CMP (n : Nat) : Fld := ⟨pageBase 0x38 + 0x100 + n * 0x20, 24, 6⟩
def SEQ_CTX_CFG_ADR_BASE (n : Nat) : Fld := ⟨pageBase 0x38 + 0x100 + n * 0x20, 16, 8⟩
def SEQ_CTX_CFG_LEAVE_MISSES (n : Nat) : Fld := ⟨pageBase 0x38 + 0x100 + n * 0x20, 12, 4⟩
def SEQ_CTX_ENTRY_ENTRY (n : Nat) : Fld := ⟨pageBase 0x38 + 0x104 + n * 0x20, 0, 14⟩
def SEQ_CTX_REGION_LIMIT (n : Nat) : Fld := ⟨pageBase 0x38 + 0x108 + n * 0x20, 16, 14⟩
def SEQ_CTX_REGION_BASE (n : Nat) : Fld := ⟨pageBase 0x38 + 0x108 + n * 0x20, 0, 14⟩
def SEQ_CTX_STAT_STATE (n : Nat) : Fld := ⟨pageBase 0x38 + 0x10C + n * 0x20, 30, 2⟩
def SEQ_CTX_STAT_ST (n : Nat) : Fld := ⟨pageBase 0x38 + 0x10C + n * 0x20, 26, 4⟩
def SEQ_CTX_STAT_RR (n : Nat) : Fld := ⟨pageBase 0x38 + 0x10C + n * 0x20, 24, 2⟩
def SEQ_CTX_STAT_A (n : Nat) : Fld := ⟨pageBase 0x38 + 0x10C + n * 0x20, 18, 6⟩
def SEQ_CTX_STAT_FAULT_KIND (n : Nat) : Fld := ⟨pageBase 0x38 + 0x10C + n * 0x20, 16, 2⟩
def SEQ_CTX_STAT_PC (n : Nat) : Fld := ⟨pageBase 0x38 + 0x10C + n * 0x20, 0, 14⟩
def SEQ_CTX_EVT_MISSED (n : Nat) : Fld := ⟨pageBase 0x38 + 0x110 + n * 0x20, 24, 8⟩
def SEQ_CTX_EVT_CODE (n : Nat) : Fld := ⟨pageBase 0x38 + 0x110 + n * 0x20, 8, 8⟩
def SEQ_CTX_EVT_SIGNAL (n : Nat) : Fld := ⟨pageBase 0x38 + 0x110 + n * 0x20, 4, 1⟩
def SEQ_CTX_EVT_START_MISSED (n : Nat) : Fld := ⟨pageBase 0x38 + 0x110 + n * 0x20, 3, 1⟩
def SEQ_CTX_EVT_FAULT (n : Nat) : Fld := ⟨pageBase 0x38 + 0x110 + n * 0x20, 2, 1⟩
def SEQ_CTX_EVT_DONE (n : Nat) : Fld := ⟨pageBase 0x38 + 0x110 + n * 0x20, 1, 1⟩
def SEQ_CTX_EVT_EN_EN (n : Nat) : Fld := ⟨pageBase 0x38 + 0x114 + n * 0x20, 1, 4⟩
def SEQ_CTX_V0_V (n : Nat) : Fld := ⟨pageBase 0x38 + 0x118 + n * 0x20, 0, 32⟩
def SEQ_CTX_V1_V (n : Nat) : Fld := ⟨pageBase 0x38 + 0x11C + n * 0x20, 0, 32⟩

/-- The registers of SEQ. -/
def pageSEQ : List Row := [
  r1 0x40 [fl .wo 0 24 0],
  r1 0x44 [fl .wo 0 24 0],
  r1 0x48 [fl .ro 0 24 0],
  r1 0x4C [fl .rw 0 32 0],
  r1 0x50 [fk 27 1 0, fk 25 2 0, fk 16 9 0, fk 11 1 0, fk 9 2 0, fk 0 9 0],
  rb 0x100 0x20 24 [fk 31 1 0, fk 30 1 0, fk 24 6 0, fk 16 8 0, fk 12 4 3],
  rb 0x104 0x20 24 [fk 0 14 0],
  rb 0x108 0x20 24 [fk 16 14 0, fk 0 14 0],
  rb 0x10C 0x20 24 [fl .ro 30 2 0, fl .ro 26 4 0, fl .ro 24 2 0, fl .ro 18 6 0, fl .ro 16 2 0, fl .ro 0 14 0],
  rb 0x110 0x20 24 [fl .rc 24 8 0, fl .ro 8 8 0, fl .w1c 4 1 0, fl .w1c 3 1 0, fl .w1c 2 1 0, fl .w1c 1 1 0],
  rb 0x114 0x20 24 [fk 1 4 0],
  rb 0x118 0x20 24 [fl .ro 0 32 0],
  rb 0x11C 0x20 24 [fl .ro 0 32 0]]
def SEQ_PROG_WORD (n : Nat) : Fld := ⟨tableBase 0x38 + 0x0 + n * 0x4, 0, 32⟩

/-- The table space of SEQ. -/
def tableSEQ : List Row := [
  rb 0x0 0x4 12288 [fk 0 32 0]]

/-! ### ATT (spec chapters 10) -/

def ATT_CLEAR_GO : Fld := ⟨pageBase 0x39 + 0x40, 31, 1⟩
def ATT_CLEAR_PORT : Fld := ⟨pageBase 0x39 + 0x40, 0, 5⟩
def ATT_EVT_PKT_LOST : Fld := ⟨pageBase 0x39 + 0x44, 3, 1⟩
def ATT_EVT_REPLACED : Fld := ⟨pageBase 0x39 + 0x44, 2, 1⟩
def ATT_EVT_LEAVE : Fld := ⟨pageBase 0x39 + 0x44, 1, 1⟩
def ATT_EVT_JOIN : Fld := ⟨pageBase 0x39 + 0x44, 0, 1⟩
def ATT_EVT_EN_EN : Fld := ⟨pageBase 0x39 + 0x48, 0, 4⟩
def ATT_LAST_KIND : Fld := ⟨pageBase 0x39 + 0x4C, 24, 8⟩
def ATT_LAST_PORT : Fld := ⟨pageBase 0x39 + 0x4C, 16, 5⟩
def ATT_LAST_ADDR : Fld := ⟨pageBase 0x39 + 0x4C, 0, 6⟩
def ATT_COUNTS_JOINS : Fld := ⟨pageBase 0x39 + 0x50, 16, 16⟩
def ATT_COUNTS_LEAVES : Fld := ⟨pageBase 0x39 + 0x50, 0, 16⟩

/-- The registers of ATT. -/
def pageATT : List Row := [
  r1 0x40 [fl .wo 31 1 0, fl .wo 0 5 0],
  r1 0x44 [fl .w1c 3 1 0, fl .w1c 2 1 0, fl .w1c 1 1 0, fl .w1c 0 1 0],
  r1 0x48 [fk 0 4 0],
  r1 0x4C [fl .ro 24 8 0, fl .ro 16 5 0, fl .ro 0 6 0],
  r1 0x50 [fl .rc 16 16 0, fl .rc 0 16 0]]
def ATT_ENT0_PRESENT (n : Nat) : Fld := ⟨tableBase 0x39 + 0x0 + n * 0x10, 31, 1⟩
def ATT_ENT0_KNOWN (n : Nat) : Fld := ⟨tableBase 0x39 + 0x0 + n * 0x10, 30, 1⟩
def ATT_ENT0_HASH_VALID (n : Nat) : Fld := ⟨tableBase 0x39 + 0x0 + n * 0x10, 29, 1⟩
def ATT_ENT0_MISSES (n : Nat) : Fld := ⟨tableBase 0x39 + 0x0 + n * 0x10, 16, 8⟩
def ATT_ENT0_JOINS (n : Nat) : Fld := ⟨tableBase 0x39 + 0x0 + n * 0x10, 8, 8⟩
def ATT_ENT1_LAST_SEEN (n : Nat) : Fld := ⟨tableBase 0x39 + 0x4 + n * 0x10, 0, 32⟩
def ATT_ENT2_HASH (n : Nat) : Fld := ⟨tableBase 0x39 + 0x8 + n * 0x10, 0, 32⟩
def ATT_ENT3_FIRST_SEEN (n : Nat) : Fld := ⟨tableBase 0x39 + 0xC + n * 0x10, 0, 32⟩

/-- The table space of ATT. -/
def tableATT : List Row := [
  rb 0x0 0x10 1536 [fl .rw 31 1 0, fk 30 1 0, fk 29 1 0, fl .rw 16 8 0, fk 8 8 0],
  rb 0x4 0x10 1536 [fl .rw 0 32 0],
  rb 0x8 0x10 1536 [fk 0 32 0],
  rb 0xC 0x10 1536 [fk 0 32 0]]

/-! ### HARDYF (spec chapters 11) -/

def HARDYF_STAT_THROTTLED : Fld := ⟨pageBase 0x3C + 0x40, 2, 1⟩
def HARDYF_STAT_TORN_RISK : Fld := ⟨pageBase 0x3C + 0x40, 1, 1⟩
def HARDYF_LOST_COUNT : Fld := ⟨pageBase 0x3C + 0x44, 0, 32⟩
def HARDYF_LANE_UTIL_PEAK (n : Nat) : Fld := ⟨pageBase 0x3C + 0x48 + n * 0x4, 16, 16⟩
def HARDYF_LANE_UTIL_NOW (n : Nat) : Fld := ⟨pageBase 0x3C + 0x48 + n * 0x4, 0, 16⟩
def HARDYF_LAST_FAULT_VALID : Fld := ⟨pageBase 0x3C + 0x50, 31, 1⟩
def HARDYF_LAST_FAULT_KIND : Fld := ⟨pageBase 0x3C + 0x50, 10, 2⟩
def HARDYF_LAST_FAULT_SLOT : Fld := ⟨pageBase 0x3C + 0x50, 0, 9⟩

/-- The registers of HARDYF. -/
def pageHARDYF : List Row := [
  r1 0x40 [fl .ro 2 1 0, fl .w1c 1 1 0],
  r1 0x44 [fl .rc 0 32 0],
  rb 0x48 0x4 2 [ft 16 16 0, fl .ro 0 16 0],
  r1 0x50 [fl .w1c 31 1 0, fl .ro 10 2 0, fl .ro 0 9 0]]
def HARDYF_SLOT0_EN (n : Nat) : Fld := ⟨tableBase 0x3C + 0x0 + n * 0x40, 31, 1⟩
def HARDYF_SLOT0_WMODE (n : Nat) : Fld := ⟨tableBase 0x3C + 0x0 + n * 0x40, 30, 1⟩
def HARDYF_SLOT0_NSUB_LOG2 (n : Nat) : Fld := ⟨tableBase 0x3C + 0x0 + n * 0x40, 28, 2⟩
def HARDYF_SLOT0_TUNIT (n : Nat) : Fld := ⟨tableBase 0x3C + 0x0 + n * 0x40, 27, 1⟩
def HARDYF_SLOT0_ZREF (n : Nat) : Fld := ⟨tableBase 0x3C + 0x0 + n * 0x40, 26, 1⟩
def HARDYF_SLOT0_XEDGE (n : Nat) : Fld := ⟨tableBase 0x3C + 0x0 + n * 0x40, 24, 2⟩
def HARDYF_SLOT0_EXCL (n : Nat) : Fld := ⟨tableBase 0x3C + 0x0 + n * 0x40, 20, 4⟩
def HARDYF_SLOT0_LEN_M1 (n : Nat) : Fld := ⟨tableBase 0x3C + 0x0 + n * 0x40, 0, 16⟩
def HARDYF_SLOT1_SPAN (n : Nat) : Fld := ⟨tableBase 0x3C + 0x4 + n * 0x40, 0, 32⟩
def HARDYF_SLOT2_FEAT3 (n : Nat) : Fld := ⟨tableBase 0x3C + 0x8 + n * 0x40, 24, 4⟩
def HARDYF_SLOT2_FEAT2 (n : Nat) : Fld := ⟨tableBase 0x3C + 0x8 + n * 0x40, 16, 4⟩
def HARDYF_SLOT2_FEAT1 (n : Nat) : Fld := ⟨tableBase 0x3C + 0x8 + n * 0x40, 8, 4⟩
def HARDYF_SLOT2_FEAT0 (n : Nat) : Fld := ⟨tableBase 0x3C + 0x8 + n * 0x40, 0, 4⟩
def HARDYF_SLOT3_LEVEL (n : Nat) : Fld := ⟨tableBase 0x3C + 0xC + n * 0x40, 0, 32⟩
def HARDYF_SLOT4_THRESH (n : Nat) : Fld := ⟨tableBase 0x3C + 0x10 + n * 0x40, 0, 32⟩
def HARDYF_SLOT5_HYST (n : Nat) : Fld := ⟨tableBase 0x3C + 0x14 + n * 0x40, 0, 32⟩
def HARDYF_SLOT6_VSHIFT (n : Nat) : Fld := ⟨tableBase 0x3C + 0x18 + n * 0x40, 0, 5⟩
def HARDYF_SLOT7_RESERVED (n : Nat) : Fld := ⟨tableBase 0x3C + 0x1C + n * 0x40, 0, 32⟩
def HARDYF_SLOT8_RESULT0 (n : Nat) : Fld := ⟨tableBase 0x3C + 0x20 + n * 0x40, 0, 32⟩
def HARDYF_SLOT9_RESULT1 (n : Nat) : Fld := ⟨tableBase 0x3C + 0x24 + n * 0x40, 0, 32⟩
def HARDYF_SLOT10_RESULT2 (n : Nat) : Fld := ⟨tableBase 0x3C + 0x28 + n * 0x40, 0, 32⟩
def HARDYF_SLOT11_RESULT3 (n : Nat) : Fld := ⟨tableBase 0x3C + 0x2C + n * 0x40, 0, 32⟩
def HARDYF_SLOT12_FULL (n : Nat) : Fld := ⟨tableBase 0x3C + 0x30 + n * 0x40, 31, 1⟩
def HARDYF_SLOT12_FLAGGED (n : Nat) : Fld := ⟨tableBase 0x3C + 0x30 + n * 0x40, 30, 1⟩
def HARDYF_SLOT12_CONFLICT (n : Nat) : Fld := ⟨tableBase 0x3C + 0x30 + n * 0x40, 29, 1⟩
def HARDYF_SLOT12_REFUSED (n : Nat) : Fld := ⟨tableBase 0x3C + 0x30 + n * 0x40, 28, 1⟩
def HARDYF_SLOT12_NODATA (n : Nat) : Fld := ⟨tableBase 0x3C + 0x30 + n * 0x40, 24, 4⟩
def HARDYF_SLOT12_PUB_SEQ (n : Nat) : Fld := ⟨tableBase 0x3C + 0x30 + n * 0x40, 16, 8⟩
def HARDYF_SLOT12_SUBS (n : Nat) : Fld := ⟨tableBase 0x3C + 0x30 + n * 0x40, 12, 4⟩
def HARDYF_SLOT12_ATTACHED (n : Nat) : Fld := ⟨tableBase 0x3C + 0x30 + n * 0x40, 8, 1⟩
def HARDYF_SLOT12_CHANNEL (n : Nat) : Fld := ⟨tableBase 0x3C + 0x30 + n * 0x40, 0, 8⟩
def HARDYF_SLOT13_N (n : Nat) : Fld := ⟨tableBase 0x3C + 0x34 + n * 0x40, 0, 32⟩
def HARDYF_SLOT14_WEND_LO (n : Nat) : Fld := ⟨tableBase 0x3C + 0x38 + n * 0x40, 0, 32⟩
def HARDYF_SLOT15_WEND_HI (n : Nat) : Fld := ⟨tableBase 0x3C + 0x3C + n * 0x40, 0, 32⟩

/-- The table space of HARDYF. -/
def tableHARDYF : List Row := [
  rb 0x0 0x40 512 [fk 31 1 0, fk 30 1 0, fk 28 2 0, fk 27 1 0, fk 26 1 0, fk 24 2 0, fk 20 4 0, fk 0 16 0],
  rb 0x4 0x40 512 [fk 0 32 0],
  rb 0x8 0x40 512 [fk 24 4 0, fk 16 4 0, fk 8 4 0, fk 0 4 0],
  rb 0xC 0x40 512 [fk 0 32 0],
  rb 0x10 0x40 512 [fk 0 32 0],
  rb 0x14 0x40 512 [fk 0 32 0],
  rb 0x18 0x40 512 [fk 0 5 0],
  rb 0x1C 0x40 512 [fl .ro 0 32 0],
  rb 0x20 0x40 512 [fl .ro 0 32 0],
  rb 0x24 0x40 512 [fl .ro 0 32 0],
  rb 0x28 0x40 512 [fl .ro 0 32 0],
  rb 0x2C 0x40 512 [fl .ro 0 32 0],
  rb 0x30 0x40 512 [fl .ro 31 1 0, fl .ro 30 1 0, fl .ro 29 1 0, fl .ro 28 1 0, fl .ro 24 4 0, fl .ro 16 8 0, fl .ro 12 4 0, fl .ro 8 1 0, fl .ro 0 8 0],
  rb 0x34 0x40 512 [fl .ro 0 32 0],
  rb 0x38 0x40 512 [fl .ro 0 32 0],
  rb 0x3C 0x40 512 [fl .ro 0 32 0]]

/-! ### HARDYK (spec chapters 12) -/

def HARDYK_STATE_LO_B : Fld := ⟨pageBase 0x3D + 0x40, 0, 32⟩
def HARDYK_STATE_HI_B : Fld := ⟨pageBase 0x3D + 0x44, 0, 32⟩
def HARDYK_LINES_HL (n : Nat) : Fld := ⟨pageBase 0x3D + 0x48 + n * 0x4, 0, 32⟩
def HARDYK_FIRES_COUNT : Fld := ⟨pageBase 0x3D + 0x58, 0, 32⟩
def HARDYK_LOST_POINTS : Fld := ⟨pageBase 0x3D + 0x5C, 20, 12⟩
def HARDYK_LOST_FIRINGS : Fld := ⟨pageBase 0x3D + 0x5C, 8, 12⟩
def HARDYK_LOST_PACKETS : Fld := ⟨pageBase 0x3D + 0x5C, 0, 8⟩
def HARDYK_ACT_REFUSED_COUNT : Fld := ⟨pageBase 0x3D + 0x60, 0, 32⟩
def HARDYK_LAST_FIRE_VALID : Fld := ⟨pageBase 0x3D + 0x64, 31, 1⟩
def HARDYK_LAST_FIRE_RULE : Fld := ⟨pageBase 0x3D + 0x64, 0, 12⟩
def HARDYK_PROBE_RULE : Fld := ⟨pageBase 0x3D + 0x68, 0, 12⟩
def HARDYK_PROBE_STAT_ARMED : Fld := ⟨pageBase 0x3D + 0x6C, 31, 1⟩
def HARDYK_PROBE_STAT_HOLDING : Fld := ⟨pageBase 0x3D + 0x6C, 30, 1⟩
def HARDYK_PROBE_STAT_FIRE_CNT : Fld := ⟨pageBase 0x3D + 0x6C, 16, 8⟩
def HARDYK_PROBE_STAT_RULE : Fld := ⟨pageBase 0x3D + 0x6C, 0, 12⟩
def HARDYK_RULE_UTIL_PEAK : Fld := ⟨pageBase 0x3D + 0x70, 16, 16⟩
def HARDYK_RULE_UTIL_NOW : Fld := ⟨pageBase 0x3D + 0x70, 0, 16⟩
def HARDYK_BURSTS_ACTIVE : Fld := ⟨pageBase 0x3D + 0x74, 0, 6⟩
def HARDYK_ACT_W0_KIND (n : Nat) : Fld := ⟨pageBase 0x3D + 0x800 + n * 0x8, 28, 4⟩
def HARDYK_ACT_W0_NEXT_EN (n : Nat) : Fld := ⟨pageBase 0x3D + 0x800 + n * 0x8, 27, 1⟩
def HARDYK_ACT_W0_NEXT (n : Nat) : Fld := ⟨pageBase 0x3D + 0x800 + n * 0x8, 19, 8⟩
def HARDYK_ACT_W0_ARG (n : Nat) : Fld := ⟨pageBase 0x3D + 0x800 + n * 0x8, 0, 11⟩
def HARDYK_ACT_W1_ARG1 (n : Nat) : Fld := ⟨pageBase 0x3D + 0x804 + n * 0x8, 0, 32⟩

/-- The registers of HARDYK. -/
def pageHARDYK : List Row := [
  r1 0x40 [fl .rw 0 32 0],
  r1 0x44 [fl .rw 0 32 0],
  rb 0x48 0x4 4 [fl .rw 0 32 0],
  r1 0x58 [fl .rc 0 32 0],
  r1 0x5C [fl .rc 20 12 0, fl .rc 8 12 0, fl .rc 0 8 0],
  r1 0x60 [fl .rc 0 32 0],
  r1 0x64 [fl .w1c 31 1 0, fl .ro 0 12 0],
  r1 0x68 [fl .rw 0 12 0],
  r1 0x6C [fl .ro 31 1 0, fl .ro 30 1 0, fl .ro 16 8 0, fl .ro 0 12 0],
  r1 0x70 [ft 16 16 0, fl .ro 0 16 0],
  r1 0x74 [fl .ro 0 6 0],
  rb 0x800 0x8 256 [fk 28 4 0, fk 27 1 0, fk 19 8 0, fk 0 11 0],
  rb 0x804 0x8 256 [fk 0 32 0]]
def HARDYK_RULE0_EN (n : Nat) : Fld := ⟨tableBase 0x3D + 0x0 + n * 0x10, 31, 1⟩
def HARDYK_RULE0_STRICT (n : Nat) : Fld := ⟨tableBase 0x3D + 0x0 + n * 0x10, 30, 1⟩
def HARDYK_RULE0_OP (n : Nat) : Fld := ⟨tableBase 0x3D + 0x0 + n * 0x10, 28, 2⟩
def HARDYK_RULE0_SLOT_A (n : Nat) : Fld := ⟨tableBase 0x3D + 0x0 + n * 0x10, 19, 9⟩
def HARDYK_RULE0_RES_A (n : Nat) : Fld := ⟨tableBase 0x3D + 0x0 + n * 0x10, 17, 2⟩
def HARDYK_RULE0_CMP_A (n : Nat) : Fld := ⟨tableBase 0x3D + 0x0 + n * 0x10, 14, 3⟩
def HARDYK_RULE0_SLOT_B (n : Nat) : Fld := ⟨tableBase 0x3D + 0x0 + n * 0x10, 5, 9⟩
def HARDYK_RULE0_RES_B (n : Nat) : Fld := ⟨tableBase 0x3D + 0x0 + n * 0x10, 3, 2⟩
def HARDYK_RULE0_CMP_B (n : Nat) : Fld := ⟨tableBase 0x3D + 0x0 + n * 0x10, 0, 3⟩
def HARDYK_RULE1_K_A (n : Nat) : Fld := ⟨tableBase 0x3D + 0x4 + n * 0x10, 0, 32⟩
def HARDYK_RULE2_K_B (n : Nat) : Fld := ⟨tableBase 0x3D + 0x8 + n * 0x10, 0, 32⟩
def HARDYK_RULE3_T (n : Nat) : Fld := ⟨tableBase 0x3D + 0xC + n * 0x10, 24, 8⟩
def HARDYK_RULE3_H (n : Nat) : Fld := ⟨tableBase 0x3D + 0xC + n * 0x10, 16, 8⟩
def HARDYK_RULE3_SMODE (n : Nat) : Fld := ⟨tableBase 0x3D + 0xC + n * 0x10, 14, 2⟩
def HARDYK_RULE3_SBIT (n : Nat) : Fld := ⟨tableBase 0x3D + 0xC + n * 0x10, 8, 6⟩
def HARDYK_RULE3_ACT (n : Nat) : Fld := ⟨tableBase 0x3D + 0xC + n * 0x10, 0, 8⟩

/-- The table space of HARDYK. -/
def tableHARDYK : List Row := [
  rb 0x0 0x10 4096 [fk 31 1 0, fk 30 1 0, fk 28 2 0, fk 19 9 0, fk 17 2 0, fk 14 3 0, fk 5 9 0, fk 3 2 0, fk 0 3 0],
  rb 0x4 0x10 4096 [fk 0 32 0],
  rb 0x8 0x10 4096 [fk 0 32 0],
  rb 0xC 0x10 4096 [fk 24 8 0, fk 16 8 0, fk 14 2 0, fk 8 6 0, fk 0 8 0]]

/-! ### TONGS (spec chapters 13,21) -/

def TONGS_POOL_WITHDRAWN : Fld := ⟨pageBase 0x40 + 0x40, 17, 11⟩
def TONGS_POOL_FREE : Fld := ⟨pageBase 0x40 + 0x40, 0, 17⟩
def TONGS_POOL_MIN_MIN : Fld := ⟨pageBase 0x40 + 0x44, 0, 17⟩
def TONGS_PARITY_COUNT : Fld := ⟨pageBase 0x40 + 0x48, 0, 32⟩
def TONGS_PAR_LAST_VALID : Fld := ⟨pageBase 0x40 + 0x4C, 31, 1⟩
def TONGS_PAR_LAST_QUEUE : Fld := ⟨pageBase 0x40 + 0x4C, 16, 9⟩
def TONGS_PAR_LAST_CELL : Fld := ⟨pageBase 0x40 + 0x4C, 0, 15⟩
def TONGS_QCMD_OP : Fld := ⟨pageBase 0x40 + 0x50, 28, 4⟩
def TONGS_QCMD_LANE : Fld := ⟨pageBase 0x40 + 0x50, 24, 2⟩
def TONGS_QCMD_QUEUE : Fld := ⟨pageBase 0x40 + 0x50, 0, 9⟩
def TONGS_QCMD_STAT_RESULT : Fld := ⟨pageBase 0x40 + 0x54, 0, 2⟩
def TONGS_RETIRE_CNT_COUNT : Fld := ⟨pageBase 0x40 + 0x58, 0, 9⟩
def TONGS_RD_SEL_QUEUE (n : Nat) : Fld := ⟨pageBase 0x40 + 0x100 + n * 0x20, 0, 9⟩
def TONGS_RD_DATA_WORD (n : Nat) : Fld := ⟨pageBase 0x40 + 0x104 + n * 0x20, 0, 32⟩
def TONGS_RD_TAG_TAG (n : Nat) : Fld := ⟨pageBase 0x40 + 0x108 + n * 0x20, 0, 8⟩
def TONGS_RD_CTRL_SKIP (n : Nat) : Fld := ⟨pageBase 0x40 + 0x10C + n * 0x20, 0, 1⟩
def TONGS_WR_OPEN_GO (n : Nat) : Fld := ⟨pageBase 0x40 + 0x110 + n * 0x20, 31, 1⟩
def TONGS_WR_OPEN_SUB (n : Nat) : Fld := ⟨pageBase 0x40 + 0x110 + n * 0x20, 20, 10⟩
def TONGS_WR_OPEN_TYPE (n : Nat) : Fld := ⟨pageBase 0x40 + 0x110 + n * 0x20, 16, 4⟩
def TONGS_WR_OPEN_LANE (n : Nat) : Fld := ⟨pageBase 0x40 + 0x110 + n * 0x20, 9, 2⟩
def TONGS_WR_OPEN_QUEUE (n : Nat) : Fld := ⟨pageBase 0x40 + 0x110 + n * 0x20, 0, 9⟩
def TONGS_WR_DATA_WORD (n : Nat) : Fld := ⟨pageBase 0x40 + 0x114 + n * 0x20, 0, 32⟩
def TONGS_WR_CLOSE_GO (n : Nat) : Fld := ⟨pageBase 0x40 + 0x118 + n * 0x20, 31, 1⟩
def TONGS_WR_CLOSE_TRUNC (n : Nat) : Fld := ⟨pageBase 0x40 + 0x118 + n * 0x20, 30, 1⟩
def TONGS_WR_CLOSE_PAD (n : Nat) : Fld := ⟨pageBase 0x40 + 0x118 + n * 0x20, 0, 2⟩
def TONGS_WR_STAT_OPEN (n : Nat) : Fld := ⟨pageBase 0x40 + 0x11C + n * 0x20, 31, 1⟩
def TONGS_WR_STAT_RESULT (n : Nat) : Fld := ⟨pageBase 0x40 + 0x11C + n * 0x20, 0, 4⟩
def TONGS_RETIRE_VALID (n : Nat) : Fld := ⟨pageBase 0x40 + 0x400 + n * 0x4, 31, 1⟩
def TONGS_RETIRE_CELL (n : Nat) : Fld := ⟨pageBase 0x40 + 0x400 + n * 0x4, 0, 15⟩

/-- The registers of TONGS. -/
def pageTONGS : List Row := [
  r1 0x40 [fl .ro 17 11 0, fl .ro 0 17 32768],
  r1 0x44 [ft 0 17 32768],
  r1 0x48 [fl .rc 0 32 0],
  r1 0x4C [fl .w1c 31 1 0, fl .ro 16 9 0, fl .ro 0 15 0],
  r1 0x50 [fl .wo 28 4 0, fl .wo 24 2 0, fl .wo 0 9 0],
  r1 0x54 [fl .ro 0 2 0],
  r1 0x58 [fl .ro 0 9 0],
  rb 0x100 0x20 5 [fl .rw 0 9 0],
  rb 0x104 0x20 5 [fl .ro 0 32 0],
  rb 0x108 0x20 5 [fl .ro 0 8 0],
  rb 0x10C 0x20 5 [fl .wo 0 1 0],
  rb 0x110 0x20 5 [fl .wo 31 1 0, fl .wo 20 10 0, fl .wo 16 4 0, fl .wo 9 2 0, fl .wo 0 9 0],
  rb 0x114 0x20 5 [fl .wo 0 32 0],
  rb 0x118 0x20 5 [fl .wo 31 1 0, fl .wo 30 1 0, fl .wo 0 2 0],
  rb 0x11C 0x20 5 [fl .ro 31 1 0, fl .ro 0 4 0],
  rb 0x400 0x4 256 [fk 31 1 0, fk 0 15 0]]

/-! ### TONGSQ (spec chapters 13) -/

def TONGSQ_NOTE_SUM_Q (n : Nat) : Fld := ⟨pageBase 0x41 + 0x40 + n * 0x4, 0, 32⟩

/-- The registers of TONGSQ. -/
def pageTONGSQ : List Row := [
  rb 0x40 0x4 16 [fl .ro 0 32 0]]
def TONGSQ_Q0_EN (n : Nat) : Fld := ⟨tableBase 0x41 + 0x0 + n * 0x40, 31, 1⟩
def TONGSQ_Q0_OWNER (n : Nat) : Fld := ⟨tableBase 0x41 + 0x0 + n * 0x40, 28, 3⟩
def TONGSQ_Q0_FULL_POLICY (n : Nat) : Fld := ⟨tableBase 0x41 + 0x0 + n * 0x40, 27, 1⟩
def TONGSQ_Q0_MARK_POLICY (n : Nat) : Fld := ⟨tableBase 0x41 + 0x0 + n * 0x40, 26, 1⟩
def TONGSQ_Q0_WAKE (n : Nat) : Fld := ⟨tableBase 0x41 + 0x0 + n * 0x40, 25, 1⟩
def TONGSQ_Q0_NOTICE_EN (n : Nat) : Fld := ⟨tableBase 0x41 + 0x0 + n * 0x40, 24, 1⟩
def TONGSQ_Q0_ERR_NOTICE (n : Nat) : Fld := ⟨tableBase 0x41 + 0x0 + n * 0x40, 23, 1⟩
def TONGSQ_Q0_AUTO_CLR (n : Nat) : Fld := ⟨tableBase 0x41 + 0x0 + n * 0x40, 22, 1⟩
def TONGSQ_Q0_LOW_EN (n : Nat) : Fld := ⟨tableBase 0x41 + 0x0 + n * 0x40, 21, 1⟩
def TONGSQ_Q0_CT_CELLS (n : Nat) : Fld := ⟨tableBase 0x41 + 0x0 + n * 0x40, 16, 4⟩
def TONGSQ_Q0_NLINE (n : Nat) : Fld := ⟨tableBase 0x41 + 0x0 + n * 0x40, 0, 7⟩
def TONGSQ_Q1_LIMIT (n : Nat) : Fld := ⟨tableBase 0x41 + 0x4 + n * 0x40, 0, 15⟩
def TONGSQ_Q2_HIGH (n : Nat) : Fld := ⟨tableBase 0x41 + 0x8 + n * 0x40, 16, 15⟩
def TONGSQ_Q2_LOW (n : Nat) : Fld := ⟨tableBase 0x41 + 0x8 + n * 0x40, 0, 15⟩
def TONGSQ_Q3_MOD_PKTS (n : Nat) : Fld := ⟨tableBase 0x41 + 0xC + n * 0x40, 24, 8⟩
def TONGSQ_Q3_MAX_HOLD (n : Nat) : Fld := ⟨tableBase 0x41 + 0xC + n * 0x40, 0, 16⟩
def TONGSQ_Q4_LEVEL (n : Nat) : Fld := ⟨tableBase 0x41 + 0x10 + n * 0x40, 16, 15⟩
def TONGSQ_Q4_PKTS (n : Nat) : Fld := ⟨tableBase 0x41 + 0x10 + n * 0x40, 0, 16⟩
def TONGSQ_Q5_OVERRUN (n : Nat) : Fld := ⟨tableBase 0x41 + 0x14 + n * 0x40, 31, 1⟩
def TONGSQ_Q5_HIGH_HIT (n : Nat) : Fld := ⟨tableBase 0x41 + 0x14 + n * 0x40, 30, 1⟩
def TONGSQ_Q5_LOW_HIT (n : Nat) : Fld := ⟨tableBase 0x41 + 0x14 + n * 0x40, 29, 1⟩
def TONGSQ_Q5_MARK_LOST (n : Nat) : Fld := ⟨tableBase 0x41 + 0x14 + n * 0x40, 28, 1⟩
def TONGSQ_Q5_PARITY (n : Nat) : Fld := ⟨tableBase 0x41 + 0x14 + n * 0x40, 27, 1⟩
def TONGSQ_Q5_NOTICE (n : Nat) : Fld := ⟨tableBase 0x41 + 0x14 + n * 0x40, 26, 1⟩
def TONGSQ_Q5_MARK_SET (n : Nat) : Fld := ⟨tableBase 0x41 + 0x14 + n * 0x40, 25, 1⟩
def TONGSQ_Q5_MARK_LANE (n : Nat) : Fld := ⟨tableBase 0x41 + 0x14 + n * 0x40, 23, 2⟩
def TONGSQ_Q5_IN_PKT (n : Nat) : Fld := ⟨tableBase 0x41 + 0x14 + n * 0x40, 22, 1⟩
def TONGSQ_Q5_PEAK (n : Nat) : Fld := ⟨tableBase 0x41 + 0x14 + n * 0x40, 0, 15⟩
def TONGSQ_Q6_PEAK_TB_LO (n : Nat) : Fld := ⟨tableBase 0x41 + 0x18 + n * 0x40, 0, 32⟩
def TONGSQ_Q7_PEAK_TB_HI (n : Nat) : Fld := ⟨tableBase 0x41 + 0x1C + n * 0x40, 0, 32⟩
def TONGSQ_Q8_TROUGH (n : Nat) : Fld := ⟨tableBase 0x41 + 0x20 + n * 0x40, 0, 15⟩
def TONGSQ_Q9_TROUGH_TB_LO (n : Nat) : Fld := ⟨tableBase 0x41 + 0x24 + n * 0x40, 0, 32⟩
def TONGSQ_Q10_TROUGH_TB_HI (n : Nat) : Fld := ⟨tableBase 0x41 + 0x28 + n * 0x40, 0, 32⟩
def TONGSQ_Q11_REFUSED (n : Nat) : Fld := ⟨tableBase 0x41 + 0x2C + n * 0x40, 0, 32⟩
def TONGSQ_Q12_ROLLED (n : Nat) : Fld := ⟨tableBase 0x41 + 0x30 + n * 0x40, 0, 32⟩
def TONGSQ_Q13_MARK_LOSS (n : Nat) : Fld := ⟨tableBase 0x41 + 0x34 + n * 0x40, 0, 32⟩
def TONGSQ_Q14_CLOSED (n : Nat) : Fld := ⟨tableBase 0x41 + 0x38 + n * 0x40, 0, 32⟩
def TONGSQ_Q15_DISCARDED (n : Nat) : Fld := ⟨tableBase 0x41 + 0x3C + n * 0x40, 0, 32⟩

/-- The table space of TONGSQ. -/
def tableTONGSQ : List Row := [
  rb 0x0 0x40 512 [fk 31 1 0, fk 28 3 4, fk 27 1 0, fk 26 1 0, fk 25 1 0, fk 24 1 1, fk 23 1 1, fk 22 1 1, fk 21 1 0, fk 16 4 0, fk 0 7 0],
  rb 0x4 0x40 512 [fk 0 15 64],
  rb 0x8 0x40 512 [fk 16 15 0, fk 0 15 0],
  rb 0xC 0x40 512 [fk 24 8 1, fk 0 16 0],
  rb 0x10 0x40 512 [fl .ro 16 15 0, fl .ro 0 16 0],
  rb 0x14 0x40 512 [fl .w1c 31 1 0, fl .w1c 30 1 0, fl .w1c 29 1 0, fl .w1c 28 1 0, fl .w1c 27 1 0, fl .w1c 26 1 0, fl .ro 25 1 0, fl .ro 23 2 0, fl .ro 22 1 0, fl .ro 0 15 0],
  rb 0x18 0x40 512 [fl .ro 0 32 0],
  rb 0x1C 0x40 512 [fl .ro 0 32 0],
  rb 0x20 0x40 512 [fl .ro 0 15 0],
  rb 0x24 0x40 512 [fl .ro 0 32 0],
  rb 0x28 0x40 512 [fl .ro 0 32 0],
  rb 0x2C 0x40 512 [fl .rc 0 32 0],
  rb 0x30 0x40 512 [fl .rc 0 32 0],
  rb 0x34 0x40 512 [fl .rc 0 32 0],
  rb 0x38 0x40 512 [fl .ro 0 32 0],
  rb 0x3C 0x40 512 [fl .rc 0 32 0]]

/-! ### EVC (spec chapters 14) -/

def EVC_THR_HOST : Fld := ⟨pageBase 0x44 + 0x40, 16, 4⟩
def EVC_THR_C3 : Fld := ⟨pageBase 0x44 + 0x40, 12, 4⟩
def EVC_THR_C2 : Fld := ⟨pageBase 0x44 + 0x40, 8, 4⟩
def EVC_THR_C1 : Fld := ⟨pageBase 0x44 + 0x40, 4, 4⟩
def EVC_THR_C0 : Fld := ⟨pageBase 0x44 + 0x40, 0, 4⟩
def EVC_HOST_RQ_STALL : Fld := ⟨pageBase 0x44 + 0x44, 31, 1⟩
def EVC_HOST_RQ_DEPTH_M1 : Fld := ⟨pageBase 0x44 + 0x44, 16, 8⟩
def EVC_HOST_RQ_LANE : Fld := ⟨pageBase 0x44 + 0x44, 9, 2⟩
def EVC_HOST_RQ_QUEUE : Fld := ⟨pageBase 0x44 + 0x44, 0, 9⟩
def EVC_SWI_LEVEL : Fld := ⟨pageBase 0x44 + 0x48, 0, 16⟩
def EVC_WAKE_STAT_DELIVERED : Fld := ⟨pageBase 0x44 + 0x4C, 16, 16⟩
def EVC_WAKE_STAT_WAKE_PENDING : Fld := ⟨pageBase 0x44 + 0x4C, 0, 1⟩
def EVC_STUCK_LAST_VALID : Fld := ⟨pageBase 0x44 + 0x50, 31, 1⟩
def EVC_STUCK_LAST_SOURCE : Fld := ⟨pageBase 0x44 + 0x50, 0, 10⟩
def EVC_RQ_CFG_BASE (n : Nat) : Fld := ⟨pageBase 0x44 + 0x100 + n * 0x20, 11, 5⟩
def EVC_RQ_IDX_COUNT (n : Nat) : Fld := ⟨pageBase 0x44 + 0x104 + n * 0x20, 16, 9⟩
def EVC_RQ_IDX_WR (n : Nat) : Fld := ⟨pageBase 0x44 + 0x104 + n * 0x20, 8, 8⟩
def EVC_RQ_IDX_RD (n : Nat) : Fld := ⟨pageBase 0x44 + 0x104 + n * 0x20, 0, 8⟩
def EVC_TAKE_RECORD (n : Nat) : Fld := ⟨pageBase 0x44 + 0x108 + n * 0x20, 0, 32⟩
def EVC_TAKE_TB_TB (n : Nat) : Fld := ⟨pageBase 0x44 + 0x10C + n * 0x20, 0, 32⟩
def EVC_EOI_LEVEL (n : Nat) : Fld := ⟨pageBase 0x44 + 0x110 + n * 0x20, 0, 4⟩
def EVC_STACK_FROZEN (n : Nat) : Fld := ⟨pageBase 0x44 + 0x114 + n * 0x20, 31, 1⟩
def EVC_STACK_TOP (n : Nat) : Fld := ⟨pageBase 0x44 + 0x114 + n * 0x20, 24, 4⟩
def EVC_STACK_DEPTH (n : Nat) : Fld := ⟨pageBase 0x44 + 0x114 + n * 0x20, 16, 4⟩
def EVC_STACK_TOP_SRC (n : Nat) : Fld := ⟨pageBase 0x44 + 0x114 + n * 0x20, 0, 10⟩
def EVC_ORDER_INFO_VALID (n : Nat) : Fld := ⟨pageBase 0x44 + 0x118 + n * 0x20, 31, 1⟩
def EVC_ORDER_INFO_CAUSE (n : Nat) : Fld := ⟨pageBase 0x44 + 0x118 + n * 0x20, 28, 2⟩
def EVC_ORDER_INFO_NAMED (n : Nat) : Fld := ⟨pageBase 0x44 + 0x118 + n * 0x20, 24, 4⟩
def EVC_ORDER_INFO_TOP (n : Nat) : Fld := ⟨pageBase 0x44 + 0x118 + n * 0x20, 20, 4⟩
def EVC_ORDER_INFO_DEPTH (n : Nat) : Fld := ⟨pageBase 0x44 + 0x118 + n * 0x20, 16, 4⟩
def EVC_ORDER_INFO_DISCARDED (n : Nat) : Fld := ⟨pageBase 0x44 + 0x118 + n * 0x20, 0, 16⟩
def EVC_STACK_RESET_GO (n : Nat) : Fld := ⟨pageBase 0x44 + 0x11C + n * 0x20, 0, 1⟩

/-- The registers of EVC. -/
def pageEVC : List Row := [
  r1 0x40 [fk 16 4 0, fk 12 4 0, fk 8 4 0, fk 4 4 0, fk 0 4 0],
  r1 0x44 [fl .w1c 31 1 0, fk 16 8 63, fk 9 2 3, fk 0 9 0],
  r1 0x48 [fl .rw 0 16 0],
  r1 0x4C [fl .ro 16 16 0, fl .ro 0 1 0],
  r1 0x50 [fl .w1c 31 1 0, fl .ro 0 10 0],
  rb 0x100 0x20 5 [fk 11 5 0],
  rb 0x104 0x20 5 [fl .ro 16 9 0, fl .ro 8 8 0, fl .ro 0 8 0],
  rb 0x108 0x20 5 [fl .ro 0 32 0],
  rb 0x10C 0x20 5 [fl .ro 0 32 0],
  rb 0x110 0x20 5 [fl .wo 0 4 0],
  rb 0x114 0x20 5 [fl .ro 31 1 0, fl .ro 24 4 0, fl .ro 16 4 0, fl .ro 0 10 0],
  rb 0x118 0x20 5 [fl .w1c 31 1 0, fl .ro 28 2 0, fl .ro 24 4 0, fl .ro 20 4 0, fl .ro 16 4 0, fl .ro 0 16 0],
  rb 0x11C 0x20 5 [fl .wo 0 1 0]]
def EVC_SRC0_WAKE (n : Nat) : Fld := ⟨tableBase 0x44 + 0x0 + n * 0x10, 31, 1⟩
def EVC_SRC0_SENSE (n : Nat) : Fld := ⟨tableBase 0x44 + 0x0 + n * 0x10, 28, 3⟩
def EVC_SRC0_LVL (n : Nat) : Fld := ⟨tableBase 0x44 + 0x0 + n * 0x10, 24, 4⟩
def EVC_SRC0_REARM (n : Nat) : Fld := ⟨tableBase 0x44 + 0x0 + n * 0x10, 20, 4⟩
def EVC_SRC0_TGT (n : Nat) : Fld := ⟨tableBase 0x44 + 0x0 + n * 0x10, 0, 5⟩
def EVC_SRC1_KIND (n : Nat) : Fld := ⟨tableBase 0x44 + 0x4 + n * 0x10, 31, 1⟩
def EVC_SRC1_RAW (n : Nat) : Fld := ⟨tableBase 0x44 + 0x4 + n * 0x10, 30, 1⟩
def EVC_SRC1_STUCK (n : Nat) : Fld := ⟨tableBase 0x44 + 0x4 + n * 0x10, 29, 1⟩
def EVC_SRC1_MASKED (n : Nat) : Fld := ⟨tableBase 0x44 + 0x4 + n * 0x10, 28, 1⟩
def EVC_SRC1_LATCHED (n : Nat) : Fld := ⟨tableBase 0x44 + 0x4 + n * 0x10, 27, 1⟩
def EVC_SRC1_STORM (n : Nat) : Fld := ⟨tableBase 0x44 + 0x4 + n * 0x10, 16, 10⟩
def EVC_SRC1_PEND (n : Nat) : Fld := ⟨tableBase 0x44 + 0x4 + n * 0x10, 10, 5⟩
def EVC_SRC1_OUT (n : Nat) : Fld := ⟨tableBase 0x44 + 0x4 + n * 0x10, 5, 5⟩
def EVC_SRC2_LAST_TB (n : Nat) : Fld := ⟨tableBase 0x44 + 0x8 + n * 0x10, 0, 32⟩
def EVC_SRC3_RECORDS (n : Nat) : Fld := ⟨tableBase 0x44 + 0xC + n * 0x10, 16, 16⟩

/-- The table space of EVC. -/
def tableEVC : List Row := [
  rb 0x0 0x10 640 [fk 31 1 0, fk 28 3 0, fk 24 4 0, fk 20 4 0, fk 0 5 0],
  rb 0x4 0x10 640 [fl .ro 31 1 0, fl .ro 30 1 0, fl .w1c 29 1 0, fl .ro 28 1 0, fl .ro 27 1 0, fl .ro 16 10 0, fl .ro 10 5 0, fl .ro 5 5 0],
  rb 0x8 0x10 640 [fl .ro 0 32 0],
  rb 0xC 0x10 640 [fl .ro 16 16 0]]

/-! ### CORE (spec chapters 15) -/

def CORE_CTRL_RESET (i : Nat) : Fld := ⟨pageBase (0x48 + i) + 0x40, 2, 1⟩
def CORE_CTRL_FENCE (i : Nat) : Fld := ⟨pageBase (0x48 + i) + 0x40, 1, 1⟩
def CORE_CTRL_RUN (i : Nat) : Fld := ⟨pageBase (0x48 + i) + 0x40, 0, 1⟩
def CORE_START_PC_PC (i : Nat) : Fld := ⟨pageBase (0x48 + i) + 0x44, 2, 30⟩
def CORE_STAT_RESETS (i : Nat) : Fld := ⟨pageBase (0x48 + i) + 0x48, 24, 8⟩
def CORE_STAT_LAST (i : Nat) : Fld := ⟨pageBase (0x48 + i) + 0x48, 4, 2⟩
def CORE_STAT_STATE (i : Nat) : Fld := ⟨pageBase (0x48 + i) + 0x48, 0, 3⟩
def CORE_UPAGE_PAGE (i n : Nat) : Fld := ⟨pageBase (0x48 + i) + 0x4C + n * 0x4, 0, 32⟩
def CORE_WDOG_CFG_TIMEOUT (i : Nat) : Fld := ⟨pageBase (0x48 + i) + 0x58, 16, 16⟩
def CORE_WDOG_CFG_STAGE2 (i : Nat) : Fld := ⟨pageBase (0x48 + i) + 0x58, 8, 8⟩
def CORE_WDOG_CFG_ACTION (i : Nat) : Fld := ⟨pageBase (0x48 + i) + 0x58, 1, 2⟩
def CORE_WDOG_CFG_EN (i : Nat) : Fld := ⟨pageBase (0x48 + i) + 0x58, 0, 1⟩
def CORE_WDOG_KICK_KEY (i : Nat) : Fld := ⟨pageBase (0x48 + i) + 0x5C, 0, 32⟩
def CORE_WDOG_COUNT_STAGE2 (i : Nat) : Fld := ⟨pageBase (0x48 + i) + 0x60, 31, 1⟩
def CORE_WDOG_COUNT_TICKS (i : Nat) : Fld := ⟨pageBase (0x48 + i) + 0x60, 0, 31⟩
def CORE_DBELL_BELL (i : Nat) : Fld := ⟨pageBase (0x48 + i) + 0x64, 0, 2⟩
def CORE_FAULT_PC_PC (i : Nat) : Fld := ⟨pageBase (0x48 + i) + 0x68, 0, 32⟩
def CORE_FAULT_CAUSE_CODE (i : Nat) : Fld := ⟨pageBase (0x48 + i) + 0x6C, 0, 4⟩

/-- The registers of CORE. -/
def pageCORE : List Row := [
  r1 0x40 [fl .wo 2 1 0, fl .rw 1 1 0, fl .rw 0 1 0],
  r1 0x44 [fl .rw 2 30 0],
  r1 0x48 [fl .rc 24 8 0, fl .ro 4 2 0, fl .ro 0 3 0],
  rb 0x4C 0x4 3 [fk 0 32 0],
  r1 0x58 [fk 16 16 2000, fk 8 8 200, fk 1 2 1, fk 0 1 0],
  r1 0x5C [fl .wo 0 32 0],
  r1 0x60 [fl .ro 31 1 0, fl .ro 0 31 0],
  r1 0x64 [fl .rw 0 2 0],
  r1 0x68 [fw .ro 0 32 0 false],
  r1 0x6C [fl .ro 0 4 0]]

/-! ### IMG (spec chapters 21) -/

def IMG_MAP_LOAD_VALID : Fld := ⟨pageBase 0x4C + 0x40, 2, 1⟩
def IMG_MAP_TRIAL : Fld := ⟨pageBase 0x4C + 0x40, 1, 1⟩
def IMG_MAP_RUN_BANK : Fld := ⟨pageBase 0x4C + 0x40, 0, 1⟩
def IMG_BOOT_LAST : Fld := ⟨pageBase 0x4C + 0x44, 4, 4⟩
def IMG_BOOT_PREF : Fld := ⟨pageBase 0x4C + 0x44, 0, 1⟩
def IMG_CMD_CONFIRM : Fld := ⟨pageBase 0x4C + 0x48, 3, 1⟩
def IMG_CMD_SWAP : Fld := ⟨pageBase 0x4C + 0x48, 2, 1⟩
def IMG_CMD_VERIFY : Fld := ⟨pageBase 0x4C + 0x48, 1, 1⟩
def IMG_CMD_ERASE : Fld := ⟨pageBase 0x4C + 0x48, 0, 1⟩
def IMG_STAT_LOAD_FREE : Fld := ⟨pageBase 0x4C + 0x4C, 16, 7⟩
def IMG_STAT_SWAP_RESULT : Fld := ⟨pageBase 0x4C + 0x4C, 12, 4⟩
def IMG_STAT_RESULT : Fld := ⟨pageBase 0x4C + 0x4C, 8, 4⟩
def IMG_STAT_BUSY : Fld := ⟨pageBase 0x4C + 0x4C, 0, 2⟩
def IMG_LOAD_ADDR_OFFSET : Fld := ⟨pageBase 0x4C + 0x50, 2, 17⟩
def IMG_LOAD_DATA_WORD : Fld := ⟨pageBase 0x4C + 0x54, 0, 32⟩
def IMG_CFG_RAISE_MIN : Fld := ⟨pageBase 0x4C + 0x58, 31, 1⟩
def IMG_CFG_CONFIRM_TO : Fld := ⟨pageBase 0x4C + 0x58, 0, 16⟩
def IMG_RUN_VERSION_VERSION : Fld := ⟨pageBase 0x4C + 0x5C, 0, 32⟩
def IMG_MIN_VERSION_VERSION : Fld := ⟨pageBase 0x4C + 0x60, 0, 32⟩
def IMG_TRIAL_LEFT_S : Fld := ⟨pageBase 0x4C + 0x64, 0, 16⟩
def IMG_KEY_HASH_WORD (n : Nat) : Fld := ⟨pageBase 0x4C + 0x80 + n * 0x4, 0, 32⟩
def IMG_KEY_SEAL_SEALED : Fld := ⟨pageBase 0x4C + 0x100, 0, 4⟩

/-- The registers of IMG. -/
def pageIMG : List Row := [
  r1 0x40 [fl .ro 2 1 0, fl .ro 1 1 0, fl .ro 0 1 0],
  r1 0x44 [fl .ro 4 4 0, fkro 0 1 0],
  r1 0x48 [fl .wo 3 1 0, fl .wo 2 1 0, fl .wo 1 1 0, fl .wo 0 1 0],
  r1 0x4C [fl .ro 16 7 64, fl .ro 12 4 0, fl .ro 8 4 0, fl .ro 0 2 0],
  r1 0x50 [fl .rw 2 17 0],
  r1 0x54 [fl .wo 0 32 0],
  r1 0x58 [fk 31 1 1, fk 0 16 30],
  r1 0x5C [fl .ro 0 32 0],
  r1 0x60 [fk 0 32 0],
  r1 0x64 [fl .ro 0 16 0],
  rb 0x80 0x4 32 [fk 0 32 0],
  r1 0x100 [fl .ro 0 4 0]]

/-! ### HOST (spec chapters 17) -/

def HOST_CFG_SLEEP_POL : Fld := ⟨pageBase 0x50 + 0x40, 16, 1⟩
def HOST_CFG_DUMMY : Fld := ⟨pageBase 0x50 + 0x40, 8, 6⟩
def HOST_CFG_WIDTH : Fld := ⟨pageBase 0x50 + 0x40, 0, 3⟩
def HOST_STAT_SLEEP : Fld := ⟨pageBase 0x50 + 0x44, 7, 1⟩
def HOST_STAT_WAKE_REQ : Fld := ⟨pageBase 0x50 + 0x44, 6, 1⟩
def HOST_STAT_REMOTE_DONE : Fld := ⟨pageBase 0x50 + 0x44, 5, 1⟩
def HOST_STAT_LATE : Fld := ⟨pageBase 0x50 + 0x44, 4, 1⟩
def HOST_STAT_UNDERRUN : Fld := ⟨pageBase 0x50 + 0x44, 3, 1⟩
def HOST_STAT_ABORTED : Fld := ⟨pageBase 0x50 + 0x44, 2, 1⟩
def HOST_STAT_BAD_CMD : Fld := ⟨pageBase 0x50 + 0x44, 1, 1⟩
def HOST_STAT_REMOTE_BUSY : Fld := ⟨pageBase 0x50 + 0x44, 0, 1⟩
def HOST_LAST_ADDR_ADDR : Fld := ⟨pageBase 0x50 + 0x48, 0, 32⟩
def HOST_LAST_INFO_VALID : Fld := ⟨pageBase 0x50 + 0x4C, 31, 1⟩
def HOST_LAST_INFO_CMD : Fld := ⟨pageBase 0x50 + 0x4C, 8, 8⟩
def HOST_LAST_INFO_TONGS : Fld := ⟨pageBase 0x50 + 0x4C, 4, 4⟩
def HOST_LAST_INFO_RESP : Fld := ⟨pageBase 0x50 + 0x4C, 0, 2⟩
def HOST_LATE_ADDR_ADDR : Fld := ⟨pageBase 0x50 + 0x50, 0, 32⟩
def HOST_ATTN_LEVEL : Fld := ⟨pageBase 0x50 + 0x54, 1, 1⟩
def HOST_ATTN_SW : Fld := ⟨pageBase 0x50 + 0x54, 0, 1⟩
def HOST_REMOTE_CFG_TIMEOUT : Fld := ⟨pageBase 0x50 + 0x58, 0, 16⟩
def HOST_REMOTE_STAT_BUSY : Fld := ⟨pageBase 0x50 + 0x5C, 31, 1⟩
def HOST_REMOTE_STAT_WRITE : Fld := ⟨pageBase 0x50 + 0x5C, 30, 1⟩
def HOST_REMOTE_STAT_HUB : Fld := ⟨pageBase 0x50 + 0x5C, 24, 6⟩
def HOST_REMOTE_STAT_N_M1 : Fld := ⟨pageBase 0x50 + 0x5C, 20, 4⟩
def HOST_REMOTE_STAT_RESULT : Fld := ⟨pageBase 0x50 + 0x5C, 0, 3⟩
def HOST_LATE_DATA_WORD (n : Nat) : Fld := ⟨pageBase 0x50 + 0x80 + n * 0x4, 0, 32⟩
def HOST_REMOTE_DATA_WORD (n : Nat) : Fld := ⟨pageBase 0x50 + 0xC0 + n * 0x4, 0, 32⟩

/-- The registers of HOST. -/
def pageHOST : List Row := [
  r1 0x40 [fk 16 1 0, fl .rw 8 6 16, fl .rw 0 3 0],
  r1 0x44 [fl .ro 7 1 0, fl .w1c 6 1 0, fl .w1c 5 1 0, fl .w1c 4 1 0, fl .w1c 3 1 0, fl .w1c 2 1 0, fl .w1c 1 1 0, fl .ro 0 1 0],
  r1 0x48 [fl .ro 0 32 0],
  r1 0x4C [fl .w1c 31 1 0, fl .ro 8 8 0, fl .ro 4 4 0, fl .ro 0 2 0],
  r1 0x50 [fl .ro 0 32 0],
  r1 0x54 [fl .ro 1 1 0, fl .rw 0 1 0],
  r1 0x58 [fk 0 16 1000],
  r1 0x5C [fl .ro 31 1 0, fl .ro 30 1 0, fl .ro 24 6 0, fl .ro 20 4 0, fl .ro 0 3 0],
  rb 0x80 0x4 16 [fl .ro 0 32 0],
  rb 0xC0 0x4 16 [fl .ro 0 32 0]]

/-! ### RINGP (spec chapters 18) -/

def RINGP_PORT_CFG_SWING (i : Nat) : Fld := ⟨pageBase (0x51 + i) + 0x40, 4, 2⟩
def RINGP_PORT_CFG_TX_INV (i : Nat) : Fld := ⟨pageBase (0x51 + i) + 0x40, 2, 1⟩
def RINGP_PORT_CFG_RX_INV (i : Nat) : Fld := ⟨pageBase (0x51 + i) + 0x40, 1, 1⟩
def RINGP_PORT_CFG_EN (i : Nat) : Fld := ⟨pageBase (0x51 + i) + 0x40, 0, 1⟩
def RINGP_PORT_STAT_PEER_PORT (i : Nat) : Fld := ⟨pageBase (0x51 + i) + 0x44, 8, 1⟩
def RINGP_PORT_STAT_WRAPPED (i : Nat) : Fld := ⟨pageBase (0x51 + i) + 0x44, 3, 1⟩
def RINGP_PORT_STAT_STATE (i : Nat) : Fld := ⟨pageBase (0x51 + i) + 0x44, 0, 3⟩
def RINGP_ERR_CNT_CRC (i : Nat) : Fld := ⟨pageBase (0x51 + i) + 0x48, 16, 16⟩
def RINGP_ERR_CNT_CODE (i : Nat) : Fld := ⟨pageBase (0x51 + i) + 0x48, 0, 16⟩
def RINGP_DROP_CNT_TTL (i : Nat) : Fld := ⟨pageBase (0x51 + i) + 0x4C, 16, 16⟩
def RINGP_DROP_CNT_TYPE (i : Nat) : Fld := ⟨pageBase (0x51 + i) + 0x4C, 0, 16⟩
def RINGP_DOWNS_COUNT (i : Nat) : Fld := ⟨pageBase (0x51 + i) + 0x50, 0, 16⟩
def RINGP_PDELAY_D (i : Nat) : Fld := ⟨pageBase (0x51 + i) + 0x54, 0, 32⟩
def RINGP_PDELAY_LAST_D (i : Nat) : Fld := ⟨pageBase (0x51 + i) + 0x58, 0, 32⟩
def RINGP_ASYM_ASYM (i : Nat) : Fld := ⟨pageBase (0x51 + i) + 0x5C, 0, 32⟩
def RINGP_TX_UTIL_PEAK (i : Nat) : Fld := ⟨pageBase (0x51 + i) + 0x60, 16, 16⟩
def RINGP_TX_UTIL_NOW (i : Nat) : Fld := ⟨pageBase (0x51 + i) + 0x60, 0, 16⟩
def RINGP_PEER_UID_LO_UID (i : Nat) : Fld := ⟨pageBase (0x51 + i) + 0x64, 0, 32⟩
def RINGP_PEER_UID_HI_UID (i : Nat) : Fld := ⟨pageBase (0x51 + i) + 0x68, 0, 32⟩

/-- The registers of RINGP. -/
def pageRINGP : List Row := [
  r1 0x40 [fk 4 2 1, fk 2 1 0, fk 1 1 0, fk 0 1 1],
  r1 0x44 [fl .ro 8 1 0, fl .ro 3 1 1, fl .ro 0 3 0],
  r1 0x48 [fl .rc 16 16 0, fl .rc 0 16 0],
  r1 0x4C [fl .rc 16 16 0, fl .rc 0 16 0],
  r1 0x50 [fl .rc 0 16 0],
  r1 0x54 [fl .ro 0 32 0],
  r1 0x58 [fl .ro 0 32 0],
  r1 0x5C [fk 0 32 0],
  r1 0x60 [ft 16 16 0, fl .ro 0 16 0],
  r1 0x64 [fl .ro 0 32 0],
  r1 0x68 [fl .ro 0 32 0]]

/-! ### RING (spec chapters 18) -/

def RING_UID_LO_UID : Fld := ⟨pageBase 0x53 + 0x40, 0, 32⟩
def RING_UID_HI_UID : Fld := ⟨pageBase 0x53 + 0x44, 0, 32⟩
def RING_STAT_BEACON_OK : Fld := ⟨pageBase 0x53 + 0x48, 23, 1⟩
def RING_STAT_ACTIVE_HEAD : Fld := ⟨pageBase 0x53 + 0x48, 16, 6⟩
def RING_STAT_HOPS : Fld := ⟨pageBase 0x53 + 0x48, 8, 6⟩
def RING_STAT_TSRC_PORT : Fld := ⟨pageBase 0x53 + 0x48, 7, 1⟩
def RING_STAT_REFUSED : Fld := ⟨pageBase 0x53 + 0x48, 4, 1⟩
def RING_STAT_NUM_VALID : Fld := ⟨pageBase 0x53 + 0x48, 3, 1⟩
def RING_STAT_TLOCK : Fld := ⟨pageBase 0x53 + 0x48, 2, 1⟩
def RING_STAT_ROLE : Fld := ⟨pageBase 0x53 + 0x48, 0, 2⟩
def RING_ID_WANT_VALID : Fld := ⟨pageBase 0x53 + 0x4C, 6, 1⟩
def RING_ID_WANT : Fld := ⟨pageBase 0x53 + 0x4C, 0, 6⟩
def RING_HEAD_CFG_HOLD : Fld := ⟨pageBase 0x53 + 0x50, 24, 8⟩
def RING_HEAD_CFG_AUTO : Fld := ⟨pageBase 0x53 + 0x50, 16, 1⟩
def RING_HEAD_CFG_HEAD_NUM : Fld := ⟨pageBase 0x53 + 0x50, 8, 6⟩
def RING_HEAD_CFG_PRIO : Fld := ⟨pageBase 0x53 + 0x50, 0, 4⟩
def RING_HEAL_CFG_MS : Fld := ⟨pageBase 0x53 + 0x54, 0, 8⟩
def RING_MAP_LO_HELD : Fld := ⟨pageBase 0x53 + 0x58, 0, 32⟩
def RING_MAP_HI_HELD : Fld := ⟨pageBase 0x53 + 0x5C, 0, 32⟩
def RING_MAP_GEN_GEN : Fld := ⟨pageBase 0x53 + 0x60, 0, 32⟩
def RING_JOIN_Q_VALID : Fld := ⟨pageBase 0x53 + 0x64, 31, 1⟩
def RING_JOIN_Q_WANT_VALID : Fld := ⟨pageBase 0x53 + 0x64, 6, 1⟩
def RING_JOIN_Q_WANT : Fld := ⟨pageBase 0x53 + 0x64, 0, 6⟩
def RING_JOIN_UID_LO_UID : Fld := ⟨pageBase 0x53 + 0x68, 0, 32⟩
def RING_JOIN_UID_HI_UID : Fld := ⟨pageBase 0x53 + 0x6C, 0, 32⟩
def RING_GRANT_GO : Fld := ⟨pageBase 0x53 + 0x70, 31, 1⟩
def RING_GRANT_REFUSE : Fld := ⟨pageBase 0x53 + 0x70, 30, 1⟩
def RING_GRANT_NUMBER : Fld := ⟨pageBase 0x53 + 0x70, 0, 6⟩
def RING_TSERVO_GAIN_LOCK_CNT : Fld := ⟨pageBase 0x53 + 0x74, 24, 8⟩
def RING_TSERVO_GAIN_KI : Fld := ⟨pageBase 0x53 + 0x74, 8, 8⟩
def RING_TSERVO_GAIN_KP : Fld := ⟨pageBase 0x53 + 0x74, 0, 8⟩
def RING_LOCK_THR_THR : Fld := ⟨pageBase 0x53 + 0x78, 0, 32⟩
def RING_STEP_THR_TICKS : Fld := ⟨pageBase 0x53 + 0x7C, 0, 32⟩
def RING_TSERVO_INT_INT : Fld := ⟨pageBase 0x53 + 0x80, 0, 32⟩
def RING_OFFSET_O : Fld := ⟨pageBase 0x53 + 0x84, 0, 32⟩
def RING_BEACONS_MISSED : Fld := ⟨pageBase 0x53 + 0x88, 16, 16⟩
def RING_BEACONS_RX : Fld := ⟨pageBase 0x53 + 0x88, 0, 16⟩
def RING_BW_BURST : Fld := ⟨pageBase 0x53 + 0x8C, 16, 8⟩
def RING_BW_RATE : Fld := ⟨pageBase 0x53 + 0x8C, 0, 12⟩
def RING_RETRY_CFG_TO : Fld := ⟨pageBase 0x53 + 0x90, 0, 16⟩
def RING_RETRY_STAT_RESENT : Fld := ⟨pageBase 0x53 + 0x94, 16, 16⟩
def RING_RETRY_STAT_LOST : Fld := ⟨pageBase 0x53 + 0x94, 0, 16⟩
def RING_RX_STAT_GAP : Fld := ⟨pageBase 0x53 + 0x98, 16, 16⟩
def RING_RX_STAT_CONFLICT : Fld := ⟨pageBase 0x53 + 0x98, 0, 16⟩
def RING_ROUTE_EN (n : Nat) : Fld := ⟨pageBase 0x53 + 0x800 + n * 0x4, 31, 1⟩
def RING_ROUTE_ACK (n : Nat) : Fld := ⟨pageBase 0x53 + 0x800 + n * 0x4, 30, 1⟩
def RING_ROUTE_DIR (n : Nat) : Fld := ⟨pageBase 0x53 + 0x800 + n * 0x4, 28, 2⟩
def RING_ROUTE_DST_HUB (n : Nat) : Fld := ⟨pageBase 0x53 + 0x800 + n * 0x4, 16, 6⟩
def RING_ROUTE_DST_QUEUE (n : Nat) : Fld := ⟨pageBase 0x53 + 0x800 + n * 0x4, 0, 9⟩

/-- The registers of RING. -/
def pageRING : List Row := [
  r1 0x40 [fl .ro 0 32 0],
  r1 0x44 [fl .ro 0 32 0],
  r1 0x48 [fl .ro 23 1 0, fl .ro 16 6 0, fl .ro 8 6 0, fl .ro 7 1 0, fl .w1c 4 1 0, fl .ro 3 1 0, fl .ro 2 1 0, fl .ro 0 2 0],
  r1 0x4C [fk 6 1 0, fk 0 6 0],
  r1 0x50 [fk 24 8 60, fk 16 1 1, fk 8 6 0, fk 0 4 0],
  r1 0x54 [fk 0 8 10],
  r1 0x58 [fl .ro 0 32 0],
  r1 0x5C [fl .ro 0 32 0],
  r1 0x60 [fl .ro 0 32 0],
  r1 0x64 [fl .ro 31 1 0, fl .ro 6 1 0, fl .ro 0 6 0],
  r1 0x68 [fl .ro 0 32 0],
  r1 0x6C [fl .ro 0 32 0],
  r1 0x70 [fl .wo 31 1 0, fl .wo 30 1 0, fl .wo 0 6 0],
  r1 0x74 [fk 24 8 64, fk 8 8 1, fk 0 8 4],
  r1 0x78 [fk 0 32 4096],
  r1 0x7C [fk 0 32 1311],
  r1 0x80 [fl .ro 0 32 0],
  r1 0x84 [fl .ro 0 32 0],
  r1 0x88 [fl .rc 16 16 0, fl .ro 0 16 0],
  r1 0x8C [fk 16 8 8, fk 0 12 0],
  r1 0x90 [fk 0 16 500],
  r1 0x94 [fl .rc 16 16 0, fl .rc 0 16 0],
  r1 0x98 [fl .rc 16 16 0, fl .rc 0 16 0],
  rb 0x800 0x4 512 [fk 31 1 0, fk 30 1 1, fk 28 2 0, fk 16 6 0, fk 0 9 0]]

/-! ### HEARTH (spec chapters 19) -/

def HEARTH_STAT_QUEUED : Fld := ⟨pageBase 0x58 + 0x40, 24, 8⟩
def HEARTH_STAT_FREE : Fld := ⟨pageBase 0x58 + 0x40, 0, 17⟩
def HEARTH_FLAGS_COMPACTING : Fld := ⟨pageBase 0x58 + 0x44, 3, 1⟩
def HEARTH_FLAGS_NO_RESTORE : Fld := ⟨pageBase 0x58 + 0x44, 2, 1⟩
def HEARTH_FLAGS_RACED : Fld := ⟨pageBase 0x58 + 0x44, 1, 1⟩
def HEARTH_FLAGS_ERASING : Fld := ⟨pageBase 0x58 + 0x44, 0, 1⟩
def HEARTH_RACED_PAGE : Fld := ⟨pageBase 0x58 + 0x48, 0, 7⟩
def HEARTH_WEAR_MIN_COUNT : Fld := ⟨pageBase 0x58 + 0x4C, 0, 32⟩
def HEARTH_WEAR_MAX_COUNT : Fld := ⟨pageBase 0x58 + 0x50, 0, 32⟩
def HEARTH_FALLBACK_PAGE (n : Nat) : Fld := ⟨pageBase 0x58 + 0x54 + n * 0x4, 0, 32⟩
def HEARTH_LAST_FAIL_VALID : Fld := ⟨pageBase 0x58 + 0x60, 31, 1⟩
def HEARTH_LAST_FAIL_CAUSE : Fld := ⟨pageBase 0x58 + 0x60, 8, 3⟩
def HEARTH_LAST_FAIL_PAGE : Fld := ⟨pageBase 0x58 + 0x60, 0, 7⟩
def HEARTH_IMG_SEL_PAGE : Fld := ⟨pageBase 0x58 + 0x64, 0, 7⟩
def HEARTH_IMG_WORDS_CREDITS : Fld := ⟨pageBase 0x58 + 0x68, 16, 16⟩
def HEARTH_IMG_WORDS_WORDS : Fld := ⟨pageBase 0x58 + 0x68, 0, 16⟩
def HEARTH_CMD_COMPACT : Fld := ⟨pageBase 0x58 + 0x6C, 1, 1⟩
def HEARTH_CMD_ERASE_ALL : Fld := ⟨pageBase 0x58 + 0x6C, 0, 1⟩

/-- The registers of HEARTH. -/
def pageHEARTH : List Row := [
  r1 0x40 [fl .ro 24 8 0, fl .ro 0 17 0],
  r1 0x44 [fl .ro 3 1 0, fl .ro 2 1 0, fl .w1c 1 1 0, fl .ro 0 1 0],
  r1 0x48 [fl .ro 0 7 0],
  r1 0x4C [fl .ro 0 32 0],
  r1 0x50 [fl .ro 0 32 0],
  rb 0x54 0x4 3 [fl .w1c 0 32 0],
  r1 0x60 [fl .w1c 31 1 0, fl .ro 8 3 0, fl .ro 0 7 0],
  r1 0x64 [fl .rw 0 7 0],
  r1 0x68 [fl .ro 16 16 0, fl .ro 0 16 0],
  r1 0x6C [fl .wo 1 1 0, fl .wo 0 1 0]]

/-! ### BBOX (spec chapters 22) -/

def BBOX_STAT_FROZEN : Fld := ⟨pageBase 0x59 + 0x40, 31, 1⟩
def BBOX_STAT_COPY : Fld := ⟨pageBase 0x59 + 0x40, 29, 2⟩
def BBOX_STAT_WRAPPED : Fld := ⟨pageBase 0x59 + 0x40, 28, 1⟩
def BBOX_STAT_CAUSE : Fld := ⟨pageBase 0x59 + 0x40, 24, 4⟩
def BBOX_STAT_WR_IDX : Fld := ⟨pageBase 0x59 + 0x40, 0, 11⟩
def BBOX_CFG_VIEW : Fld := ⟨pageBase 0x59 + 0x44, 8, 1⟩
def BBOX_CFG_F_ORDER : Fld := ⟨pageBase 0x59 + 0x44, 4, 1⟩
def BBOX_CFG_F_FALLBACK : Fld := ⟨pageBase 0x59 + 0x44, 3, 1⟩
def BBOX_CFG_F_SLICE : Fld := ⟨pageBase 0x59 + 0x44, 2, 1⟩
def BBOX_CFG_F_WDOG : Fld := ⟨pageBase 0x59 + 0x44, 1, 1⟩
def BBOX_CFG_F_LOCKUP : Fld := ⟨pageBase 0x59 + 0x44, 0, 1⟩
def BBOX_CMD_ERASE_COPY : Fld := ⟨pageBase 0x59 + 0x48, 2, 1⟩
def BBOX_CMD_RELEASE : Fld := ⟨pageBase 0x59 + 0x48, 1, 1⟩
def BBOX_CMD_FREEZE : Fld := ⟨pageBase 0x59 + 0x48, 0, 1⟩
def BBOX_DROPPED_FIRST_CODE : Fld := ⟨pageBase 0x59 + 0x4C, 16, 16⟩
def BBOX_DROPPED_COUNT : Fld := ⟨pageBase 0x59 + 0x4C, 0, 16⟩
def BBOX_FREEZES_COUNT : Fld := ⟨pageBase 0x59 + 0x50, 0, 16⟩
def BBOX_SW_LO_ARG : Fld := ⟨pageBase 0x59 + 0x54, 0, 32⟩
def BBOX_SW_HI_ARG : Fld := ⟨pageBase 0x59 + 0x58, 0, 32⟩
def BBOX_SW_CODE_CODE : Fld := ⟨pageBase 0x59 + 0x5C, 0, 16⟩

/-- The registers of BBOX. -/
def pageBBOX : List Row := [
  r1 0x40 [fl .ro 31 1 0, fl .ro 29 2 0, fl .ro 28 1 0, fl .ro 24 4 0, fl .ro 0 11 0],
  r1 0x44 [fl .rw 8 1 0, fk 4 1 0, fk 3 1 1, fk 2 1 1, fk 1 1 1, fk 0 1 1],
  r1 0x48 [fl .wo 2 1 0, fl .wo 1 1 0, fl .wo 0 1 0],
  r1 0x4C [fl .ro 16 16 0, fl .rc 0 16 0],
  r1 0x50 [fl .ro 0 16 0],
  r1 0x54 [fl .rw 0 32 0],
  r1 0x58 [fl .rw 0 32 0],
  r1 0x5C [fl .wo 0 16 0]]

/-! ### THERM (spec chapters 20) -/

def THERM_STAT_SENSOR : Fld := ⟨pageBase 0x5A + 0x40, 8, 2⟩
def THERM_STAT_STAGE : Fld := ⟨pageBase 0x5A + 0x40, 0, 3⟩
def THERM_THOT_TEMP : Fld := ⟨pageBase 0x5A + 0x44, 0, 32⟩
def THERM_PEAK_TEMP : Fld := ⟨pageBase 0x5A + 0x48, 0, 32⟩
def THERM_CFG_SHED_PCT : Fld := ⟨pageBase 0x5A + 0x4C, 8, 7⟩
def THERM_CFG_HYST : Fld := ⟨pageBase 0x5A + 0x4C, 0, 4⟩
def THERM_STAGE_CNT_SHED : Fld := ⟨pageBase 0x5A + 0x50, 16, 8⟩
def THERM_STAGE_CNT_THROTTLE : Fld := ⟨pageBase 0x5A + 0x50, 8, 8⟩
def THERM_STAGE_CNT_WARN : Fld := ⟨pageBase 0x5A + 0x50, 0, 8⟩

/-- The registers of THERM. -/
def pageTHERM : List Row := [
  r1 0x40 [fl .ro 8 2 0, fl .ro 0 3 0],
  r1 0x44 [fl .ro 0 32 0],
  r1 0x48 [ft 0 32 0],
  r1 0x4C [fk 8 7 46, fk 0 4 5],
  r1 0x50 [fl .rc 16 8 0, fl .rc 8 8 0, fl .rc 0 8 0]]

/-! ### DBG (spec chapters 15) -/

def DBG_CTRL_POOL_WR : Fld := ⟨pageBase 0x5F + 0x40, 2, 1⟩
def DBG_CTRL_ATTACHED : Fld := ⟨pageBase 0x5F + 0x40, 1, 1⟩
def DBG_CTRL_LOCKED : Fld := ⟨pageBase 0x5F + 0x40, 0, 1⟩
def DBG_HALT_CORE : Fld := ⟨pageBase 0x5F + 0x44, 0, 4⟩
def DBG_HALTED_CORE : Fld := ⟨pageBase 0x5F + 0x48, 0, 4⟩
def DBG_STEP_EVT : Fld := ⟨pageBase 0x5F + 0x4C, 8, 1⟩
def DBG_STEP_CORE : Fld := ⟨pageBase 0x5F + 0x4C, 0, 4⟩
def DBG_REG_SEL_CORE : Fld := ⟨pageBase 0x5F + 0x50, 8, 2⟩
def DBG_REG_SEL_KIND : Fld := ⟨pageBase 0x5F + 0x50, 6, 2⟩
def DBG_REG_SEL_INDEX : Fld := ⟨pageBase 0x5F + 0x50, 0, 4⟩
def DBG_REG_DATA_VALUE : Fld := ⟨pageBase 0x5F + 0x54, 0, 32⟩
def DBG_BP_ADDR_ADDR (n : Nat) : Fld := ⟨pageBase 0x5F + 0x60 + n * 0x8, 0, 32⟩
def DBG_BP_CFG_CORES (n : Nat) : Fld := ⟨pageBase 0x5F + 0x64 + n * 0x8, 4, 4⟩
def DBG_BP_CFG_KIND (n : Nat) : Fld := ⟨pageBase 0x5F + 0x64 + n * 0x8, 0, 3⟩

/-- The registers of DBG. -/
def pageDBG : List Row := [
  r1 0x40 [fl .rw 2 1 0, fl .rw 1 1 0, fk 0 1 0],
  r1 0x44 [fl .rw 0 4 0],
  r1 0x48 [fl .ro 0 4 0],
  r1 0x4C [fl .wo 8 1 0, fl .wo 0 4 0],
  r1 0x50 [fl .rw 8 2 0, fl .rw 6 2 0, fl .rw 0 4 0],
  r1 0x54 [fl .rw 0 32 0],
  rb 0x60 0x8 4 [fl .rw 0 32 0],
  rb 0x64 0x8 4 [fl .rw 4 4 0, fl .rw 0 3 0]]

/-! ### Which rows a page number has (R18, R25) -/

/-- The block registers of page `p`, at offsets from 0x040. -/
def pageRows (p : Nat) : List Row :=
  if p = 0x0 then pageSYS else
  if p = 0x1 then pageBELLOWS else
  if p = 0x2 then pageTB else
  if p = 0x3 then pageCMP else
  if p = 0x4 then pageLC else
  if 0x8 ≤ p ∧ p ≤ 0xF then pageAFE else
  if p = 0x10 then pageAFE_COM else
  if p = 0x11 then pagePDM else
  if p = 0x14 then pageWM else
  if p = 0x15 then pagePG else
  if 0x18 ≤ p ∧ p ≤ 0x1A then pageANV else
  if p = 0x1B then pageSCHED else
  if p = 0x1C then pageCOEF else
  if 0x20 ≤ p ∧ p ≤ 0x37 then pagePORT else
  if p = 0x38 then pageSEQ else
  if p = 0x39 then pageATT else
  if p = 0x3C then pageHARDYF else
  if p = 0x3D then pageHARDYK else
  if p = 0x40 then pageTONGS else
  if p = 0x41 then pageTONGSQ else
  if p = 0x44 then pageEVC else
  if 0x48 ≤ p ∧ p ≤ 0x4B then pageCORE else
  if p = 0x4C then pageIMG else
  if p = 0x50 then pageHOST else
  if 0x51 ≤ p ∧ p ≤ 0x52 then pageRINGP else
  if p = 0x53 then pageRING else
  if p = 0x58 then pageHEARTH else
  if p = 0x59 then pageBBOX else
  if p = 0x5A then pageTHERM else
  if p = 0x5F then pageDBG else
  []

/-- The table space of page `p`. -/
def tableRows (p : Nat) : List Row :=
  if p = 0x1B then tableSCHED else
  if p = 0x1C then tableCOEF else
  if p = 0x38 then tableSEQ else
  if p = 0x39 then tableATT else
  if p = 0x3C then tableHARDYF else
  if p = 0x3D then tableHARDYK else
  if p = 0x41 then tableTONGSQ else
  if p = 0x44 then tableEVC else
  []

end Sys2Proof.Machine
end

