-- ==== Sys2Proof/Machine/State.lean ====
section
/-!
DEFINITION. Sys2Proof/Machine/State.lean: the state of the hub as plain data, the reasons a step can stop, and the state
right after a COLD reset. Registers and table words that the manual gives an address stand in `regs` under that address;
memories stand in `mem`; what the manual gives a block beside its registers stands in the block's own record.
-/
namespace Sys2Proof.Machine

/-- The three variants of R1. -/
inductive Variant where
  | f | s | l
deriving DecidableEq, Repr

/-- The unlock sequence of one page by one master (R23). -/
inductive Key where
  /-- No sequence stands. -/
  | idle
  /-- The first key word was this master's last access to the page. -/
  | first
  /-- The page admits one write of this master to a locked field. -/
  | unlocked
  /-- The same, and the first key word of a further sequence was this master's last access to the page. -/
  | unlockedFirst
deriving DecidableEq, Repr

/-- The three bus responses of R26. -/
inductive Resp where
  | ok | notReady | busError
deriving DecidableEq, Repr

/-- The response and data of the last access of a master (the model's own: what the bus returned to it). -/
structure Reply where
  resp : Resp := .ok
  data : Word := 0
deriving DecidableEq, Repr

/-- Bellows' clock logic beside CLK_STAT (R30 to R34, R44, R45). -/
structure Clock where
  /-- Reference edges arrive (R33). -/
  refPresent : Bool := true
  /-- Step 2 of R30 is done: the VCO band is chosen. -/
  band : Bool := false
  /-- The modulo-5 phase counter of R34. -/
  phase : Nat := 0
  /-- PLL cycles since the last divider release, running on in the reference state at 64 per reference cycle (R31). -/
  plc : Nat := 0
  /-- Elapsed time in PLL-cycle lengths of 1/2,621.44 µs, in every clock state in which TB moves: the sensor ports and the poll timers count in it. -/
  age : Nat := 0
  /-- How long a core has been halted by now (R142), and how long SER has run on the reference, none if it has from reset on (R160). -/
  halted : Nat := 0
  slow : Option Nat := none
  /-- TB at the start of the present crystal measurement window (R44). -/
  winStart : Nat := 0
  /-- The clock state changed, or CLOAD did, in the present window: it is discarded (R44, R407). -/
  winBad : Bool := false
  /-- The loss of lock of R32 is standing: channels behave as in WATCH until the next release. -/
  lockLost : Bool := false
deriving DecidableEq, Repr

/-- Time-base state beside its registers: discipline counters and pending load (R39 to R46). -/
structure TimeBase where
  /-- Consecutive accepted captures with |e| ≤ LOCK_THR (R43). -/
  within : Nat := 0
  /-- Consecutive captures with |e| > LOCK_THR (R43). -/
  beyond : Nat := 0
  /-- No capture has been accepted since the last coast (R41). -/
  afterCoast : Bool := false
  /-- An admitted CMD.LOAD waits for the next TB update (R46). -/
  loadPending : Bool := false
  /-- A load of R322 that waits for the next TB update: the ticks by which TB is ahead. -/
  ringStep : Option Int := none
  /-- PPS_EXP_LO as last written; a write of PPS_EXP_HI commits it (R40). -/
  expLo : Word := 0
deriving DecidableEq, Repr

/-- One master's shadows in the TB page (R37, R39). -/
structure TbShadow where
  hi : Word := 0
  frac : Word := 0
  /-- The master's previous access to the TB page was a read of NOW_LO. -/
  nowFresh : Bool := false
  capHi : Word := 0
  /-- The master's previous access to the TB page was a read of PPS_CAP_LO. -/
  capFresh : Bool := false
deriving DecidableEq, Repr

/-- One source and target pair of the event controller (R242, R243). -/
structure Pair where
  /-- The coalesce count. -/
  coal : Nat := 0
  lost : Bool := false
  /-- TB of the record time. -/
  time : Nat := 0
  /-- The assertion was caught by a wake latch (R252), and PEND stands for a level that had been released by the wake. -/
  waked : Bool := false
  stays : Bool := false
  /-- TB of the append of the pair's last record (R243). -/
  last : Option Nat := none
deriving DecidableEq, Repr

/-- A wake latch that is set (R252). -/
structure Latch where
  time : Nat
  count : Nat := 0
  lost : Bool := false
deriving DecidableEq, Repr

/-- One source of the event controller beside its table entry. -/
structure Source where
  /-- The level at the controller's last sample (R241). -/
  level : Bool := false
  /-- TB of the first immediate re-assertion counted in STORM (R251). -/
  stormTb : Nat := 0
  /-- Its wake latch: set since the last AON edge, and what the AON logic has taken from it (R252). -/
  set : Bool := false
  latch : Option Latch := none
deriving DecidableEq, Repr

/-- One target of the event controller: its in-service stack, top first, as (level, source) (R247), and the sources whose
record is in service without an entry (R249). -/
structure Target where
  stack : List (Nat × Nat) := []
  unpushed : List Nat := []
deriving DecidableEq, Repr

/-- Black-box state beside its registers (R383, R388, R390, R391). -/
structure BlackBox where
  /-- The standing freeze has or will have its copy: COPIED of its record (R388). -/
  copied : Bool := false
  /-- COPYING stands for an erase of the copy area, not for a copy (R390). -/
  erasing : Bool := false
  /-- A copy waits for that erase to end (R391). -/
  copyWaits : Bool := false
  /-- A RELEASE waits for the copy to end (R391). -/
  releaseWaits : Bool := false
deriving DecidableEq, Repr

/-- The commit that Hearth is writing: its page and the image as read (R342). -/
structure Commit where
  page : Nat
  image : List Nat
deriving DecidableEq, Repr

/-- Hearth beside its registers and its store (R340 to R348). -/
structure Hearth where
  running : Option Commit := none
  /-- Pages whose commit is queued, in order of request. -/
  queue : List Nat := []
  /-- Commit credits by page; a page not listed holds 8; and the second of TB in which credits were last gained (R343). -/
  credits : List (Nat × Nat) := []
  second : Nat := 0
  /-- The next word of the ACTIVE segment to be written. -/
  pos : Nat := 4
  /-- The segment under compaction, and the compactions that the commit in progress has waited for (R346). -/
  target : Option Nat := none
  tries : Nat := 0
  /-- An admitted ERASE_ALL waits for the commit in progress (R348). -/
  eraseWaits : Bool := false
deriving DecidableEq, Repr

/-- A shadow of words latched by a read of a first word (R200, R383): the slot it stands for and its words, while the
master's later accesses keep it usable. -/
structure SlotShadow where
  slot : Option Nat := none
  words : List Word := []
deriving DecidableEq, Repr

/-- Who writes a packet (R225): each writer has at most one open packet per queue. -/
inductive Writer where
  | channel (c : Nat)
  | hardy
  | port (n : Nat)
  | evc
  | ring (west : Bool)
  | software (m : Nat)
deriving DecidableEq, Repr

/-- A packet of a queue (R221, R226): its cells in order, how many words are stored, and its standing. Its words are in
the pool memory. -/
structure Packet where
  id : Nat
  lane : Nat
  writer : Writer
  cells : List Nat := []
  words : Nat := 0
  /-- Indices of words stored with the poison tag (R230). -/
  bad : List Nat := []
  opened : Bool := true
  readable : Bool := false
  /-- The reader has ended it, at its EOP or by abandoning it (R228); it is freed when it is closed and no mark holds it. -/
  done : Bool := false
  /-- CT_CELLS in force when the packet was opened (R238). -/
  cut : Nat := 0
  /-- The queue was disabled while this packet was open (R237): closed with TRUNC at its writer's next word. -/
  offed : Bool := false
  /-- Cells lost behind a link error, withdrawn until the packet ends at the reader (R230, R376). -/
  lost : List Nat := []
  /-- Its first delivered EOP has been taken as the host's take (R247). -/
  taken : Bool := false
deriving DecidableEq, Repr

/-- The reader's place in a queue (R228): the packet, the next word, and whether its descriptor was read as OPEN. -/
structure Reader where
  id : Nat
  next : Nat
  cutThrough : Bool := false
deriving DecidableEq, Repr

/-- A rewind mark (R233): its lane, and its packet, or none while it waits for the next packet to become readable. -/
structure Mark where
  lane : Nat
  id : Option Nat
deriving DecidableEq, Repr

/-- One queue (R225 to R238): its packets in the order in which they became readable, those not yet readable last; the
reader's place; the mark; and its notice moderation (R302). -/
structure Queue where
  pkts : List Packet := []
  reader : Option Reader := none
  mark : Option Mark := none
  /-- TB at which the NOTICE that now stands was set (R302). -/
  since : Nat := 0
  /-- The notice has been released (R302). -/
  released : Bool := false
deriving DecidableEq, Repr

/-- What a software write port holds (R240): nothing, an open packet, or a packet refused at its open or truncated. -/
inductive WritePort where
  | idle
  | opened (q : Nat)
  | refused
deriving DecidableEq, Repr

/-- The parity record of a cell (R376): words delivered with a parity error, and whether a test has passed since. -/
structure CellErr where
  count : Nat := 0
  tested : Bool := false
deriving DecidableEq, Repr

/-- A burst in progress (R214). -/
structure Burst where
  queue : Nat
  lane : Nat
  rule : Nat
  /-- t_e of the firing. -/
  te : Nat
  post : Nat
  noticeQueue : Nat
  noticeLane : Nat
  pre : Nat
  counted : Nat := 0
  truncated : Bool := false
  markLost : Bool := false
deriving DecidableEq, Repr

/-- Tongs beside its registers and the pool's words (R219, R230, R376). -/
structure Tongs where
  queues : List (Nat × Queue) := []
  /-- The next packet identity. -/
  nextId : Nat := 0
  /-- Cells under test (R376). -/
  withdrawn : List Nat := []
  errors : List (Nat × CellErr) := []
  ports : List (Nat × WritePort) := []
deriving DecidableEq, Repr

/-- What a filter window holds besides values: an input that was clipped, one that was poisoned, an entry of the
phase-delay line from before admission (R133), and one that was lost (R122). -/
structure WinFlags where
  clip : Bool := false
  poison : Bool := false
  early : Bool := false
  gap : Bool := false
deriving DecidableEq, Repr

/-- One input of a channel: a bit as +1 or −1 with the number of its edge, a multi-bit sample with its stamp in 2^−32 ticks, or 0 for an
empty entry of the phase-delay line. -/
structure Item where
  x : Int
  edge : Int := 0
  stamp : Nat := 0
  flags : WinFlags := {}
deriving DecidableEq, Repr

/-- One filter run of a channel (R107 to R111): integrators y_1 to y_N, combs d_1 to d_N, the FIR delay line newest first,
the decimation counters and what R130 and R133 need. -/
structure Filter where
  y : List Int := [0, 0, 0, 0, 0]
  d : List Int := [0, 0, 0, 0, 0]
  fir : List (Int × WinFlags) := []
  /-- The number of the last input that carried each flag, from 1; 0 for none. -/
  clipAt : Nat := 0
  poisonAt : Nat := 0
  earlyAt : Nat := 0
  gapAt : Nat := 0
  /-- Inputs since the last decimation point, and CIC outputs since the last FIR output. -/
  nIn : Nat := 0
  nZ : Nat := 0
  /-- Outputs still to carry SETTLING (R133). -/
  settle : Nat := 0
  /-- Inputs taken since the SYNC, the stamp of the first of them, of the last, and of the last input of the previous output
  (R130). -/
  count : Nat := 0
  first : Nat := 0
  last : Nat := 0
  prev : Option Nat := none
deriving DecidableEq, Repr

/-- An output ready for delivery: v of R114 after the correction, its stamp and its flags byte. -/
structure Output where
  v : Int
  stamp : Int
  flags : Nat
  /-- Carries SETTLING; the first after a SYNC; an output of a fade. -/
  settling : Bool := false
  fresh : Bool := false
  inFade : Bool := false
deriving DecidableEq, Repr

/-- An open batch (R115, R224): the settings in force, the base stamp, 256 × period, the flags, the number of samples, the
bytes not yet stored, and the first output of a multi-bit batch while its period is not yet known. -/
structure Batch where
  queue : Nat
  lane : Nat
  size : Nat
  format : Nat
  base : Nat
  p256 : Nat
  flags : Nat
  count : Nat := 0
  bytes : List Nat := []
  /-- Whether its outputs are outputs of a fade, and the filter run they belong to (R140). -/
  inFade : Bool := false
  run : Nat := 0
  held : Option (Nat × Nat) := none
deriving DecidableEq, Repr

/-- A cross-fade (R135): the bank faded in, L, the outputs delivered so far, and the new bank's normalisation. -/
structure Fade where
  bank : Nat
  len : Nat
  done : Nat := 0
  normE : Nat
  normM : Nat
deriving DecidableEq, Repr

/-- A retune in progress (R137, R138). -/
structure Retune where
  flt : Filter
  /-- The same filter on the spare modulator, while a recalibration runs (R83). -/
  sflt : Option Filter := none
  normE : Nat
  normM : Nat
  /-- The new filter has taken its first input, at this edge. -/
  startEdge : Option Int := none
  /-- The old filter has stopped. -/
  oldStopped : Bool := false
  /-- Outputs of the new filter so far. -/
  count : Nat := 0
  /-- K_new. -/
  settle : Nat
  /-- S_1 once it is known. -/
  s1 : Option Int := none
  /-- Outputs of the new filter held for delivery, oldest first. -/
  held : List Output := []
  /-- Entries reserved, and whether the handover runs with a hold. -/
  hold : Nat
  withHold : Bool
  /-- Inputs of the standby's source since the acceptance, newest first, where it is another source than the channel's; its next bit is one of
  an overload; its reference was not available at the last bit. -/
  line : List Item := []
  clipBit : Bool := false
  gone : Bool := false
deriving DecidableEq, Repr

/-- A sample in a channel's 4-entry input FIFO (R122). -/
structure InSample where
  value : Int
  stamp : Nat
  flags : WinFlags
  /-- TB by which its step is complete. -/
  deadline : Nat
  /-- The source it came from: type and number. -/
  src : Nat × Nat
deriving DecidableEq, Repr

/-- A channel beside its descriptor (R105 to R141). -/
structure Chan where
  /-- The channel is in WAIT_SYNC, RUNNING, STOPPING, SHED or WATCH_STOPPED. -/
  live : Bool := false
  /-- Admission has started and not ended (R117). -/
  admitting : Bool := false
  /-- EN = 1 was written while the channel is STOPPING (R117). -/
  heldEnable : Bool := false
  flt : Filter := {}
  /-- The source's inputs since the last admission, newest first, of which the phase delay needs the last 4,095; and those
  of a spare modulator (R132). -/
  line : List Item := []
  lineLen : Nat := 0
  spareLine : List Item := []
  /-- The number of the present filter run, which each fade also advances, and no output of it has been delivered yet (R140, R194). -/
  run : Nat := 0
  fresh : Bool := false
  /-- The number of the next edge of the channel's MOD tap, counted from the divider release (R126). -/
  edge : Int := 0
  /-- A multi-bit channel that was synchronised takes its first sample at or after this instant (R132). -/
  startAt : Option Nat := none
  fifo : List InSample := []
  /-- Deadline of the last sample, and TB at its arrival (R121, R122). -/
  deadline : Nat := 0
  arrival : Option Nat := none
  seq : Nat := 0
  batch : Option Batch := none
  fade : Option Fade := none
  queued : Option (Nat × Nat) := none
  retune : Option Retune := none
  /-- The shadow filter of a recalibration (R79). -/
  shadow : Option Filter := none
  /-- Flags for the next output only: GAP and SEAM. -/
  gapNext : Bool := false
  seamNext : Bool := false
  /-- Words 0 to 7 of an admitted write that waits for the next output boundary (R118). -/
  restart : Option (List Nat) := none
  /-- Outputs from the next on whose windows include a lost block (R122). -/
  gapRun : Nat := 0
  /-- The next bit is one of an overload (R67). -/
  clipBit : Bool := false
  /-- The reference of the input was not available at the last bit (R69). -/
  gone : Bool := false
  /-- The block boundary at which the primary's filter restarts from zero, and the one at which the shadow starts (R80). -/
  clearAt : Option Int := none
  shadowAt : Option Int := none
  /-- A run of a stuck stream (R76): its first edge, its level, and the edge at which the level changed. -/
  stuck : Option (Int × Bool × Option Int) := none
  /-- The edge at which that run reached its length. -/
  stuckAt : Int := 0
  /-- Outputs that must still carry GAP and SETTLING after a spare failed while it delivered (R83). -/
  gapSettle : Nat := 0
  /-- STATE before MIGRATING, and the SYNC instant that waits for the adoption (R364, R368). -/
  former : Nat := 0
  syncLater : Option Nat := none
  /-- Outputs lost in a failed slice, still to be delivered as 0 with GAP (R365). -/
  lostOut : Nat := 0
deriving DecidableEq, Repr

/-- A spare modulator's recalibration (R80 to R83). -/
structure Recal where
  /-- The channel and input served. -/
  chan : Nat := 0
  input : Nat := 0
  /-- Channel outputs counted in the present state. -/
  count : Nat := 0
  sum : Int := 0
  mZ : Int := 0
  mP : Int := 0
  /-- The shadow delivers. -/
  delivering : Bool := false
  /-- The primary overloaded in CAL_ZERO or CAL_POS, or the results fell outside R81's limits: FAIL_CAL at the end. -/
  failCal : Bool := false
  /-- RESULT that a DRAIN ends with. -/
  result : Nat := 0
  posDone : Bool := false
deriving DecidableEq, Repr

/-- One update in a Hardy lane's FIFO (R187, R188). -/
structure Update where
  slot : Nat
  chan : Nat
  v : Int
  stamp : Nat
  flags : Nat
  /-- The first output after a SYNC of the channel, and the last before it stopped (R194). -/
  sync : Bool := false
  stop : Bool := false
deriving DecidableEq, Repr

/-- A point of the continuous line of TB (R126): PLL cycles since the divider release, 20 × TB:FRAC there, and the rate in 2^−32
ticks per TB-domain cycle from there on. -/
structure Anchor where
  plc : Int := 0
  tbf20 : Int := 0
  rate : Int := 4294967296
deriving DecidableEq, Repr

/-- Active times of like periods one after the other (R102): the first scheduled rise, the width, the period, and how many there are. -/
structure Span where
  rise : Nat
  width : Nat
  period : Nat
  n : Nat := 1
deriving DecidableEq, Repr

/-- A pulse generator beside its registers (R96 to R102). -/
structure Pg where
  /-- Periods run. -/
  running : Bool := false
  /-- Nominal start instant of the present period and the timing in force for it. -/
  start : Nat := 0
  lat : Nat := 4
  period : Nat := 8
  delay : Nat := 0
  width : Nat := 0
  /-- Periods left after the present one; none without end. -/
  left : Option Nat := none
  /-- Edges not yet taken: the scheduled instant and whether the output goes active (R98). -/
  edges : List (Nat × Bool) := []
  /-- Active times scheduled by the periods before the present one, newest first (R102). -/
  past : List Span := []
  /-- The generator has been tripped or stopped since this TB; and the earlier times at which it was, newest first (R102). -/
  off : Option Nat := some 0
  offs : List (Nat × Nat) := []
  /-- The schedule places the output at the active level. -/
  active : Bool := false
  /-- TB up to which the duty sum is gathered. -/
  since : Nat := 0
  /-- Blanking runs until this TB (R92). -/
  blank : Option Nat := none
  /-- A trip occurred in the present period (R100). -/
  tripped : Bool := false
  /-- Active ticks of the present sub-window and the 63 before it, newest first, and the number of the present one (R101). -/
  duty : List Nat := []
  window : Nat := 0
deriving DecidableEq, Repr

/-- What a sub-window of a feature slot has gathered from its included updates (R193 to R198). -/
structure SubWin where
  n : Nat := 0
  s1 : Int := 0
  s2 : Nat := 0
  lo : Int := 0
  hi : Int := 0
  xUp : Nat := 0
  xDown : Nat := 0
  zUp : Nat := 0
  zFirst : Int := 0
  zLast : Int := 0
  above : Nat := 0
  tot : Int := 0
  flagged : Bool := false
deriving DecidableEq, Repr

/-- A feature slot beside its table words (R188 to R199). -/
structure Slot where
  /-- The open sub-window, with the number k of R192 (WMODE = 1) or the stamp at which it began (WMODE = 0). -/
  cur : Option (SubWin × Nat) := none
  /-- Closed sub-windows, newest first, at most NSUB. -/
  closed : List SubWin := []
  /-- Sub-windows closed since the last restart, at most 8 counted. -/
  subs : Nat := 0
  /-- An update dropped while no sub-window was open flags the next one (R193). -/
  flagNext : Bool := false
  /-- The previous included update: value and stamp. -/
  prev : Option (Int × Nat) := none
  /-- The states of machines X and Z: HIGH or LOW (R196). -/
  xHigh : Option Bool := none
  zHigh : Option Bool := none
  /-- The recorded pair of R197: s_a, x_a, s_b, x_b. -/
  pair : Option (Nat × Int × Nat × Int) := none
  /-- MEAN of the last full publication since the restart (R196). -/
  zMean : Option Int := none
  /-- The slot has published since its last restart (R206). -/
  published : Bool := false
  /-- A write of R201 restarts the slot, or the machines, at the next update. -/
  restartNext : Bool := false
  machinesNext : Bool := false
deriving DecidableEq, Repr

/-- The kind of an evaluation point (R205). -/
inductive PointKind where
  | publication | update | both
deriving DecidableEq, Repr

/-- An evaluation point in the FIFO of R209. A publication point that comes before its update carries the DIFF result and
NODATA bit of the previous included update. -/
structure Point where
  slot : Nat
  kind : PointKind
  te : Nat
  diff : Option (Nat × Bool) := none
deriving DecidableEq, Repr

/-- The hidden state of a rule (R204, R207, R208). -/
structure RuleState where
  armed : Bool := false
  ta : Nat := 0
  holdEnd : Nat := 0
  lastT : Nat := 0
  fires : Nat := 0
  holding : Bool := false
deriving DecidableEq, Repr

/-- What one firing asks of the action unit (R210): the rule, t_e, the slot of the point, term A's result, the next entry of its
chain, and how many entries of the sixteen are left. -/
structure Firing where
  rule : Nat
  te : Nat
  slot : Nat
  resultA : Nat
  next : Nat
  left : Nat := 16
  /-- Packets closed since the firing, by 4 × queue + lane: a burst's count starts at its firing (R214). -/
  closes : List (Nat × Nat) := []
deriving DecidableEq, Repr

/-- A window monitor beside its registers (R87 to R93). -/
structure Wm where
  /-- The input at the ball in nV, as last reported. -/
  level : Nat := 0
  /-- The upper, the lower comparator waits for a first evaluation (R88). -/
  dueHi : Bool := false
  dueLo : Bool := false
  /-- The filters' samples, newest first, at most nine (R89). -/
  histHi : List Bool := []
  histLo : List Bool := []
  /-- The check in progress and the comparators it checks (R93). -/
  check : Nat := 0
  checkHi : Bool := false
  checkLo : Bool := false
deriving DecidableEq, Repr

/-- What reaches a linked counter from a master or a link (R54 to R56). -/
inductive LcMsg where
  | stop | reset | resetCapture | start | clock
  /-- A capture, with the nominal instant of a compare channel or, with none, the TB of its cycle (R60). -/
  | capture (stamp : Option Nat)
deriving DecidableEq, Repr

/-- A linked counter beside its registers (R53 to R61): the prescaler's remainder, the assertions or edges its source has given since the last
TB update, what it was sent since, and how many matches and overflows of DOZE wait with their actions for the wake. -/
structure Lc where
  presc : Nat := 0
  edges : Nat := 0
  inbox : List LcMsg := []
  lateMatch : Nat := 0
  lateOver : Nat := 0
deriving DecidableEq, Repr

/-- One master's shadow in the LC page (R58): what its previous access read, as (CAP, pair), and the high word latched. -/
structure LcShadow where
  of : Option (Bool × Nat) := none
  hi : Word := 0
deriving DecidableEq, Repr

/-- One entry of a port's receive FIFO (R148), with its PARITY or FRAMING mark and the TB:FRAC of its start bit; or the end of a
sentence or frame behind its characters (R154, R155), with what it failed in. -/
inductive RxItem where
  | char (v : Nat) (bad : Bool) (cap : Nat)
  | frame (check gap : Bool)
deriving DecidableEq, Repr

/-- An automatic SPI read (R159): S, the number of its next word, the PLL cycle at which the previous frame ends, that at which the word in
flight began, and that STOP ends the read after it. -/
structure AutoRead where
  s : Nat
  k : Nat := 0
  free : Int := 0
  cur : Option Int := none
  stopping : Bool := false
deriving DecidableEq, Repr

/-- A port beside its registers (R146 to R163). -/
structure PortX where
  rx : List RxItem := []
  /-- Characters of the frame in progress that a RECV has already taken from the FIFO. -/
  acc : List RxItem := []
  /-- The characters of the sentence or frame in progress, and that it had a gap longer than T1.5. -/
  chars : List Nat := []
  gap : Bool := false
  /-- TB:FRAC at the end of the last character of a Modbus frame. -/
  last : Option Nat := none
  /-- Characters or bytes of a send, and those whose echo has not been compared. -/
  tx : List Nat := []
  echo : List Nat := []
  sending : Bool := false
  /-- The send or bus transfer has begun on the line, how long ago in PLL cycles without its holds (R142), and its number of SPI words. -/
  started : Bool := false
  run : Nat := 0
  words : Nat := 0
  /-- Until when a retried SDI-12 send is held (R175), until when DE or DIR stays active after a send (R149), and when the last command
  ended (R151), all in Clock.age. -/
  holdTo : Nat := 0
  deTo : Nat := 0
  eoc : Option Nat := none
  /-- Format registers rewritten while the port was active: address and value until the next operation starts (R163). -/
  old : List (Nat × Word) := []
  /-- Spacing and marking that go before the characters, in µs, or in bits on a UART (R151, R169). -/
  brk : Option (Nat × Nat) := none
  /-- Clock.age at the line's last activity, none where it has had none since the port took its mode. -/
  lastAct : Option Nat := none
  /-- A send ended and no RECV has been issued since (R170). -/
  awaitResp : Bool := false
  /-- The previous I2C SEND left the bus without a STOP (R168). -/
  noStop : Bool := false
  auto : Option AutoRead := none
deriving DecidableEq, Repr

/-- What a line operation has met (R171). -/
structure OpFlags where
  link : Bool := false
  busy : Bool := false
  nack : Bool := false
  overrun : Bool := false
  check : Bool := false
  frame : Bool := false
deriving DecidableEq, Repr

/-- A RECV in progress (R170). -/
structure Recv where
  ends : Nat
  term : Nat
  count : Nat
  stamp : Bool
  crc : Bool
  /-- Characters, bytes or words taken, TB:FRAC of the first, that one of them entered the buffer, that a frame was delivered or an address
  acknowledged, and that the address was not. -/
  got : Nat := 0
  first : Option Nat := none
  entered : Bool := false
  answered : Bool := false
  silent : Bool := false
  /-- The characters taken, for the SDI-12 CRC (R153). -/
  chars : List Nat := []
  /-- The PLL cycles left of its timer, if it has one; the port's response wait applies to it. -/
  left : Option Nat
  resp : Bool
  /-- Its END condition holds. -/
  met : Bool := false
deriving DecidableEq, Repr

/-- The operation that a WAITING context waits for. -/
inductive CtxOp where
  | none
  | send (stamp capt noStop : Bool)
  | brk
  /-- The PLL cycles left. -/
  | wait (left : Nat)
  | recv (r : Recv)
deriving DecidableEq, Repr

/-- A context of the protocol engine beside its registers (R164). -/
structure Ctx where
  /-- A has been visited by ADDR NEXT (R176). -/
  visited : Bool := false
  cur : Nat := 0
  rc : Nat := 0
  buf : List Nat := []
  /-- The stage: channel, value, CLIPPED. -/
  stage : List (Nat × Int × Bool) := []
  /-- STAMP as TB:FRAC, its valid bit, START_TB. -/
  stamp : Nat := 0
  stampValid : Bool := false
  startTb : Nat := 0
  op : CtxOp := .none
  flags : OpFlags := {}
  /-- Its region as of its start (R186), and that RETRY has jumped and no SEND has followed (R175). -/
  base : Nat := 0
  limit : Nat := 0
  retried : Bool := false
deriving DecidableEq, Repr

/-- A compare channel beside its registers (R49 to R52, R416): words written and not yet committed, whether its next match is LATE,
and the value that a pending advance or aligned arming will install. -/
structure CmpX where
  lo : Word := 0
  perLo : Word := 0
  phaseLo : Word := 0
  late : Bool := false
  adv : Option Nat := none
  align : Option Nat := none
deriving DecidableEq, Repr

/-- A core beside its page (R258 to R267). -/
structure Core where
  /-- w0 to w15. -/
  w : Vector Word 16 := Vector.replicate 16 0
  pc : Word := 0
  status : Word := 1
  epc : Word := 0
  estatus : Word := 0
  ecause : Word := 0
  eaddr : Word := 0
  vbase : Word := 0
  scratch : Word := 0
  /-- CYCLE, as of its last read: the cycles since then are open (DESIGN CHOICE, log entry 29). -/
  cycle : Nat := 0
  /-- CYCLE_HI as latched by a read of CYCLE_LO, for the next read of CYCLE_HI. -/
  cycleHi : Option Word := none
  /-- The exception whose vector has not been fetched yet (R264). -/
  vec : Option Nat := none
  /-- A halted core was in WAIT; the STATE of a core before it was powered off. -/
  waiting : Bool := false
  back : Nat := 0
  /-- A halt asked for while the core had no boundary to take it at (R270). -/
  haltDue : Bool := false
  /-- The watchdog (R267): ticks left at the TB given, and whether it waits for a kick after stage 2. -/
  wdLeft : Nat := 0
  wdSince : Nat := 0
  wdIdle : Bool := false
deriving DecidableEq, Repr

/-- Slice repair beside its registers (R364 to R366): the spare that adopts channels, and the slice being drained. -/
structure Repair where
  target : Option Nat := none
  drain : Option Nat := none
deriving DecidableEq, Repr

/-- Images beside their registers (R373 to R375): staged words not yet programmed, and the trial timer: ticks left at the TB given. -/
structure Image where
  staged : List Nat := []
  left : Nat := 0
  since : Nat := 0
deriving DecidableEq, Repr

/-- A frame that waits for a ring port: a forwarded one, or one of this hub (R314). -/
structure Sending where
  transit : Bool
  frame : Frame
deriving DecidableEq, Repr

/-- A ring port beside its registers (R310 to R322): the last two beacons as (period, HOPS), newest first; t1 of an unanswered
PDELAY_REQ in 2^−16 tick, how many went unanswered, and that D holds a value; the token bucket in 2^−16 bit at a Clock.age; and the
source queue it sent from last. -/
structure RingPort where
  beats : List (Nat × Nat) := []
  t1 : Option Nat := none
  unanswered : Nat := 0
  hasD : Bool := false
  tokens : Nat := 0
  since : Nat := 0
  rr : Nat := 0
  /-- When the port entered HOLD, and when it sent its last PDELAY_REQ, in Clock.age. -/
  heldAt : Nat := 0
  reqAt : Option Nat := none
  /-- The frames that wait for the port, in the order in which they came: the transit buffer, and those of this hub (R314). -/
  wait : List Sending := []
  /-- The frame in progress, and when it has left, in 1/25 of the unit of Clock.age. -/
  now : Option Frame := none
  busy : Nat := 0
deriving DecidableEq, Repr

/-- The route of a source queue (R326 to R330): the next FSEQ; the packet in progress with the route word it uses, its lane, whether a
frame of it has gone, the words read ahead with their poison tags, its last word read, its payload bytes once known, those sent,
and its TRUNC and POISON; Clock.age at which the retry timer started and the resends without advance. -/
structure RingTx where
  fseq : Nat := 0
  active : Bool := false
  route : Nat := 0
  lane : Nat := 0
  begun : Bool := false
  buf : List (Nat × Bool) := []
  ended : Bool := false
  len : Nat := 0
  sent : Nat := 0
  trunc : Bool := false
  poison : Bool := false
  timer : Nat := 0
  tries : Nat := 0
  /-- The packet that found ROUTE.EN = 0 (R326). -/
  lost : Option Nat := none
deriving DecidableEq, Repr

/-- What arrives for a destination queue (R328, R330): the source hub, the FSEQ expected next, whether a packet is open, by which port, of
TYPE 8, its payload bytes so far, Clock.age at its last frame, the port of that frame, and frames not yet acknowledged. -/
structure RingRx where
  src : Nat := 0
  next : Option Nat := none
  opened : Bool := false
  port : Nat := 0
  msg : Bool := false
  bytes : Nat := 0
  last : Nat := 0
  from' : Nat := 0
  unacked : Nat := 0
deriving DecidableEq, Repr

/-- A frame in a port's retry store (R330). -/
structure Kept where
  queue : Nat
  port : Nat
  frame : Frame
deriving DecidableEq, Repr

/-- A number that the active head has granted or heard (R315, R317): its UID, and Clock.age when it was heard last and when it was marked absent. -/
structure Member where
  uid : Nat := 0
  last : Nat := 0
  absent : Option Nat := none
deriving DecidableEq, Repr

/-- The ring beside its registers. -/
structure Ring where
  ports : List (Nat × RingPort) := []
  txs : List (Nat × RingTx) := []
  rxs : List (Nat × RingRx) := []
  retry : List Kept := []
  members : List (Nat × Member) := []
  /-- The next SEQ by type, and the last SEQ taken by source and type, of beacons by port too (R311, R312). -/
  seqs : List (Nat × Nat) := []
  seen : List (Nat × Option Nat) := []
  /-- Frames that the last ring command handed to the ports to send. -/
  out : List (Nat × Frame) := []
  misses : Nat := 0
  /-- When the last JOIN, the last HELLO and the last accepted beacon or miss were, in Clock.age; the last BEACON_SEND's and the third miss's
  millisecond of TB; and that a REFUSE made the next JOIN wait 1 s (R315 to R320). -/
  joinAt : Option Nat := none
  helloAt : Option Nat := none
  heardAt : Option Nat := none
  beaconMs : Option Nat := none
  /-- Clock.age when this hub became the active head (R318). -/
  activeAt : Nat := 0
  missMs : Option Nat := none
  refused : Bool := false
  /-- PRIO and UID of the active head followed. -/
  head : Option (Nat × Nat) := none
  within : Nat := 0
  beyond : Nat := 0
  big : Nat := 0
  /-- The servo of R322 has started. -/
  servo : Bool := false
  /-- A beacon of the other port, kept in case the time port's does not come: port, period, o, HOPS; and the last period used. -/
  other : Option (Nat × Nat × Int × Nat) := none
  used : Option Nat := none
  /-- The port by which the waiting JOIN came. -/
  joinPort : Nat := 0
deriving DecidableEq, Repr

/-- A remote operation in progress (R301): its TAG, Clock.age at its start. -/
structure Remote where
  tag : Nat
  since : Nat
deriving DecidableEq, Repr

/-- A word that the host port has taken and not delivered (R299): its queue, packet and place, the word, and what its parity check found. -/
structure Ahead where
  queue : Nat
  pkt : Nat
  at' : Nat
  word : Nat
  up : Upset
deriving DecidableEq, Repr

/-- The host port beside its registers (R290 to R306): the width in force, what the hub drove in the last transaction, PREV of
the next status byte, the minimum deasserted time of HOST_ATTN, the level of the HOST_SLEEP ball, a transaction that no reset has cut,
and the remote operation with the next TAG. -/
structure HostX where
  width : Nat := 0
  out : List Nat := []
  prev : Nat := 0
  hold : Bool := false
  /-- Clock.age at which HOST_ATTN was last deasserted (R304). -/
  holdAt : Nat := 0
  pin : Bool := false
  active : Bool := false
  remote : Option Remote := none
  tag : Nat := 0
  /-- The lookahead (R299). -/
  ahead : List Ahead := []
deriving DecidableEq, Repr

/-- Bellows' power sequencing beside PWR_STAT (R349 to R354, R403). -/
structure Pwr where
  /-- 0 nothing runs, 1 a request waits for Hearth, 2 an entry runs, 3 an exit runs. -/
  phase : Nat := 0
  target : Nat := 0
  /-- Clock.age at the request. -/
  since : Nat := 0
  /-- POWER_STATE of an entry to DOZE or OFF-KEEP, to be raised at the next wake or power-up. -/
  owed : Bool := false
  /-- The reference returned after a loss, and 577 is to be raised at the resumption (R33). -/
  refBack : Bool := false
  /-- The OFF-KEEP was entered by the thermal stage (R354). -/
  thermal : Bool := false
  /-- OFF-KEEP stands: only a COLD reset ends it. -/
  off : Bool := false
  /-- A brown-out has occurred since the last COLD reset (R403). -/
  brown : Bool := false
  /-- The hub is held in reset: RESET_N is low, or a main rail is. -/
  held : Bool := false
deriving DecidableEq, Repr

/-- The housekeeping modulator (R77): a scan runs; the decimation code and the list entry that the conversion in progress took at its
start; while stage 2 stands because results are missing, the stage before; and Clock.age when the governor started or last had a
temperature result (R356). -/
structure Hk where
  busy : Bool := false
  osr : Nat := 1
  word : Nat := 0
  stale : Option Nat := none
  tempAt : Nat := 0
deriving DecidableEq, Repr

/-- The pages that still have to restore after a COLD or WARM reset, in the order of R336, and whether the reset was a WARM one. -/
structure Boot where
  todo : List Nat := []
  warm : Bool := false
deriving DecidableEq, Repr


/-- The TAP (R269): the instruction register, what its data register last captured, and the read data and response of the last access. -/
structure Tap where
  ir : Nat := 2
  out : Nat := 0
  data : Word := 0
  resp : Nat := 0
deriving DecidableEq, Repr
/-- The whole hub. -/
structure State where
  /-- Commands that wait, first in, first out. -/
  pending : List Instr := []
  /-- The variant of the part (R1). -/
  variant : Variant := .f
  /-- The model's own counter of free values (DESIGN CHOICE, log entries 5 and 6): advanced by every draw. -/
  draws : Nat := 0
  /-- Registers and table words by direct-view address: those that differ from their value after a COLD reset. -/
  regs : List (Nat × Word) := []
  /-- Memory: boot ROM, image banks, Hearth, pool, AON SRAM and TCMs. -/
  mem : List Host.Cell := []
  /-- The unlock sequences by 8 × page + master (R23); one not listed is idle. -/
  keys : List (Nat × Key) := []
  /-- What the bus last returned to each master, by R21's number. -/
  replies : List (Nat × Reply) := []
  /-- TB and FRAC as one number of 2^−32 ticks (R34). -/
  tbf : Nat := 0
  clk : Clock := {}
  timeBase : TimeBase := {}
  /-- Shadows of the TB page by master (R37, R39). -/
  tbShadows : List (Nat × TbShadow) := []
  tongs : Tongs := {}
  bursts : List Burst := []
  /-- Source and target pairs by 5 n + t. -/
  pairs : List (Nat × Pair) := []
  sources : List (Nat × Source) := []
  targets : List (Nat × Target) := []
  bbox : BlackBox := {}
  hearth : Hearth := {}
  /-- Shadows of black-box slots by master (R383). -/
  bbShadows : List (Nat × SlotShadow) := []
  /-- HK codes of the supplies whose last HK result lies outside its operating range: the level of SUPPLY_WARN (R359). -/
  supplyBad : List Nat := []
  /-- VAON in mV, as the outside last gave it. -/
  vaon : Nat := 3300
  chans : List (Nat × Chan) := []
  recals : List (Nat × Recal) := []
  /-- Points of the continuous line of TB, newest first (R126, R140). -/
  anchors : List Anchor := []
  pgs : List (Nat × Pg) := []
  /-- The two lane FIFOs of Hardy (R188). -/
  lane0 : List Update := []
  lane1 : List Update := []
  slots : List (Nat × Slot) := []
  /-- The point FIFO (R209), the rules' hidden state, and the action FIFO (R210). -/
  points : List Point := []
  rules : List (Nat × RuleState) := []
  firings : List Firing := []
  wms : List (Nat × Wm) := []
  lcs : List (Nat × Lc) := []
  lcShadows : List (Nat × LcShadow) := []
  ports : List (Nat × PortX) := []
  /-- The SDI-12 charge pump is ready (R152). -/
  pumpOk : Bool := false
  ctxs : List (Nat × Ctx) := []
  /-- References 1 (REFIN) to 5 (VEXC3) whose voltage at the ball is too low (R69). -/
  badRefs : List Nat := []
  hk : Hk := {}
  pwr : Pwr := {}
  cmps : List (Nat × CmpX) := []
  cores : List (Nat × Core) := []
  /-- Cores that a write of DBG.STEP has still to step, and whether EVENT may be taken (R270). -/
  steps : List (Nat × Bool) := []
  repair : Repair := {}
  img : Image := {}
  ring : Ring := {}
  host : HostX := {}
  boot : Boot := {}
  /-- Shadows of feature slots by master (R200). -/
  hfShadows : List (Nat × SlotShadow) := []
  tap : Tap := {}
--FIELDS
deriving DecidableEq, Repr

/-- Reasons a step can stop with a fault. The manual names none: an access that breaks a rule ends with a response (R26), a
failing block sets its flags, and no command ends the hub. -/
inductive Fault where
deriving DecidableEq, Repr

/-- Reasons a command has no meaning. -/
inductive Refusal where
  /-- Raised by an arm of exec whose command is not modelled yet; safe, since the step stops. -/
  | notModelled (mnemonic : String)
deriving DecidableEq, Repr

/-- Right after a COLD reset with every strap and HEAD low: every field of every page at its Reset value but for SYS.PG_STAT.READY and the
black box's write index, memories as `memInit` says but for the RESET record in the black box's first slot, every other page still to
restore in the order of R336 (R335, R384), the queue empty, TSZ-256F (DESIGN CHOICE, log entry 2). A test holds it against `coldReset`. -/
def State.reset : State :=
  { regs := [(0x40000008, 1), (0x40164040, 1)]
    mem := [(0x28000006, 2), (0x28000008, 1), (0x28000009, 1)]
    boot := { todo := [1, 88, 89, 90, 95, 2, 3, 4, 68, 64, 65, 72, 73, 74, 75, 76, 80, 8, 9, 10, 11, 12, 13, 14, 15, 16, 17, 20, 21, 32, 33, 34,
      35, 36, 37, 38, 39, 40, 41, 42, 43, 44, 45, 46, 47, 48, 49, 50, 51, 52, 53, 54, 55, 24, 25, 26, 28, 56, 57, 60, 61, 27, 81, 82, 83] } }

end Sys2Proof.Machine
end

