-- ==== Sys2Proof/Machine/Ops.lean ====
section
/-!
DEFINITION. Sys2Proof/Machine/Ops.lean: the named operations over the state that every block uses: sparse maps in one
canonical form, registers and their fields, memory bytes and words, the time base's reading, the commit of a command's
effect, and the page header.
-/
namespace Sys2Proof.Machine

/-! ### Sparse maps: a list of (key, value) pairs, keys strictly rising, no value equal to the key's default -/

/-- The value at key `k`; `d` gives what an unlisted key holds. -/
def SMap.get {α : Type} (d : Nat → α) : List (Nat × α) → Nat → α
  | [], k => d k
  | (j, v) :: r, k => if k = j then v else SMap.get d r k

/-- Remove key `k`. -/
def SMap.erase {α : Type} (m : List (Nat × α)) (k : Nat) : List (Nat × α) := m.filter (fun c => c.1 != k)

/-- Insert or replace key `k`. -/
def SMap.insert {α : Type} : List (Nat × α) → Nat → α → List (Nat × α)
  | [], k, v => [(k, v)]
  | (j, u) :: r, k, v =>
    if k = j then (k, v) :: r else if k < j then (k, v) :: (j, u) :: r else (j, u) :: SMap.insert r k v

/-- Write `v` at `k`; a value equal to the default leaves the key unlisted. -/
def SMap.put {α : Type} [DecidableEq α] (d : Nat → α) (m : List (Nat × α)) (k : Nat) (v : α) : List (Nat × α) :=
  if v = d k then SMap.erase m k else SMap.insert m k v

/-- The canonical form: every key above `b`, keys strictly rising, no entry equal to its default. -/
def SMap.wfFrom {α : Type} [DecidableEq α] (d : Nat → α) : Option Nat → List (Nat × α) → Bool
  | _, [] => true
  | none, (j, v) :: r => !decide (v = d j) && SMap.wfFrom d (some j) r
  | some b, (j, v) :: r => decide (b < j) && !decide (v = d j) && SMap.wfFrom d (some j) r

/-- The canonical form of a sparse map. -/
def SMap.wf {α : Type} [DecidableEq α] (d : Nat → α) (m : List (Nat × α)) : Bool := SMap.wfFrom d none m

/-! ### Reset values (the Reset column of every register table) -/

/-- The row of a list that offset `o` falls in, with the bank index. -/
def findRow : List Row → Nat → Option (Row × Nat)
  | [], _ => none
  | r :: rs, o =>
    if r.off ≤ o ∧ (o - r.off) % r.stride = 0 ∧ (o - r.off) / r.stride < r.cnt then some (r, (o - r.off) / r.stride)
    else findRow rs o

/-- The reset word of a list of fields. -/
def rowReset (fs : List FRow) : Nat := fs.foldl (fun n f => n + f.rst * 2 ^ f.lo) 0

/-- The page number of an address of the register pages. -/
def pageOf (a : Nat) : Nat := (a - 0x40000000) / 0x4000

/-- The page number of an address of the table space. -/
def tablePageOf (a : Nat) : Nat := (a - 0x50000000) / 0x100000

/-- Whether an address lies in the register pages (R16). -/
def inPages (a : Nat) : Bool := decide (0x40000000 ≤ a ∧ a ≤ 0x4017FFFF)

/-- Whether an address lies in the table space (R16). -/
def inTables (a : Nat) : Bool := decide (0x50000000 ≤ a ∧ a ≤ 0x55FFFFFF)

/-- The row that defines the word at a direct-view address at or above offset 0x040 of a page, or in table space. -/
def rowAt (a : Nat) : Option (Row × Nat) :=
  if inPages a then findRow (pageRows (pageOf a)) ((a - 0x40000000) % 0x4000)
  else if inTables a then findRow (tableRows (tablePageOf a)) ((a - 0x50000000) % 0x100000)
  else none

/-- Reset values that depend on the instance: HK_ENTRYj.CODE = j for j ≤ 2 (spec/05), RQ_CFG.BASE = 31 − t (spec/14),
CORE0's CTRL.RUN = 1 (spec/15) and ANV_S's SL_STAT.ROLE = 1 (spec/21). -/
def specialReset (a : Nat) : Nat :=
  if a = 0x40040084 then 1 else if a = 0x40040088 then 2
  else if a = 0x40110100 then 31 * 2 ^ 11 else if a = 0x40110120 then 30 * 2 ^ 11
  else if a = 0x40110140 then 29 * 2 ^ 11 else if a = 0x40110160 then 28 * 2 ^ 11
  else if a = 0x40120040 then 1 else if a = 0x40068048 then 1 else 0

/-- What a register or table word holds after a COLD reset, before any restore. PG_CTRL.ENABLE is 1 in every page. -/
def regReset (a : Nat) : Word :=
  if inPages a && decide ((a - 0x40000000) % 0x1000 < 0x40) then
    (if (a - 0x40000000) % 0x4000 = 0xC then 1 else 0)
  else match rowAt a with
    | some (r, _) => w32 (rowReset r.flds + specialReset a)
    | none => 0

/-! ### Registers -/

/-- The stored word at a direct-view address. -/
def State.word (s : State) (a : Nat) : Word := SMap.get regReset s.regs a

/-- Store a word at a direct-view address. -/
def State.setWord (s : State) (a : Nat) (v : Word) : State := { s with regs := SMap.put regReset s.regs a v }

/-- A field, as a natural number. -/
def State.get (s : State) (f : Fld) : Nat := bits (s.word f.addr).toNat f.lo f.w

/-- A one-bit field. -/
def State.on (s : State) (f : Fld) : Bool := s.get f != 0

/-- A signed field. -/
def State.getS (s : State) (f : Fld) : Int := sx f.w (s.get f)

/-- Store the low bits of `v` in a field; every other bit of its word stays. -/
def State.set (s : State) (f : Fld) (v : Nat) : State :=
  s.setWord f.addr (w32 (putBits (s.word f.addr).toNat f.lo f.w v))

/-- Set a one-bit field to 1. -/
def State.raise (s : State) (f : Fld) : State := s.set f 1

/-- Set a one-bit field to 0. -/
def State.clear (s : State) (f : Fld) : State := s.set f 0

/-- Store a signed value in a field. -/
def State.setS (s : State) (f : Fld) (i : Int) : State := s.set f (ux f.w i)

/-- Add `k` to a field, saturating at its greatest value. -/
def State.addSat (s : State) (f : Fld) (k : Nat) : State := s.set f (satU f.w (s.get f + k))

/-- Count one in a field, saturating. -/
def State.inc (s : State) (f : Fld) : State := s.addSat f 1

/-- A millisecond in the unit of Clock.age, 2,621.44 PLL cycles to the microsecond. -/
def msAge : Nat := 2621440

/-- At least `us` microseconds have passed since `a`. -/
def passedUs (s : State) (a us : Nat) : Bool := decide (us * msAge ≤ (s.clk.age - a) * 1000)

/-- Count one in a field, wrapping. -/
def State.incWrap (s : State) (f : Fld) : State := s.set f (s.get f + 1)

/-- Apply `f` when `b` holds. -/
def State.when (s : State) (b : Bool) (f : State → State) : State := if b then f s else s

/-- The next draw of the state's counter of free values. -/
def State.draw (s : State) : Nat × State := (Config.freeValue s.draws, { s with draws := s.draws + 1 })

/-! ### Memory -/

/-- Where a Hearth segment header stands: segments 0 to 55 of 4 KiB (R341). -/
def hearthSegWord (a : Nat) : Nat × Nat := ((a - 0x11000000) / 0x1000, (a - 0x11000000) % 0x1000 / 4)

/-- What a byte that nothing has written reads as. The boot ROM holds the part's ROM; an erased Hearth word and an erased
image bank read 0xFFFF_FFFF (spec/19, spec/21), a journal segment keeping its header mark 0xA5C3 and an erase count of 0;
every other memory reads 0. Log entries 4 and 7. -/
def memInit (a : Nat) : Byte :=
  if a < 0x8000 then Config.bootRom a
  else if 0x10000000 ≤ a ∧ a < 0x10100000 then 0xFF
  else if 0x11000000 ≤ a ∧ a < 0x11038000 then
    match (hearthSegWord a).2, a % 4 with
    | 0, 2 => 0xC3
    | 0, 3 => 0xA5
    | 1, _ => 0
    | _, _ => 0xFF
  else if 0x11038000 ≤ a ∧ a < 0x11040000 then 0xFF
  else 0

/-- The canonical form of memory: addresses strictly rising, no byte equal to what an unlisted address reads as. -/
def Memory.wf (m : List Host.Cell) : Bool := SMap.wf memInit m

/-- One byte of memory. -/
def State.byte (s : State) (a : Nat) : Byte := SMap.get memInit s.mem a

/-- Store one byte of memory. -/
def State.setByte (s : State) (a : Nat) (v : Byte) : State := { s with mem := SMap.put memInit s.mem a v }

/-- The `n` bytes from `a` up, lowest address least significant. -/
def State.load (s : State) (a : Nat) : Nat → Nat
  | 0 => 0
  | n + 1 => (s.byte a).toNat + 256 * s.load (a + 1) n

/-- Store the low `n` bytes of `v` from `a` up, least significant first. -/
def State.store (s : State) (a : Nat) : Nat → Nat → State
  | 0, _ => s
  | n + 1, v => (s.setByte a (b8 (v % 256))).store (a + 1) n (v / 256)

/-- A word of memory. -/
def State.memWord (s : State) (a : Nat) : Nat := s.load a 4

/-- Store a word of memory. -/
def State.setMemWord (s : State) (a v : Nat) : State := s.store a 4 v

/-- Make `n` bytes from `a` up hold what nothing has written reads as (a cleared memory). -/
def State.clearMem (s : State) (lo hi : Nat) : State :=
  { s with mem := s.mem.filter (fun c => !(decide (lo ≤ c.1) && decide (c.1 < hi))) }

/-! ### The time base, read -/

/-- TB in ticks. -/
def State.tb (s : State) : Nat := s.tbf / 2 ^ 32 % 2 ^ 64

/-- FRAC. -/
def State.frac (s : State) : Nat := s.tbf % 2 ^ 32

/-- TRIM as a signed number of 2^−32 ticks per tick (R35). -/
def State.trim (s : State) : Int := s.getS TB_TRIM_TRIM

/-- CLK_STAT.CLKSRC: 0 PLL, 1 reference, 2 coast, 3 held. -/
def State.clksrc (s : State) : Nat := s.get BELLOWS_CLK_STAT_CLKSRC

/-- The BUS clock is stopped: in DOZE and after a loss of reference (R252). -/
def State.busStopped (s : State) : Bool := decide (2 ≤ s.clksrc)

/-! ### Pages (R2, R18, R22) -/

/-- A page number the table of R18 lists. -/
def pageListed (p : Nat) : Bool := !(pageRows p).isEmpty

/-- The unit of a listed page is present in the variant (R1, R2). -/
def pagePresent (v : Variant) (p : Nat) : Bool :=
  pageListed p &&
  match v with
  | .f => true
  | .s => !(decide (0x0C ≤ p ∧ p ≤ 0x0F) || decide (p = 0x1A) || decide (0x30 ≤ p ∧ p ≤ 0x37))
  | .l => !(decide (0x0A ≤ p ∧ p ≤ 0x0F) || decide (p = 0x1A) || decide (0x28 ≤ p ∧ p ≤ 0x37)
      || decide (p = 0x3C) || decide (p = 0x3D) || decide (p = 0x4A) || decide (p = 0x4B)
      || decide (0x51 ≤ p ∧ p ≤ 0x53))

/-- PG_STAT.READY of a page. -/
def State.ready (s : State) (p : Nat) : Bool := s.on (PG_STAT_READY p)

/-- PG_CTRL.ENABLE of a page. -/
def State.enabled (s : State) (p : Nat) : Bool := s.on (PG_CTRL_ENABLE p)


/-- Set bit `b` of a page's PG_FAULT. -/
def State.fault (s : State) (p b : Nat) : State := s.raise (PG_FAULT_bit p b)

/-- PG_STAT.FAULT of a page: OR over PG_FAULT AND PG_FAULT_EN (spec/02, PG_STAT). -/
def State.pageFault (s : State) (p : Nat) : Bool := (s.get (PG_FAULT_ALL p) &&& s.get (PG_FAULT_EN_ALL p)) != 0

/-- HAS_KEPT = 0: SYS and HEARTH (R417). -/
def hasKept (p : Nat) : Bool := !(decide (p = 0x00) || decide (p = 0x58))

/-! ### How many instances a variant has (R1) -/

def nInputs : Variant → Nat | .f => 64 | .s => 32 | .l => 16
def nSpares : Variant → Nat | .f => 4 | .s => 2 | .l => 0
def nPdmPins : Variant → Nat | .f => 16 | .s => 16 | .l => 8
def nPorts : Variant → Nat | .f => 24 | .s => 16 | .l => 8
def nCores : Variant → Nat | .f => 4 | .s => 4 | .l => 2
def nMonitors : Variant → Nat | .f => 16 | .s => 8 | .l => 4
def nChannels : Variant → Nat | .f => 256 | .s => 256 | .l => 128
def hasHardy : Variant → Bool | .f => true | .s => true | .l => false
def hasRing : Variant → Bool | .f => true | .s => true | .l => false
def hasSpareSlice : Variant → Bool | .f => true | .s => false | .l => false

/-- A core is halted by the debugger (R62). -/
def coreHalted (s : State) : Bool := (List.range (nCores s.variant)).any (fun c => s.get (CORE_STAT_STATE c) == 3)

/-- A present page that is READY and enabled. -/
def State.isUp (s : State) (p : Nat) : Bool := pagePresent s.variant p && s.ready p && s.enabled p

/-- A page's HALT_FREEZE holds it while a core is halted. -/
def State.frozen (s : State) (p : Nat) : Bool := s.on (PG_CTRL_HALT_FREEZE p) && coreHalted s

/-- A present page that is READY and enabled, and not frozen by a debug halt: its block runs. -/
def State.runs (s : State) (p : Nat) : Bool := s.isUp p && !s.frozen p

/-! ### What a meaning answers -/

/-- The outcome type of a meaning. -/
abbrev Out := Host.Outcome State Fault Refusal

/-- A command's effect `t` on everything but the queue and the part itself: the queue of waiting commands and the variant
stay what they were in `s`. -/
def done (s t : State) : Out := .next { t with pending := s.pending, variant := s.variant }

end Sys2Proof.Machine
end

