-- ==== Sys2Proof/Machine/Sources.lean ====
section
/-!
DEFINITION. Sys2Proof/Machine/Sources.lean: the 640 event sources seen from their blocks (spec/14_event_controller.md,
R241, R242, R252): which are pulses, the present level of each level source, and the shared operations by which a block
raises a pulse and by which the controller samples a level.
-/
namespace Sys2Proof.Machine

/-- Word 0 of source `n` lies at a fixed place of the EVC table: whether an address is one, and which source it is. -/
def srcOfAddr (a : Nat) : Option Nat :=
  if tableBase 0x44 ≤ a ∧ a < tableBase 0x44 + 640 * 0x10 ∧ a % 0x10 = 0 then some ((a - tableBase 0x44) / 0x10) else none

/-- The sources that never assert (R241, R255, R334, R381, R392 and the chapters' tables). -/
def neverAsserts (n : Nat) : Bool :=
  decide (n = 182) || decide (n = 183) || (decide (253 ≤ n) && decide (n ≤ 255)) || decide (n = 526) || decide (n = 527)
  || (decide (535 ≤ n) && decide (n ≤ 543)) || (decide (548 ≤ n) && decide (n ≤ 551))
  || (decide (571 ≤ n) && decide (n ≤ 575)) || (decide (586 ≤ n) && decide (n ≤ 591))
  || decide (n = 622) || decide (n = 623) || decide (640 ≤ n)

/-- Whether the unit or instance a source belongs to is present (R4). -/
def sourcePresent (v : Variant) (n : Nat) : Bool :=
  !neverAsserts n &&
  (if 80 ≤ n ∧ n < 96 then decide (n - 80 < nMonitors v)
   else if 96 ≤ n ∧ n < 112 then decide (n - 96 < nMonitors v)
   else if 112 ≤ n ∧ n < 176 then decide (n - 112 < nInputs v)
   else if 176 ≤ n ∧ n < 180 then decide (n - 176 < nSpares v)
   else if 184 ≤ n ∧ n < 200 then decide (n - 184 < nPdmPins v)
   else if 200 ≤ n ∧ n < 224 then decide (n - 200 < nPorts v)
   else if 224 ≤ n ∧ n < 248 then decide (n - 224 < nPorts v)
   else if 256 ≤ n ∧ n < 384 then hasHardy v
   else if 528 ≤ n ∧ n < 532 then decide (n - 528 < nCores v)
   else if n = 523 then hasSpareSlice v
   else if n = 545 then hasRing v
   else if 552 ≤ n ∧ n < 560 then hasRing v
   else if 592 ≤ n ∧ n < 596 then decide (n - 592 < nCores v)
   else if 596 ≤ n ∧ n < 600 then decide (n - 596 < nCores v)
   else if 600 ≤ n ∧ n < 608 then decide ((n - 600) / 2 < nCores v)
   else if 617 ≤ n ∧ n < 622 then hasRing v
   else true)

/-- KIND: the pulse sources (R241, R47, R124, R255, R268, R305, R334, R381, R392; spec/19, spec/20). -/
def isPulse (n : Nat) : Bool :=
  !neverAsserts n &&
  (decide (n < 80) || (decide (112 ≤ n) && decide (n ≤ 180)) || (decide (184 ≤ n) && decide (n ≤ 199))
   || (decide (512 ≤ n) && decide (n ≤ 525) && decide (n ≠ 523)) || decide (n = 533)
   || decide (n = 544) || decide (n = 545) || decide (n = 552) || decide (n = 554) || (decide (556 ≤ n) && decide (n ≤ 567))
   || decide (n = 569) || (decide (576 ≤ n) && decide (n ≤ 580)) || decide (n = 585)
   || (decide (592 ≤ n) && decide (n ≤ 599)) || (decide (608 ≤ n) && decide (n ≤ 621)))

/-! ### Levels -/

/-- A queue's entry is noticing (R235); the NOTICE of a queue whose OWNER is HOST counts once it is released (R302). -/
def noticing (s : State) (q : Nat) : Bool :=
  (s.on (TONGSQ_Q5_NOTICE q) && (s.get (TONGSQ_Q0_OWNER q) != 4 || (SMap.get (fun _ => {}) s.tongs.queues q : Queue).released)) || s.on (TONGSQ_Q5_HIGH_HIT q) || s.on (TONGSQ_Q5_LOW_HIT q)
  || (s.on (TONGSQ_Q0_ERR_NOTICE q) &&
      (s.on (TONGSQ_Q5_OVERRUN q) || s.on (TONGSQ_Q5_MARK_LOST q) || s.on (TONGSQ_Q5_PARITY q)))

/-- The queue whose word 5 stands at an address. -/
def queueOfWord5 (a : Nat) : Option Nat :=
  if tableBase 0x41 ≤ a ∧ a < tableBase 0x41 + 512 * 0x40 ∧ a % 0x40 = 0x14 then some ((a - tableBase 0x41) / 0x40)
  else none

/-- Notice line `n` is high (R235): only queues whose word 5 is not 0 can be noticing. -/
def noticeLine (s : State) (n : Nat) : Bool :=
  s.regs.any (fun c => match queueOfWord5 c.1 with
    | some q => s.get (TONGSQ_Q0_NLINE q) == n && noticing s q
    | none => false)
  || (n == 127 && s.pageFault 0x40)

/-- Any context of the sequencer is HALTED (R184). -/
def anyHalted (s : State) : Bool := (List.range 24).any (fun n => s.get (SEQ_CTX_STAT_STATE n) == 3)

/-- An enabled port of the ring is wrapped: the level of source 555 (R324). -/
def ringWrapped (s : State) : Bool :=
  (List.range 2).any (fun p => s.on (RINGP_PORT_CFG_EN p) && s.on (RINGP_PORT_STAT_WRAPPED p))

/-- The present level of a level source, as its block's chapter states it; false for a pulse source. -/
def sourceLevel (s : State) (n : Nat) : Bool :=
  sourcePresent s.variant n && !isPulse n &&
  (if n < 80 then false
   else if n < 96 then (s.get ⟨(WM_EVT_LO_FALL (n - 80)).addr, 0, 5⟩ &&& s.get ⟨(WM_EVT_EN_LO_FALL (n - 80)).addr, 0, 5⟩) != 0
   else if n < 112 then (s.get ⟨(PG_STAT_TRIP_EVT (n - 96)).addr, 1, 3⟩ &&& s.get (PG_EVT_EN_EN (n - 96))) != 0
   else if n = 181 then (s.get ⟨pageBase 0x10 + 0x10, 0, 16⟩ &&& s.get ⟨pageBase 0x10 + 0x14, 0, 16⟩) != 0
   else if n < 200 then false
   else if n < 224 then (s.get ⟨(PORT_ERR_NOISE (n - 200)).addr, 0, 20⟩ &&& s.get (PORT_ERR_EN_EN (n - 200))) != 0
   else if n < 248 then (s.get ⟨(SEQ_CTX_EVT_DONE (n - 224)).addr, 1, 4⟩ &&& s.get (SEQ_CTX_EVT_EN_EN (n - 224))) != 0
   else if n < 251 then s.on ⟨ATT_EVT_JOIN.addr, n - 248, 1⟩ && s.on ⟨ATT_EVT_EN_EN.addr, n - 248, 1⟩
   else if n = 251 then anyHalted s
   else if n = 252 then s.on ATT_EVT_PKT_LOST && s.on ⟨ATT_EVT_EN_EN.addr, 3, 1⟩
   else if n < 256 then false
   else if n < 384 then bit (s.get (HARDYK_LINES_HL ((n - 256) / 32))) ((n - 256) % 32)
   else if n < 512 then noticeLine s (n - 384)
   else if n = 523 then hasSpareSlice s.variant && !(List.range 3).any (fun x => s.get (ANV_SL_STAT_ROLE x) == 1)
   else if n < 528 then false
   else if n < 533 then s.on (EVC_STACK_FROZEN (n - 528))
   else if n = 534 then s.on EVC_HOST_RQ_STALL
   else if n = 546 then s.on HOST_STAT_WAKE_REQ
   else if n = 547 then (if s.busStopped then s.host.pin != s.on HOST_CFG_SLEEP_POL else s.on HOST_STAT_SLEEP)
   else if n = 553 then s.on RING_JOIN_Q_VALID
   else if n = 555 then ringWrapped s
   else if n = 568 then s.on BBOX_STAT_FROZEN
   else if n = 570 then s.get BBOX_STAT_COPY == 2
   else if n = 581 then decide (1 ≤ s.get THERM_STAT_STAGE)
   else if n = 582 then decide (2 ≤ s.get THERM_STAT_STAGE)
   else if n = 583 then decide (3 ≤ s.get THERM_STAT_STAGE)
   else if n = 584 then !s.supplyBad.isEmpty
   else if 600 ≤ n ∧ n < 608 then s.on ⟨(CORE_DBELL_BELL ((n - 600) / 2)).addr, (n - 600) % 2, 1⟩
   else if 624 ≤ n ∧ n < 640 then bit (s.get EVC_SWI_LEVEL) (n - 624)
   else false)

/-! ### From assertion to PEND (R242) -/

/-- The record of a pair. -/
def State.pair (s : State) (n t : Nat) : Pair := SMap.get (fun _ => {}) s.pairs (n * 5 + t)

/-- Store the record of a pair. -/
def State.setPair (s : State) (n t : Nat) (p : Pair) : State :=
  { s with pairs := SMap.put (fun _ => {}) s.pairs (n * 5 + t) p }

/-- The hidden record of a source. -/
def State.source (s : State) (n : Nat) : Source := SMap.get (fun _ => {}) s.sources n

/-- Store the hidden record of a source. -/
def State.setSource (s : State) (n : Nat) (x : Source) : State :=
  { s with sources := SMap.put (fun _ => {}) s.sources n x }

/-- PEND of source `n` for target `t`. -/
def pendBit (n t : Nat) : Fld := ⟨(EVC_SRC1_PEND n).addr, 10 + t, 1⟩
/-- OUT of source `n` for target `t`. -/
def outBit (n t : Nat) : Fld := ⟨(EVC_SRC1_OUT n).addr, 5 + t, 1⟩

/-- Whether target `t` is in the source's mask and present in the variant (R3: C2 and C3 are absent on TSZ-256L). -/
def targeted (s : State) (n t : Nat) : Bool :=
  bit (s.get (EVC_SRC0_TGT n)) t && (t == 4 || decide (t < nCores s.variant))

/-- SENSE of a source: 5 to 7 act as 0, and a pulse source acts as RISING (R241). -/
def senseOf (s : State) (n : Nat) : Nat :=
  if isPulse n then 2 else let v := s.get (EVC_SRC0_SENSE n); if 5 ≤ v then 0 else v

/-- A level sense: LEVEL_HIGH or LEVEL_LOW. -/
def levelSensed (s : State) (n : Nat) : Bool := decide (senseOf s n < 2)

/-- A level-sensed source is asserted in this cycle. -/
def assertedNow (s : State) (n : Nat) : Bool :=
  levelSensed s n && sourcePresent s.variant n && (if senseOf s n = 0 then sourceLevel s n else !sourceLevel s n)

/-- The source can pend: the controller is READY, the source is enabled (LVL ≠ 0) and not MASKED (R251). -/
def canPend (s : State) (n : Nat) : Bool := s.ready 0x44 && s.get (EVC_SRC0_LVL n) != 0 && !s.on (EVC_SRC1_MASKED n)

/-- One edge assertion at one target (R242). -/
def pendEdge (n t : Nat) (s : State) : State :=
  if !targeted s n t then s
  else if s.on (pendBit n t) then
    let p := s.pair n t
    if p.coal < 255 then s.setPair n t { p with coal := p.coal + 1 } else s.setPair n t { p with lost := true }
  else (s.raise (pendBit n t)).setPair n t { s.pair n t with coal := 0, lost := false, time := s.tb, waked := false }

/-- An edge assertion of a source: every target of TGT (R242). A masked or disabled source never pends. -/
def assertEdge (n : Nat) (s : State) : State :=
  if canPend s n then (List.range 5).foldl (fun s t => pendEdge n t s) s else s

/-- An assertion sets a source's wake latch: those before the next AON edge are one (R252). -/
def setLatch (n : Nat) (s : State) : State := s.setSource n { s.source n with set := true }

/-- One take of a source's wake latch at an AON edge, whose TB is the record time (R252). -/
def takeLatch (n : Nat) (s : State) : State :=
  let x := { s.source n with set := false }
  match x.latch with
  | none => s.setSource n { x with latch := some { time := s.tb } }
  | some l =>
    if l.count < 255 then s.setSource n { x with latch := some { l with count := l.count + 1 } }
    else s.setSource n { x with latch := some { l with lost := true } }

/-- An AON edge: the AON logic takes every latch that has been set. -/
def aonEdge (s : State) : State := ((s.sources.filter (fun c => c.2.set)).map (fun c => c.1)).foldl (fun u n => takeLatch n u) s

/-- The hidden record of a linked counter. -/
def State.lc (s : State) (n : Nat) : Lc := SMap.get (fun _ => {}) s.lcs n

/-- Store the hidden record of a linked counter. -/
def State.setLc (s : State) (n : Nat) (x : Lc) : State := { s with lcs := SMap.put (fun _ => {}) s.lcs n x }

/-- The linked counters whose SRC and SEL name what has just happened hear it, if their EDGE takes it; they count it at the next TB update
(R53). -/
def lcHear (src sel : Nat) (takes : Nat → Bool) (s : State) : State :=
  (List.range 16).foldl (fun t n =>
    if t.get (LC_CFG_SRC n) == src && t.get (LC_CFG_SEL n) == sel && takes (t.get (LC_CFG_EDGE n)) then
      t.setLc n { t.lc n with edges := (t.lc n).edges + 1 } else t) s

/-- Whether EDGE takes a rising, or a falling, edge: 3 acts as 0. -/
def edgeTakes (rise : Bool) (e : Nat) : Bool := if e = 1 then !rise else if e = 2 then true else rise

/-- An assertion of a source: while the BUS clock is stopped only the wake latch of a source with WAKE = 1 sees it (R252); otherwise it
reaches the linked counters that follow it, enabled or not (R53), and pends (R242). -/
def sourceAssertion (n : Nat) (s : State) : State :=
  if s.busStopped then (if s.on (EVC_SRC0_WAKE n) then setLatch n s else s) else assertEdge n (lcHear 2 n (fun _ => true) s)

/-- A block raises pulse source `n`. -/
def pulse (n : Nat) (s : State) : State := if sourcePresent s.variant n then sourceAssertion n s else s

/-- A level-sensed source's PEND at one target follows its assertion while OUT is 0 (R242). -/
def pendLevel (n t : Nat) (s : State) : State :=
  if canPend s n && assertedNow s n && targeted s n t && !s.on (outBit n t) then
    if s.on (pendBit n t) then s.setPair n t { s.pair n t with stays := false }
    else (s.raise (pendBit n t)).setPair n t { s.pair n t with coal := 0, lost := false, time := s.tb, waked := false, stays := false }
  else if s.on (pendBit n t) && !(s.pair n t).stays then s.clear (pendBit n t) else s

/-- The controller samples level source `n` (R241, R242): a level sense sets or clears PEND; an edge sense asserts at a
change of the level in its direction. A pulse source is not sampled. -/
def sample (n : Nat) (s : State) : State :=
  if isPulse n || !sourcePresent s.variant n then s
  else
    let lv := sourceLevel s n
    let old := (s.source n).level
    let s1 := s.setSource n { s.source n with level := lv }
    if levelSensed s n then
      let was := if senseOf s n = 0 then old else !old
      if s.busStopped then
        (if s.on (EVC_SRC0_WAKE n) && assertedNow s n && (!was || (s.source n).latch.isNone) then setLatch n s1 else s1)
      else
        (List.range 5).foldl (fun s t => pendLevel n t s) (if assertedNow s n && !was then lcHear 2 n (fun _ => true) s1 else s1)
    else
      let rise := lv && !old
      let fall := !lv && old
      let hit := match senseOf s n with
        | 2 => rise
        | 3 => fall
        | _ => rise || fall
      if hit then sourceAssertion n s1 else s1

/-- Set a bit of PG_FAULT of a page; notice line 127 follows PG_STAT.FAULT of TONGS (R235). -/
def pageFaulted (p b : Nat) (s : State) : State := if p = 0x40 then sample 511 (s.fault p b) else s.fault p b

/-- Sample several sources in ascending order. -/
def sampleAll (ns : List Nat) (s : State) : State := ns.foldl (fun s n => sample n s) s

/-! ### The black box ring (R382 to R387) -/

/-- Append one record of CODE and ARG (R383, R385); while FROZEN it is counted in DROPPED instead (R387). -/
def bbRecord (code arg : Nat) (s : State) : State :=
  if s.on BBOX_STAT_FROZEN then
    let s1 := if s.get BBOX_DROPPED_COUNT = 0 then s.set BBOX_DROPPED_FIRST_CODE code else s
    s1.inc BBOX_DROPPED_COUNT
  else
    let i := s.get BBOX_STAT_WR_IDX
    let a := 0x28000000 + 16 * i
    let s1 := ((s.setMemWord a (s.tb % 2 ^ 32)).setMemWord (a + 4) (code % 2 ^ 16 * 2 ^ 16 + s.tb / 2 ^ 32 % 2 ^ 16)).setMemWord
      (a + 8) (arg % 2 ^ 32) |>.setMemWord (a + 12) (arg / 2 ^ 32 % 2 ^ 32)
    let s2 := s1.set BBOX_STAT_WR_IDX (i + 1)
    if (i + 1) % 2048 = 0 then s2.raise BBOX_STAT_WRAPPED else s2

end Sys2Proof.Machine
end

