-- ==== Sys2Proof/Machine/Tongs.lean ====
section
/-!
DEFINITION. Sys2Proof/Machine/Tongs.lean: the queue manager (spec/13_tongs_queues.md, R219 to R240; R302, R303 for the
moderation of notices, R376 for cells with parity errors).
-/
namespace Sys2Proof.Machine

/-! ### Records -/

def State.queue (s : State) (q : Nat) : Queue := SMap.get (fun _ => {}) s.tongs.queues q
def State.putQueue (s : State) (q : Nat) (x : Queue) : State :=
  { s with tongs := { s.tongs with queues := SMap.put (fun _ => {}) s.tongs.queues q x } }
def State.wport (s : State) (m : Nat) : WritePort := SMap.get (fun _ => .idle) s.tongs.ports m
def State.setWport (s : State) (m : Nat) (x : WritePort) : State :=
  { s with tongs := { s.tongs with ports := SMap.put (fun _ => .idle) s.tongs.ports m x } }
def State.cellErr (s : State) (c : Nat) : CellErr := SMap.get (fun _ => {}) s.tongs.errors c
def State.setCellErr (s : State) (c : Nat) (x : CellErr) : State :=
  { s with tongs := { s.tongs with errors := SMap.put (fun _ => {}) s.tongs.errors c x } }

/-- Set a bit of PG_FAULT of TONGS. -/
def tongsFault (b : Nat) (s : State) : State := pageFaulted 0x40 b s

/-! ### Packets of a queue -/

def Queue.find (x : Queue) (id : Nat) : Option Packet := x.pkts.find? (fun p => p.id == id)
def Queue.update (x : Queue) (id : Nat) (f : Packet → Packet) : Queue :=
  { x with pkts := x.pkts.map (fun p => if p.id = id then f p else p) }
/-- The open packet of a writer: each writer has at most one (R225). -/
def Queue.openOf (x : Queue) (w : Writer) : Option Packet := x.pkts.find? (fun p => p.opened && p.writer == w)
/-- LEVEL: the cells the queue holds, open and mark-held packets included (R236). -/
def Queue.level (x : Queue) : Nat := (x.pkts.map (fun p => p.cells.length)).sum
/-- PKTS: readable packets that the reader has not ended (R239). -/
def Queue.pktCount (x : Queue) : Nat := (x.pkts.filter (fun p => p.readable && !p.done)).length
/-- Whether packet `id` stands at or after packet `m` in the queue's order. -/
def atOrAfter (m id : Nat) (ps : List Packet) : Bool := (ps.dropWhile (fun p => p.id != m)).any (fun p => p.id == id)
/-- The mark holds a packet: it stands in the mark's lane at or after the mark (R233). -/
def Queue.held (x : Queue) (p : Packet) : Bool :=
  match x.mark with
  | some ⟨l, some m⟩ => p.lane == l && atOrAfter m p.id x.pkts
  | _ => false
def Queue.reading (x : Queue) (p : Packet) : Bool :=
  match x.reader with
  | some r => r.id == p.id
  | none => false
/-- The packet a reader that needs one takes: the oldest of the highest lane that has one (R228). -/
def Queue.head (x : Queue) : Option Packet :=
  let of (l : Nat) := x.pkts.find? (fun p => p.lane == l && p.readable && !p.done)
  match of 3 with
  | some p => some p
  | none => match of 2 with
    | some p => some p
    | none => match of 1 with
      | some p => some p
      | none => of 0

/-- Words of a packet that are published (R226). -/
def Packet.published (p : Packet) : Nat := if p.opened then p.words / 16 * 16 else p.words

/-- The pool address of word `i` of a packet. -/
def Packet.addr (p : Packet) (i : Nat) : Nat := 0x20000000 + p.cells.getD (i / 16) 0 * 64 + i % 16 * 4

/-- Bits set in a stored descriptor. -/
def orWord (a v : Nat) (s : State) : State := s.setMemWord a (s.memWord a ||| v)

/-! ### The pool (R219, R376) -/

/-- Cells out of service for good: those of the RETIRE entries. -/
def retired (s : State) : List Nat :=
  (List.range 256).filterMap (fun k => if s.on (TONGS_RETIRE_VALID k) then some (s.get (TONGS_RETIRE_CELL k)) else none)
def retireCount (s : State) : Nat := (retired s).length
/-- POOL.WITHDRAWN (R219). -/
def withdrawnCount (s : State) : Nat :=
  s.tongs.withdrawn.length + (s.tongs.queues.map (fun c => (c.2.pkts.map (fun p => p.lost.length)).sum)).sum
/-- The sum of LEVEL over all queues. -/
def levelSum (s : State) : Nat := (s.tongs.queues.map (fun c => c.2.level)).sum
/-- POOL.FREE (R219). -/
def freeCount (s : State) : Nat := 32768 - withdrawnCount s - retireCount s - levelSum s
/-- Cells that are not free. -/
def busyCells (s : State) : List Nat :=
  s.tongs.withdrawn ++ retired s ++ s.tongs.queues.flatMap (fun c => c.2.pkts.flatMap (fun p => p.cells ++ p.lost))
/-- The first cell from `k` up, wrapping, that is not in the list. -/
def cellFrom (busy : List Nat) : Nat → Nat → Nat
  | 0, k => k % 32768
  | n + 1, k => if busy.contains (k % 32768) then cellFrom busy n (k + 1) else k % 32768
/-- A free cell: which one of the free cells is left open by the manual (DESIGN CHOICE, log entry 5). -/
def takeFree (s : State) : Nat × State :=
  let b := busyCells s
  (cellFrom b b.length (Config.freeCell s.draws), { s with draws := s.draws + 1 })

/-- Write POOL and POOL_MIN, RETIRE_CNT. -/
def poolSync (s : State) : State :=
  let f := freeCount s
  let s1 := ((s.set TONGS_POOL_FREE f).set TONGS_POOL_WITHDRAWN (withdrawnCount s)).set TONGS_RETIRE_CNT_COUNT (retireCount s)
  if f < s1.get TONGS_POOL_MIN_MIN then s1.set TONGS_POOL_MIN_MIN f else s1

/-- Retire a cell into the first free entry; with none the cell returns to service (R376). -/
def retireCell (c : Nat) (s : State) : State :=
  match (List.range 256).find? (fun k => !s.on (TONGS_RETIRE_VALID k)) with
  | some k => bbRecord 0x0090 c (tongsFault 6 ((s.set (TONGS_RETIRE_CELL k) c).raise (TONGS_RETIRE_VALID k)))
  | none => tongsFault 7 s

/-- A cell is freed: one that has delivered two parity errors is retired, one that has delivered one is tested (R376). -/
def freeCell (c : Nat) (s : State) : State :=
  let e := s.cellErr c
  if 2 ≤ e.count then retireCell c s
  else if e.count = 1 ∧ !e.tested then { s with tongs := { s.tongs with withdrawn := s.tongs.withdrawn ++ [c] } }
  else s

/-! ### Notices and watermarks (R235, R236, R302, R303) -/

def noticeSync (q : Nat) (s : State) : State := sample (384 + s.get (TONGSQ_Q0_NLINE q)) s

/-- Whether a held notice may be released now (R302, R303). -/
def releasable (s : State) (q : Nat) : Bool :=
  if s.on HOST_STAT_SLEEP then s.on (TONGSQ_Q0_WAKE q)
  else decide (max 1 (s.get (TONGSQ_Q3_MOD_PKTS q)) ≤ s.get (TONGSQ_Q4_PKTS q))
    || passedUs s (s.queue q).since (s.get (TONGSQ_Q3_MAX_HOLD q))

/-- Release the held notice of a queue. -/
def noticeRelease (q : Nat) (s : State) : State :=
  if s.on (TONGSQ_Q5_NOTICE q) && !(s.queue q).released then noticeSync q (s.putQueue q { s.queue q with released := true }) else s

/-- Release the notice of a queue where R302 or R303 lets it go. -/
def noticeEval (q : Nat) (s : State) : State := if releasable s q then noticeRelease q s else s

/-- NOTICE sets at the moment a packet becomes readable (R235). -/
def noticeSet (q : Nat) (s : State) : State :=
  if !s.on (TONGSQ_Q0_NOTICE_EN q) then s
  else
    let s1 := if s.on (TONGSQ_Q5_NOTICE q) then s
      else (s.raise (TONGSQ_Q5_NOTICE q)).putQueue q { s.queue q with since := s.clk.age, released := false }
    noticeSync q (noticeEval q s1)

/-- NOTICE clears: a released notice stays released until then (R302). -/
def noticeClear (q : Nat) (s : State) : State :=
  noticeSync q ((s.clear (TONGSQ_Q5_NOTICE q)).putQueue q { s.queue q with released := false })

/-- Record the peak. -/
def setPeak (q v : Nat) (s : State) : State :=
  ((s.set (TONGSQ_Q5_PEAK q) v).set (TONGSQ_Q6_PEAK_TB_LO q) s.tb).set (TONGSQ_Q7_PEAK_TB_HI q) (s.tb / 2 ^ 32)
/-- Record the trough. -/
def setTrough (q v : Nat) (s : State) : State :=
  ((s.set (TONGSQ_Q8_TROUGH q) v).set (TONGSQ_Q9_TROUGH_TB_LO q) s.tb).set (TONGSQ_Q10_TROUGH_TB_HI q) (s.tb / 2 ^ 32)

/-- The watermarks at a change of LEVEL from `old` to `new` (R236). -/
def watermarks (q old new : Nat) (s : State) : State :=
  let hi := s.get (TONGSQ_Q2_HIGH q)
  let lo := s.get (TONGSQ_Q2_LOW q)
  let s1 :=
    if s.on (TONGSQ_Q5_HIGH_HIT q) then (if s.get (TONGSQ_Q5_PEAK q) < new then setPeak q new s else s)
    else if hi ≠ 0 ∧ hi ≤ new ∧ old < new then setPeak q new (s.raise (TONGSQ_Q5_HIGH_HIT q)) else s
  if s1.on (TONGSQ_Q5_LOW_HIT q) then (if new < s1.get (TONGSQ_Q8_TROUGH q) then setTrough q new s1 else s1)
  else if s1.on (TONGSQ_Q0_LOW_EN q) && decide (lo < old) && decide (new ≤ lo)
  then setTrough q new (s1.raise (TONGSQ_Q5_LOW_HIT q)) else s1

/-- A software clear of HIGH_HIT or LOW_HIT: the flag sets again at once if its condition still holds, and its record
restarts from the LEVEL at the clear (R236). -/
def watermarkCleared (q : Nat) (hi lo : Bool) (s : State) : State :=
  let lv := s.get (TONGSQ_Q4_LEVEL q)
  let s1 := if hi && s.get (TONGSQ_Q2_HIGH q) != 0 && decide (s.get (TONGSQ_Q2_HIGH q) ≤ lv)
    then setPeak q lv (s.raise (TONGSQ_Q5_HIGH_HIT q)) else s
  let s2 := if lo && s1.on (TONGSQ_Q0_LOW_EN q) && decide (lv ≤ s1.get (TONGSQ_Q2_LOW q))
    then setTrough q lv (s1.raise (TONGSQ_Q5_LOW_HIT q)) else s1
  noticeSync q s2

/-- Store a queue and bring everything that follows from it up to date: LEVEL, PKTS, the mark and reader bits of word 5,
the watermarks, AUTO_CLR, the pool's counts and the notice line. -/
def State.setQueue (s : State) (q : Nat) (x : Queue) : State :=
  let old := s.get (TONGSQ_Q4_LEVEL q)
  let s1 := s.putQueue q x
  let s2 := (s1.set (TONGSQ_Q4_LEVEL q) x.level).set (TONGSQ_Q4_PKTS q) x.pktCount
  let s3 := match x.mark with
    | some m => (s2.raise (TONGSQ_Q5_MARK_SET q)).set (TONGSQ_Q5_MARK_LANE q) m.lane
    | none => (s2.clear (TONGSQ_Q5_MARK_SET q)).set (TONGSQ_Q5_MARK_LANE q) 0
  let s4 := s3.set (TONGSQ_Q5_IN_PKT q) (b2n x.reader.isSome)
  let s5 := watermarks q old x.level s4
  let s6 := if x.pktCount = 0 ∧ s.get (TONGSQ_Q4_PKTS q) ≠ 0 ∧ s5.on (TONGSQ_Q0_AUTO_CLR q) ∧ s5.on (TONGSQ_Q5_NOTICE q) then noticeClear q s5 else s5
  noticeSync q (noticeEval q (poolSync s6))

/-! ### Freeing (R228, R233) -/

/-- Take a packet out of its queue and free its cells. -/
def dropPacket (q id : Nat) (s : State) : State :=
  let x := s.queue q
  match x.find id with
  | none => s
  | some p =>
    let s1 := s.setQueue q { x with pkts := x.pkts.filter (fun y => y.id != id) }
    let s2 := p.cells.foldl (fun t c => freeCell c t) s1
    poolSync { s2 with tongs := { s2.tongs with withdrawn := s2.tongs.withdrawn ++ p.lost } }

/-- Packets that the reader has ended, that are closed and that no mark holds are freed. -/
def freeEnded (q : Nat) (s : State) : State :=
  let x := s.queue q
  (x.pkts.filter (fun p => p.done && !p.opened && !x.held p)).foldl (fun t p => dropPacket q p.id t) s

/-- Abandon the packet in progress at the reader (R228). -/
def abandon (q : Nat) (s : State) : State :=
  let x := s.queue q
  match x.reader with
  | none => s
  | some r => freeEnded q (s.setQueue q { (x.update r.id (fun p => { p with done := true })) with reader := none })

/-! ### Finding a cell (R231, R232, R234) -/

/-- The queue has room for one more cell. -/
def hasRoom (q : Nat) (s : State) : Bool :=
  decide (s.get (TONGSQ_Q4_LEVEL q) < max 1 (s.get (TONGSQ_Q1_LIMIT q))) && decide (0 < freeCount s)

/-- The packet that ROLL frees: the oldest readable closed packet of the lane that the reader is not reading and the mark
does not hold (R232). -/
def rollVictim (q lane : Nat) (s : State) : Option Packet :=
  let x := s.queue q
  x.pkts.find? (fun p => p.lane == lane && p.readable && !p.opened && !x.reading p && !x.held p)

/-- Free packets of the lane until the write has a cell, counting each in the counter `f`. -/
def rollUntil (q lane : Nat) (f : Fld) : Nat → State → State
  | 0, s => s
  | n + 1, s =>
    if hasRoom q s then s
    else match rollVictim q lane s with
      | some p => rollUntil q lane f n ((dropPacket q p.id s).inc f)
      | none => s

/-- Clear the mark (R233). -/
def clearMark (q : Nat) (s : State) : State := s.setQueue q { s.queue q with mark := none }

/-- The bursts that still count on a queue end with MARK_LOST: an overtaking, a RELEASE or another clear of the mark (R214, R216, R237). -/
def burstLost (q : Nat) (s : State) : State :=
  { s with bursts := s.bursts.map (fun b => if b.queue = q ∧ b.counted < b.post then { b with markLost := true } else b) }

/-- A writer overtakes the mark: clear it, set MARK_LOST, free the held packets already read and then whatever R232 now
frees, counting all in MARK_LOSS (R234). -/
def overtake (q lane : Nat) (s : State) : State :=
  let x := s.queue q
  let read := x.pkts.filter (fun p => p.done && !p.opened && x.held p)
  let s1 := sample (384 + s.get (TONGSQ_Q0_NLINE q)) ((burstLost q (clearMark q s)).raise (TONGSQ_Q5_MARK_LOST q))
  let s2 := read.foldl (fun t p => (dropPacket q p.id t).inc (TONGSQ_Q13_MARK_LOSS q)) s1
  rollUntil q lane (TONGSQ_Q13_MARK_LOSS q) x.pkts.length s2

/-- A held packet that R232 would free if the mark did not hold it. -/
def overtakes (q lane : Nat) (s : State) : Bool :=
  let x := s.queue q
  x.pkts.any (fun p => p.lane == lane && p.readable && !p.opened && !x.reading p && x.held p)

/-- Make room for a cell where the queue's policies can (R231 to R234). -/
def makeRoom (q lane : Nat) (s : State) : State :=
  if hasRoom q s || !s.on (TONGSQ_Q0_FULL_POLICY q) then s
  else
    let s1 := rollUntil q lane (TONGSQ_Q12_ROLLED q) (s.queue q).pkts.length s
    if !hasRoom q s1 && overtakes q lane s1 && !s1.on (TONGSQ_Q0_MARK_POLICY q) then overtake q lane s1 else s1

/-- A write that finds no cell (R231). -/
def refuseFull (q : Nat) (s : State) : State :=
  let s1 := noticeSync q ((s.raise (TONGSQ_Q5_OVERRUN q)).inc (TONGSQ_Q11_REFUSED q))
  if freeCount s1 = 0 then tongsFault 0 s1 else s1

/-! ### Bursts count closed packets (R214) -/

/-- The bursts that still count on a lane. -/
def burstsOf (q lane : Nat) (f : Burst → Burst) (s : State) : State :=
  { s with bursts := s.bursts.map (fun b => if b.queue = q ∧ b.lane = lane ∧ b.counted < b.post then f b else b) }

/-- A packet closed into a lane: bursts and firings whose bursts have still to start count it. -/
def burstCount (q lane : Nat) (s : State) : State :=
  let s1 := burstsOf q lane (fun b => { b with counted := b.counted + 1 }) s
  let add (c : List (Nat × Nat)) : List (Nat × Nat) := SMap.put (fun _ => 0) c (4 * q + lane) (SMap.get (fun _ => 0) c (4 * q + lane) + 1)
  { s1 with firings := s1.firings.map (fun f => { f with closes := add f.closes }) }

/-- The queue refuses a writer of the lane under KEEP_MARK (R234). -/
def keepsMark (q lane : Nat) (s : State) : Bool := s.on (TONGSQ_Q0_FULL_POLICY q) && s.on (TONGSQ_Q0_MARK_POLICY q) && overtakes q lane s

/-- A packet that was refused under KEEP_MARK sets TRUNCATED, and counts where it never opened (R214). -/
def burstKept (q lane n : Nat) (s : State) : State :=
  if keepsMark q lane s then burstsOf q lane (fun b => { b with counted := b.counted + n, truncated := true }) s else s

/-! ### Writing (R225, R226, R231) -/

/-- The order of R226: a packet that becomes readable takes its place behind the readable ones. -/
def becomeReadable (q id : Nat) (s : State) : State :=
  let x := s.queue q
  match x.find id with
  | none => s
  | some p =>
    if p.readable then s
    else
      let rest := x.pkts.filter (fun y => y.id != id)
      let x1 : Queue := { x with pkts := rest.filter (fun y : Packet => y.readable) ++ [{ p with readable := true }]
                          ++ rest.filter (fun y : Packet => !y.readable) }
      let x2 := match x1.mark with
        | some ⟨l, none⟩ => if l = p.lane then { x1 with mark := some ⟨l, some id⟩ } else x1
        | _ => x1
      noticeSet q (s.setQueue q x2)

/-- Store one word of a packet at index `i`. -/
def storeWord (p : Packet) (i v : Nat) (s : State) : State := s.setMemWord (p.addr i) v

/-- Back-fill of a SAMPLE_BATCH header's COUNT: (LEN − 16) / bytes per sample (R222, R224). -/
def backfillCount (p : Packet) (len : Nat) (s : State) : State :=
  let d := s.memWord (p.addr 0)
  if bits d 16 4 = 1 ∧ 5 ≤ p.words then
    let per := match bits d 28 2 with
      | 0 => 4
      | 1 => 3
      | _ => 2
    s.setMemWord (p.addr 4) (putBits (s.memWord (p.addr 4)) 16 8 ((len - 16) / per))
  else s

/-- Close a packet with LEN bytes (R222, R226). -/
def closePacket (q id len : Nat) (trunc : Bool) (s : State) : State :=
  match (s.queue q).find id with
  | none => s
  | some p =>
    let d := s.memWord (p.addr 0)
    let d1 := putBits (putBits (putBits d 0 16 len) 30 1 (b2n (trunc || bit d 30))) 31 1 (b2n (!p.bad.isEmpty || bit d 31))
    let s1 := backfillCount p len (s.setMemWord (p.addr 0) d1)
    let s2 := s1.setQueue q ((s1.queue q).update id (fun y => { y with opened := false }))
    let s3 := (becomeReadable q id s2).incWrap (TONGSQ_Q14_CLOSED q)
    freeEnded q (burstCount q p.lane s3)

/-- Close at the last stored word with TRUNC (R231, R237). -/
def truncatePacket (q id : Nat) (s : State) : State :=
  match (s.queue q).find id with
  | none => s
  | some p => closePacket q id (4 * (p.words - 1)) true s

/-- What an open answers (R225, R231, WR_STAT.RESULT). -/
inductive OpenResult where
  | ok | off | full
deriving DecidableEq, Repr

/-- Open a packet: the descriptor takes the first word of a first cell (R222, R225, R231). -/
def openPacket (q lane : Nat) (w : Writer) (type sub : Nat) (s : State) : OpenResult × State :=
  if !s.on (TONGSQ_Q0_EN q) then
    (.off, tongsFault 3 (s.inc (TONGSQ_Q11_REFUSED q)))
  else
    let s1 := makeRoom q lane s
    if !hasRoom q s1 then (.full, burstKept q lane 1 (refuseFull q s1))
    else
      let (c, s2) := takeFree s1
      let p : Packet :=
        { id := s2.tongs.nextId, lane := lane, writer := w, cells := [c], words := 1, cut := s2.get (TONGSQ_Q0_CT_CELLS q) }
      let s3 := { s2 with tongs := { s2.tongs with nextId := s2.tongs.nextId + 1 } }
      let s4 := s3.setQueue q { s3.queue q with pkts := (s3.queue q).pkts ++ [p] }
      (.ok, storeWord p 0 (0xFFFF + type % 16 * 2 ^ 16 + sub % 1024 * 2 ^ 20) s4)

/-- What a word of an open packet met: stored, or the packet was truncated. -/
inductive WordResult where
  | stored | truncated | ignored
deriving DecidableEq, Repr

/-- A full cell is published; CT_CELLS published cells make the packet readable (R226). -/
def publish (q id : Nat) (s : State) : State :=
  match (s.queue q).find id with
  | some p => if p.words % 16 = 0 ∧ p.cut ≠ 0 ∧ p.cut ≤ p.words / 16 then becomeReadable q id s else s
  | none => s

/-- Append one word to the writer's open packet, with its poison tag (R225, R230, R231, R237). -/
def writeWord (q : Nat) (w : Writer) (v : Nat) (poison : Bool) (s : State) : WordResult × State :=
  match (s.queue q).openOf w with
  | none => (.ignored, s)
  | some p =>
    if p.offed || !s.on (TONGSQ_Q0_EN q) then (.truncated, truncatePacket q p.id s)
    else if 16384 ≤ p.words then (.truncated, truncatePacket q p.id s)
    else
      let add (c : List Nat) (y : Packet) : Packet :=
        { y with cells := y.cells ++ c, words := y.words + 1, bad := if poison then y.bad ++ [y.words] else y.bad }
      if p.words % 16 ≠ 0 then
        let s1 := s.setQueue q ((s.queue q).update p.id (add []))
        (.stored, publish q p.id (storeWord p p.words v s1))
      else
        let s1 := makeRoom q p.lane s
        if !hasRoom q s1 then
          (.truncated, truncatePacket q p.id (burstKept q p.lane 0 (refuseFull q s1)))
        else
          let (c, s2) := takeFree s1
          let p1 := add [c] p
          let s3 := s2.setQueue q ((s2.queue q).update p.id (add [c]))
          (.stored, publish q p.id (storeWord p1 p.words v s3))

/-- Append several words; after a truncation the rest are ignored, since the writer has no open packet left. -/
def writeWords (q : Nat) (w : Writer) (vs : List Nat) (s : State) : State :=
  vs.foldl (fun t v => (writeWord q w v false t).2) s

/-- Close the writer's open packet with `len` payload bytes; pad bytes of its last word read 0 (R221). -/
def closeWriter (q : Nat) (w : Writer) (len : Nat) (trunc : Bool) (s : State) : State :=
  match (s.queue q).openOf w with
  | none => s
  | some p =>
    let a := p.addr (p.words - 1)
    let s1 := if len % 4 ≠ 0 ∧ 1 < p.words then s.setMemWord a (s.memWord a % 2 ^ (8 * (len % 4))) else s
    closePacket q p.id len trunc s1

/-- A whole packet of `ws` payload words, opened, written and closed at once. -/
def wholePacket (q lane : Nat) (w : Writer) (type sub : Nat) (ws : List Nat) (len : Nat) (s : State) : OpenResult × State :=
  let (r, s1) := openPacket q lane w type sub s
  match r with
  | .ok => (.ok, closeWriter q w len false (writeWords q w ws s1))
  | e => (e, s1)

/-! ### Reading (R227 to R230) -/

/-- What one read delivers: tag, word, and the two words of an event-controller record whose EOP it first delivered. -/
structure ReadOut where
  tag : Nat := 0
  word : Nat := 0
  evc : Option (Nat × Nat) := none

/-- The reader ends a packet. -/
def endPacket (q id : Nat) (s : State) : State :=
  freeEnded q (s.setQueue q { ((s.queue q).update id (fun p => { p with done := true, taken := true })) with reader := none })

/-- A POISON delivery (R230) of a word in cell `c` of packet `p`. -/
def poisonDelivery (q c : Nat) (p : Packet) (s : State) : State :=
  let s1 := (orWord (p.addr 0) (2 ^ 31) s).raise (TONGSQ_Q5_PARITY q)
  let s2 := noticeSync q (tongsFault 1 (s1.inc TONGS_PARITY_COUNT))
  if s2.on TONGS_PAR_LAST_VALID then s2
  else ((s2.raise TONGS_PAR_LAST_VALID).set TONGS_PAR_LAST_QUEUE q).set TONGS_PAR_LAST_CELL c

/-- The record of a packet that the event controller wrote, at its first delivered EOP (R247). -/
def evcRecord (p : Packet) (s : State) : Option (Nat × Nat) :=
  if p.writer = .evc ∧ !p.taken then some (s.memWord (p.addr 1), s.memWord (p.addr 2)) else none

/-- A parity error in the link entry of the cell being read ends the chain there: the packet is cut to the words up to that
cell, its descriptor has TRUNC and POISON, and its remaining cells are withdrawn (R230). -/
def cutAtLink (q i : Nat) (p : Packet) (s : State) : State :=
  let k := i / 16 + 1
  let n := min p.words (k * 16)
  let s1 := orWord (p.addr 0) (2 ^ 31 + 2 ^ 30) s
  let s2 := s1.setMemWord (p.addr 0) (putBits (s1.memWord (p.addr 0)) 0 16 (4 * (n - 1)))
  let s3 := s2.setQueue q ((s2.queue q).update p.id (fun y =>
    { y with cells := y.cells.take k, lost := y.lost ++ y.cells.drop k, words := n, opened := false }))
  poisonDelivery q (p.cells.getD (i / 16) 0) p s3

/-- Where the reader of a queue stands: in its packet, or before the head of the highest lane that has a readable packet (R228). -/
def Queue.place (x : Queue) : Option Reader := match x.reader with
  | some r => some r
  | none => x.head.map (fun p : Packet => ({ id := p.id, next := 0 } : Reader))

/-- One read by the owner (R228 to R230). `u` is what the stored word presents beside its data; `taken` is the word where the reader took it
before (R299). -/
def readWord (q : Nat) (u : Upset) (taken : Option Nat) (s0 : State) : ReadOut × State :=
  match (s0.queue q).place with
  | none => ({}, s0)
  | some r =>
    match (s0.queue q).find r.id with
    | none => ({}, s0)
    | some p0 =>
      if r.cutThrough && !p0.opened && decide (p0.words ≤ r.next) then
        let d := s0.memWord (p0.addr 0)
        ({ tag := 0x80 + 0x20 + 0x04 + 8 * b2n (bit d 31), word := d, evc := evcRecord p0 s0 }, endPacket q p0.id s0)
      else if p0.published ≤ r.next then ({ tag := 2 }, s0)
      else
        let link := u == Upset.link && decide (r.next / 16 + 1 < p0.cells.length)
        let s1 := if link then cutAtLink q r.next p0 s0 else s0
        match (s1.queue q).find r.id with
        | none => ({}, s1)
        | some p =>
          let cell := p.cells.getD (r.next / 16) 0
          let v := taken.getD (s1.memWord (p.addr r.next))
          let poison := p.bad.contains r.next || u == Upset.parity
          let s2 := if u == Upset.parity then s1.setCellErr cell { s1.cellErr cell with count := (s1.cellErr cell).count + 1 } else s1
          let s3 := if poison then poisonDelivery q cell p s2 else s2
          let cut := if r.next = 0 then p.opened || (taken.map (fun w => w % 2 ^ 16 == 0xFFFF)).getD false else r.cutThrough
          let eop := !cut && !p.opened && r.next + 1 == p.words
          let tag := 0x80 + 0x40 * b2n (r.next == 0) + 0x20 * b2n eop + 0x10 * b2n (poison || (eop && link))
            + 8 * b2n (eop && bit (s3.memWord (p.addr 0)) 31)
          let s4 := if eop then endPacket q p.id s3
            else s3.setQueue q { s3.queue q with reader := some { id := p.id, next := r.next + 1, cutThrough := cut } }
          ({ tag := tag, word := v, evc := if eop then evcRecord p s3 else none }, s4)

/-- The reader's code of OWNER (R239): 7 acts as NONE. -/
def ownerOf (s : State) (q : Nat) : Nat := min 6 (s.get (TONGSQ_Q0_OWNER q))

/-- A read by master `m` (0 to 3 cores, 4 HOST, 5 RING): no data, and NOT_OWNER, for any other than the owner (R227). -/
def readAs (m q : Nat) (u : Upset) (s : State) : ReadOut × State :=
  if ownerOf s q = m then readWord q u none s else ({}, tongsFault 2 s)

/-! ### QCMD (R233) -/

def qcmdResult (ok : Bool) (s : State) : State :=
  if ok then s.set TONGS_QCMD_STAT_RESULT 1 else tongsFault 4 (s.set TONGS_QCMD_STAT_RESULT 2)

/-- Place the mark at a packet, or at the next one to become readable in the lane. -/
def placeMark (q lane : Nat) (id : Option Nat) (s : State) : State := s.setQueue q { s.queue q with mark := some ⟨lane, id⟩ }

/-- OP 1. -/
def qMark (q lane : Nat) (s : State) : State :=
  if (s.queue q).mark.isSome then qcmdResult false s
  else qcmdResult true (placeMark q lane
    (((s.queue q).pkts.find? (fun p => p.lane == lane && p.readable && !p.done)).map (fun p => p.id)) s)

/-- OP 2. An open packet before the mark that cut-through has made readable is abandoned, and freed at its close. -/
def qRewind (q lane : Nat) (s : State) : State :=
  match (s.queue q).mark with
  | some ⟨l, m⟩ =>
    if l ≠ lane then qcmdResult false s
    else
      let inLane := match (s.queue q).reader with
        | some r => match (s.queue q).find r.id with
          | some p => p.lane == l
          | none => false
        | none => false
      let s1 := if inLane then abandon q s else s
      let x := s1.queue q
      match m with
      | none => qcmdResult true s1
      | some _ =>
        let before := x.pkts.filter (fun p => p.lane == l && p.readable && !p.opened && !x.held p)
        let s2 := before.foldl (fun t p => dropPacket q p.id t) s1
        let x2 := s2.queue q
        qcmdResult true (s2.setQueue q { x2 with pkts := x2.pkts.map (fun p =>
          if x2.held p then { p with done := false } else if p.lane = l ∧ p.readable then { p with done := true } else p) })
  | none => qcmdResult false s

/-- OP 3. -/
def qRelease (q : Nat) (s : State) : State := qcmdResult true (freeEnded q (burstLost q (clearMark q s)))

/-- OP 4. -/
def qFlush (q : Nat) (s : State) : State :=
  let s1 := burstLost q (clearMark q s)
  let ps := (s1.queue q).pkts.filter (fun p => p.readable && !p.opened)
  qcmdResult true (abandon q (ps.foldl (fun t p => (dropPacket q p.id t).inc (TONGSQ_Q15_DISCARDED q)) s1))

/-- A write of QCMD; any other OP is ignored. -/
def qcmd (v : Nat) (s : State) : State :=
  let q := bits v 0 9
  let lane := bits v 24 2
  match bits v 28 4 with
  | 1 => qMark q lane s
  | 2 => qRewind q lane s
  | 3 => qRelease q s
  | 4 => qFlush q s
  | _ => s

/-! ### The software ports (R240) -/

/-- Close the port's open packet, if any, with TRUNC: an open finds one already open. -/
def closeOld (m : Nat) (s : State) : State :=
  match s.wport m with
  | .opened q => match (s.queue q).openOf (.software m) with
    | some p => closeWriter q (.software m) (4 * (p.words - 1)) true s
    | none => s
  | _ => s

def wstat (m : Nat) (open' : Bool) (r : Nat) (s : State) : State :=
  (s.set (TONGS_WR_STAT_OPEN m) (b2n open')).set (TONGS_WR_STAT_RESULT m) r

/-- A write of WR_OPENm. -/
def portOpen (m v : Nat) (s : State) : State :=
  if !bit v 31 then s
  else
    let s1 := closeOld m s
    let type := bits v 16 4
    if type ≠ 5 ∧ type ≠ 8 then
      tongsFault 5 (wstat m false 5 (match s.wport m with
        | .opened _ => s1.setWport m .idle
        | _ => s1))
    else
      let (r, s2) := openPacket (bits v 0 9) (bits v 9 2) (.software m) type (bits v 20 10) s1
      match r with
      | .ok => wstat m true 0 (s2.setWport m (.opened (bits v 0 9)))
      | .off => wstat m false 1 (s2.setWport m .refused)
      | .full => wstat m false 2 (s2.setWport m .refused)

/-- A write of WR_DATAm. -/
def portData (m v : Nat) (s : State) : State :=
  match s.wport m with
  | .idle => tongsFault 5 (s.set (TONGS_WR_STAT_RESULT m) 4)
  | .refused => s
  | .opened q =>
    let (r, s1) := writeWord q (.software m) v false s
    match r with
    | .stored => s1
    | _ => wstat m false 3 (s1.setWport m .refused)

/-- A write of WR_CLOSEm. -/
def portClose (m v : Nat) (s : State) : State :=
  if !bit v 31 then s
  else match s.wport m with
    | .idle => tongsFault 5 (s.set (TONGS_WR_STAT_RESULT m) 4)
    | .refused => s.setWport m .idle
    | .opened q =>
      match (s.queue q).openOf (.software m) with
      | none => wstat m false 3 (s.setWport m .idle)
      | some p =>
        let pad := if p.words ≤ 1 then 0 else bits v 0 2
        wstat m false 0 ((closeWriter q (.software m) (4 * (p.words - 1) - pad) (bit v 30) s).setWport m .idle)

/-- A read of RD_DATAm. -/
def portRead (m : Nat) (u : Upset) (s : State) : ReadOut × State :=
  let (o, s1) := readAs m (s.get (TONGS_RD_SEL_QUEUE m)) u s
  (o, s1.set (TONGS_RD_TAG_TAG m) o.tag)

/-- A write of RD_CTRLm. -/
def portSkip (m v : Nat) (s : State) : State :=
  let q := s.get (TONGS_RD_SEL_QUEUE m)
  if bit v 0 && ownerOf s q == m then abandon q s else s

/-! ### Changes of the queue table in service (R237, R238) -/

/-- After a software write of word 0 from `old`: EN written 0 marks the open packets; a change of OWNER abandons the packet
in progress; a change of NLINE moves the level. -/
def queueWord0Written (q old : Nat) (s : State) : State :=
  let x := s.queue q
  let s1 := if bit old 31 && !s.on (TONGSQ_Q0_EN q)
    then s.setQueue q { x with pkts := x.pkts.map (fun p => if p.opened then { p with offed := true } else p) } else s
  let s2 := if bits old 28 3 ≠ s1.get (TONGSQ_Q0_OWNER q) then abandon q s1 else s1
  noticeSync q (sample (384 + bits old 0 7) (noticeEval q s2))

/-! ### Resets and power (R238) -/

/-- Every packet of a queue is freed or abandoned and its mark clears; its LEVEL and PKTS fall to 0. -/
def queueEmpty (s : State) (q : Nat) : State :=
  let x := s.queue q
  let s1 := burstLost q (s.setQueue q { since := x.since, released := x.released })
  x.pkts.foldl (fun t p =>
    let t1 := p.cells.foldl (fun u c => freeCell c u) t
    { t1 with tongs := { t1.tongs with withdrawn := t1.tongs.withdrawn ++ p.lost } }) s1

/-- Empty the pool; the ports are idle. -/
def tongsEmpty (s : State) : State :=
  let s1 := (s.tongs.queues.map (fun c => c.1)).foldl queueEmpty s
  poolSync ((List.range 5).foldl (fun t m => t.clear (TONGS_WR_STAT_OPEN m)) { s1 with tongs := { s1.tongs with ports := [] } })

/-- On waking from DOZE or OFF-KEEP: readable packets are lost and counted in DISCARDED, open ones abandoned, and the pool's words are gone. -/
def tongsWake (s : State) : State :=
  (tongsEmpty (s.tongs.queues.foldl (fun t c =>
    t.addSat (TONGSQ_Q15_DISCARDED c.1) (c.2.pkts.filter (fun p => p.readable)).length) s)).clearMem 0x20000000 0x20200000

/-! ### Commands -/

/-- A background test of a cell under test ends (R376): a good cell returns to the free list, a bad one is retired. -/
def cellTestDone (c : Nat) (pass : Bool) (s : State) : State :=
  if s.tongs.withdrawn.contains c then
    let s1 := { s with tongs := { s.tongs with withdrawn := s.tongs.withdrawn.erase c } }
    poolSync (if pass then s1.setCellErr c { s1.cellErr c with tested := true } else retireCell c s1)
  else s

/-- `CELL_TEST_DONE`. -/
def execCellTestDone (c : Nat) (pass : Bool) (s : State) : Out := done s (cellTestDone c pass s)

/-- `NOTICE_RELEASE`: the hold of a queue's notice has expired, where it has (R302). -/
def execNoticeRelease (q : Nat) (s : State) : Out := done s (noticeEval q s)

/-- Port m serves master m only. -/
def masterIdx : Master → Nat
  | .c0 => 0 | .c1 => 1 | .c2 => 2 | .c3 => 3 | .host => 4 | .ring => 5 | .dbg => 6

end Sys2Proof.Machine
end

