-- ==== Sys2Proof/Machine/BlackBox.lean ====
section
/-!
DEFINITION. Sys2Proof/Machine/BlackBox.lean: the black box (spec/22_black_box.md, R382 to R392) and the failing of a commit
that a freeze pre-empts (R342, R388).
-/
namespace Sys2Proof.Machine

/-! ### A commit that fails (R342) -/

/-- COMMIT_FAIL of a page with a cause: PG_FAULT, LAST_FAIL while it is armed, source 561 and a black-box record. -/
def commitFail (page cause : Nat) (s : State) : State :=
  let s1 := (pageFaulted page 31 s).clear (PG_STAT_BUSY page)
  let s2 := if s1.on HEARTH_LAST_FAIL_VALID then s1
    else ((s1.raise HEARTH_LAST_FAIL_VALID).set HEARTH_LAST_FAIL_CAUSE cause).set HEARTH_LAST_FAIL_PAGE page
  bbRecord 0x0080 (page + cause * 2 ^ 8) (pulse 561 s2)

/-- A black-box freeze, a brown-out or a reset cuts the commit in progress (cause 4). -/
def preemptCommit (s : State) : State :=
  match s.hearth.running with
  | some c => commitFail c.page 4 { s with hearth := { s.hearth with running := none } }
  | none => s

/-! ### Freezing (R386 to R388) -/

/-- The ring's slot addresses in the order of the copy: oldest first, the last record written last (R388). -/
def copyOrder (s : State) : List Nat :=
  (List.range 2048).map (fun i => 0x28000000 + 16 * ((s.get BBOX_STAT_WR_IDX + i) % 2048))

/-- The four words of a slot. -/
def slotWords (s : State) (a : Nat) : List Nat := [s.memWord a, s.memWord (a + 4), s.memWord (a + 8), s.memWord (a + 12)]

/-- The CRC of the 2,047 records before the FREEZE record that the next append will write. -/
def copyCrc (s : State) : Nat :=
  crc32Words (((List.range 2047).map (fun i => 0x28000000 + 16 * ((s.get BBOX_STAT_WR_IDX + 1 + i) % 2048))).flatMap (slotWords s))

/-- The copy starts: it pre-empts a commit. -/
def startCopy (s : State) : State := sample 570 ((preemptCommit s).set BBOX_STAT_COPY 3)

/-- The copy can be made: COPY = EMPTY, or an erase of the area runs (R391), and VAON ≥ 1.75 V. -/
def copyAllowed (s : State) : Bool :=
  (s.get BBOX_STAT_COPY == 0 || (s.get BBOX_STAT_COPY == 3 && s.bbox.erasing)) && decide (1750 ≤ s.vaon)

/-- A trigger of a freeze with a cause (R386, R387); a brown-out or thermal trigger during a freeze whose copy was skipped
starts the copy when it finds COPY = EMPTY (R388). The record carries the CRC whether it is copied at once or then. -/
def bbFreeze (cause : Nat) (s : State) : State :=
  if s.on BBOX_STAT_FROZEN then
    if cause ≤ 2 ∧ !s.bbox.copied ∧ s.get BBOX_STAT_COPY = 0 ∧ 1750 ≤ s.vaon
    then startCopy { s with bbox := { s.bbox with copied := true } } else s
  else
    let ok := copyAllowed s
    let n := satU 16 (s.get BBOX_FREEZES_COUNT + 1)
    let arg := copyCrc s * 2 ^ 32 + cause * 2 ^ 28 + b2n ok * 2 ^ 27 + n
    let s1 := (bbRecord 0x0001 arg s).set BBOX_FREEZES_COUNT n
    let s2 := sample 568 ((s1.raise BBOX_STAT_FROZEN).set BBOX_STAT_CAUSE cause)
    let s3 := { s2 with bbox := { s2.bbox with copied := ok, releaseWaits := false } }
    if !ok then s3
    else if s3.bbox.erasing then { s3 with bbox := { s3.bbox with copyWaits := true } } else startCopy s3

/-- FROZEN clears and recording resumes at WR_IDX (R390). -/
def bbUnfreeze (s : State) : State :=
  sample 568 ({ (s.clear BBOX_STAT_FROZEN).set BBOX_STAT_CAUSE 0 with bbox := { s.bbox with releaseWaits := false, copied := false } })

/-- A write of CMD.RELEASE = 1: while a copy or an erase runs it waits (R391). -/
def bbRelease (s : State) : State :=
  if s.get BBOX_STAT_COPY = 3 then { s with bbox := { s.bbox with releaseWaits := true } } else bbUnfreeze s

/-- A write of CMD.ERASE_COPY = 1 that PG_KEY admits; refused while COPY = COPYING (R391). -/
def bbErase (s : State) : State :=
  if s.get BBOX_STAT_COPY = 3 then s
  else sample 570 ({ s.set BBOX_STAT_COPY 3 with bbox := { s.bbox with erasing := true } })

/-- A write of SW_CODE (R385). -/
def bbSoftware (code : Nat) (s : State) : State :=
  if 0x8000 ≤ code ∧ code ≤ 0xFFFE then bbRecord code (s.get BBOX_SW_HI_ARG * 2 ^ 32 + s.get BBOX_SW_LO_ARG) s
  else s.fault 0x59 0

/-- The copy of the ring stands in segments 56 to 63 (R388). -/
def writeCopy (s : State) : State :=
  ((copyOrder s).zip (List.range 2048)).foldl (fun t c =>
    (((t.setMemWord (0x11038000 + 16 * c.2) (s.memWord c.1)).setMemWord (0x11038000 + 16 * c.2 + 4) (s.memWord (c.1 + 4))).setMemWord
      (0x11038000 + 16 * c.2 + 8) (s.memWord (c.1 + 8))).setMemWord (0x11038000 + 16 * c.2 + 12) (s.memWord (c.1 + 12))) s

/-- The copy ends. -/
def copyDone (s : State) : State :=
  if s.get BBOX_STAT_COPY = 3 ∧ !s.bbox.erasing then
    let s1 := pulse 569 (sample 570 ((writeCopy s).set BBOX_STAT_COPY 1))
    if s1.bbox.releaseWaits then bbUnfreeze s1 else s1
  else s

/-- The erase of the copy area ends: EMPTY, or the copy of a freeze that waited for it begins. -/
def eraseCopyDone (s : State) : State :=
  if s.get BBOX_STAT_COPY = 3 ∧ s.bbox.erasing then
    let s1 := (s.clearMem 0x11038000 0x11040000).set BBOX_STAT_COPY 0
    let s2 := pulse 569 (sample 570 { s1 with bbox := { s1.bbox with erasing := false } })
    if s2.bbox.copyWaits then startCopy { s2 with bbox := { s2.bbox with copyWaits := false } }
    else if s2.bbox.releaseWaits then bbUnfreeze s2 else s2
  else s

/-- What the copy area holds when BBOX becomes READY (R390): COPY is set from it, COPY_BAD with INCOMPLETE. -/
def copyState (s : State) : Nat :=
  if s.mem.all (fun c => decide (c.1 < 0x11038000) || decide (0x11040000 ≤ c.1)) then 0
  else
    let a := 0x11038000 + 16 * 2047
    let crc := crc32Words ((List.range (2047 * 4)).map (fun i => s.memWord (0x11038000 + 4 * i)))
    if s.memWord (a + 4) / 2 ^ 16 = 1 ∧ s.memWord (a + 12) = crc then 1 else 2

/-- BBOX becomes READY after a reset. -/
def bboxReady (s : State) : State :=
  if s.get BBOX_STAT_COPY = 3 then s
  else
    let c := copyState s
    sample 570 ((if c = 2 then s.fault 0x59 1 else s).set BBOX_STAT_COPY c)

end Sys2Proof.Machine
end

