-- ==== Sys2Proof/Machine/EventController.lean ====
section
/-!
DEFINITION. Sys2Proof/Machine/EventController.lean: from pending sources to records, the in-service stack, ORDER, storms, wake
latches and the effects of changing the table in service (spec/14_event_controller.md, R243 to R256; R369).
-/
namespace Sys2Proof.Machine

def State.target (s : State) (t : Nat) : Target := SMap.get (fun _ => {}) s.targets t
def State.putTarget (s : State) (t : Nat) (x : Target) : State :=
  { s with targets := SMap.put (fun _ => {}) s.targets t x }

/-- TOP_t: 0 when the stack is empty. -/
def Target.top (x : Target) : Nat := match x.stack with
  | [] => 0
  | (l, _) :: _ => l

/-- Store a target's record and its view in STACK. -/
def State.setTarget (s : State) (t : Nat) (x : Target) : State :=
  (((s.putTarget t x).set (EVC_STACK_TOP t) x.top).set (EVC_STACK_DEPTH t) x.stack.length).set (EVC_STACK_TOP_SRC t)
    (match x.stack with
      | [] => 0
      | (_, n) :: _ => n)

/-- THR_t (EVC.THR). -/
def thr (s : State) (t : Nat) : Nat := s.get ⟨EVC_THR_HOST.addr, 4 * t, 4⟩

/-! ### HOST_ATTN (R303, R304, R306) -/

/-- The condition of HOST_ATTN: the host line of R246 is high, or ATTN.SW is 1, once EVC is READY. -/
def attnWanted (s : State) : Bool := s.ready 0x44 && (s.get (EVC_RQ_IDX_COUNT 4) != 0 || s.on HOST_ATTN_SW)

/-- HOST_ATTN follows its condition; while the BUS clock is stopped it is held. It stays deasserted for its minimum time, and asserting
while HOST_SLEEP is asserted sets WAKE_REQ. -/
def attnEval (s : State) : State :=
  if s.busStopped then s
  else if s.on HOST_ATTN_LEVEL then
    if attnWanted s then s else { s.clear HOST_ATTN_LEVEL with host := { s.host with hold := true, holdAt := s.clk.age } }
  else if attnWanted s && !s.host.hold then
    let s1 := s.raise HOST_ATTN_LEVEL
    if s1.on HOST_STAT_SLEEP then sample 546 (s1.raise HOST_STAT_WAKE_REQ) else s1
  else s

/-- HOST_SLEEP as the port samples it (R303): at its assertion the held notices of queues with WAKE = 1 are released, at its deassertion
those of queues with WAKE = 0; before the HOST page is READY, and while the BUS clock is stopped, the notices wait, and the input itself is
the level of source 547 (R305). -/
def sleepEval (s : State) : State :=
  let lv := s.host.pin != s.on HOST_CFG_SLEEP_POL
  if s.busStopped then sample 547 s
  else if !s.ready 0x50 || lv == s.on HOST_STAT_SLEEP then s
  else sample 547 ((List.range 512).foldl (fun t q => if t.on (TONGSQ_Q0_WAKE q) == lv then noticeRelease q t else t) (s.set HOST_STAT_SLEEP (b2n lv)))

/-! ### Arbitration and append (R243 to R246) -/

/-- The sources whose entries hold a PEND bit: only words that are listed can, since PEND resets to 0. Ascending. -/
def pendingSources (s : State) (t : Nat) : List Nat :=
  s.regs.filterMap (fun c =>
    match srcOfAddr (c.1 - 4) with
    | some n => if c.1 = (EVC_SRC1_PEND n).addr ∧ s.on (pendBit n t) then some n else none
    | none => none)

/-- The interval of REARM has passed (R243). -/
def rearmPassed (s : State) (n t : Nat) : Bool :=
  let r := s.get (EVC_SRC0_REARM n)
  match (s.pair n t).last with
  | none => true
  | some a => r == 0 || decide (a + 2 ^ (r + 6) ≤ s.tb)

/-- A source is eligible for a target (R244). -/
def eligible (s : State) (n t : Nat) : Bool :=
  s.on (pendBit n t) && !s.on (outBit n t) && rearmPassed s n t && !s.on (EVC_SRC1_MASKED n) && s.enabled 0x44
  && decide (thr s t < s.get (EVC_SRC0_LVL n)) && decide ((s.target t).top < s.get (EVC_SRC0_LVL n))

/-- Of two eligible sources in ascending order, the later wins only with a higher level. -/
def better (s : State) (best : Option Nat) (n : Nat) : Option Nat :=
  match best with
  | none => some n
  | some b => if s.get (EVC_SRC0_LVL b) < s.get (EVC_SRC0_LVL n) then some n else some b

/-- The winner of a target's arbitration. -/
def winner (s : State) (t : Nat) : Option Nat :=
  ((pendingSources s t).filter (fun n => eligible s n t)).foldl (better s) none

/-- The target takes appends now: a present core in RUN, WAIT or HALTED with room in its ring, or the host below its depth
(R244, R246). -/
def appendOpen (s : State) (t : Nat) : Bool :=
  s.runs 0x44 && !s.busStopped &&
  (if t < 4 then
    decide (t < nCores s.variant) && decide (1 ≤ s.get (CORE_STAT_STATE t)) && decide (s.get (CORE_STAT_STATE t) ≤ 3)
      && decide (s.get (EVC_RQ_IDX_COUNT t) < 256)
  else t == 4 && decide (s.get (EVC_RQ_IDX_COUNT 4) ≤ s.get EVC_HOST_RQ_DEPTH_M1))

/-- Word 0 of a record (R245). -/
def recordWord0 (s : State) (n t : Nat) : Nat :=
  let p := s.pair n t
  n + s.get (EVC_SRC0_LVL n) * 2 ^ 10 + p.coal * 2 ^ 14 + b2n p.lost * 2 ^ 22 + b2n p.waked * 2 ^ 23

/-- Word 1 of a record: TB[39:8] of the record time. -/
def recordWord1 (s : State) (n t : Nat) : Nat := (s.pair n t).time / 2 ^ 8 % 2 ^ 32

/-- The bookkeeping of an append (R244). -/
def appended (n t : Nat) (s : State) : State :=
  let w1 := recordWord1 s n t
  let s1 := ((s.clear (pendBit n t)).raise (outBit n t)).setPair n t { last := some s.tb }
  (s1.set (EVC_SRC2_LAST_TB n) w1).incWrap (EVC_SRC3_RECORDS n)

/-- Append the winner's record to a core's ring in its TCM (R246). -/
def appendCore (n t : Nat) (s : State) : State :=
  let a := 0x30000000 + t * 0x10000 + s.get (EVC_RQ_CFG_BASE t) * 2048 + 8 * s.get (EVC_RQ_IDX_WR t)
  let s1 := (s.setMemWord a (recordWord0 s n t)).setMemWord (a + 4) (recordWord1 s n t)
  appended n t ((s1.incWrap (EVC_RQ_IDX_WR t)).inc (EVC_RQ_IDX_COUNT t))

/-- Append the winner's record as an EVC packet to the host queue; a refused open leaves it pending and sets STALL (R246). -/
def appendHost (n : Nat) (s : State) : State :=
  let (r, s1) := wholePacket (s.get EVC_HOST_RQ_QUEUE) (s.get EVC_HOST_RQ_LANE) .evc 7 0
    [recordWord0 s n 4, recordWord1 s n 4] 8 s
  match r with
  | .ok => attnEval (appended n 4 (s1.inc (EVC_RQ_IDX_COUNT 4)))
  | _ => sample 534 ((s1.raise EVC_HOST_RQ_STALL).fault 0x44 7)

/-- One append of a target, where it takes appends and a source is eligible. -/
def recordAppend (t : Nat) (s : State) : State :=
  if appendOpen s t then
    match winner s t with
    | some n => if t = 4 then appendHost n s else appendCore n t s
    | none => s
  else s

/-! ### Taking and completing (R247 to R250) -/

/-- ORDER: freeze the stack (R249). -/
def raiseOrder (t cause named : Nat) (s : State) : State :=
  let x := s.target t
  let s1 := ((((s.raise (EVC_ORDER_INFO_VALID t)).set (EVC_ORDER_INFO_CAUSE t) cause).set (EVC_ORDER_INFO_NAMED t) named).set
    (EVC_ORDER_INFO_TOP t) x.top).set (EVC_ORDER_INFO_DEPTH t) x.stack.length
  let s2 := sample (528 + t) ((s1.raise (EVC_STACK_FROZEN t)).fault 0x44 t)
  let s3 := bbRecord 0x0030 (t + cause * 2 ^ 4 + named * 2 ^ 8 + x.top * 2 ^ 12 + x.stack.length * 2 ^ 16) s2
  if s3.on BBOX_CFG_F_ORDER then bbFreeze 7 s3 else s3

/-- A record with word 0 `w` goes into service (R247). -/
def enterService (t w : Nat) (s : State) : State :=
  let x := s.target t
  let n := bits w 0 10
  if s.on (EVC_STACK_FROZEN t) then s.putTarget t { x with unpushed := x.unpushed ++ [n] }
  else if 15 ≤ x.stack.length then raiseOrder t 3 0 (s.putTarget t { x with unpushed := x.unpushed ++ [n] })
  else s.setTarget t { x with stack := (bits w 10 4, n) :: x.stack }

/-- A take of core `t` (R247). The controller is another master of the ring's TCM: of a byte with bad parity it sets TCM_PAR_EXT (R262). -/
def takeCore (t : Nat) (par : Bool) (s : State) : Nat × State :=
  if s.get (EVC_RQ_IDX_COUNT t) = 0 then (0, s)
  else
    let a := 0x30000000 + t * 0x10000 + s.get (EVC_RQ_CFG_BASE t) * 2048 + 8 * s.get (EVC_RQ_IDX_RD t)
    let w := s.memWord a
    let s0 := if par then s.fault (0x48 + t) 3 else s
    let s1 := (s0.set (EVC_TAKE_TB_TB t) (s.memWord (a + 4))).incWrap (EVC_RQ_IDX_RD t)
    (w, enterService t w (s1.set (EVC_RQ_IDX_COUNT t) (s.get (EVC_RQ_IDX_COUNT t) - 1)))

/-- The host's take: the first delivery of the EOP of an EVC packet of its record queue (R247). -/
def takeHost (w0 w1 : Nat) (s : State) : State :=
  let s1 := s.set (EVC_TAKE_TB_TB 4) w1
  attnEval (enterService 4 w0 (s1.set (EVC_RQ_IDX_COUNT 4) (s.get (EVC_RQ_IDX_COUNT 4) - 1)))

/-- Set the storm count of a source and mask it at 1,001 immediate re-assertions (R251). -/
def stormCount (n : Nat) (s : State) : State :=
  let c := s.get (EVC_SRC1_STORM n)
  let first := (s.source n).stormTb
  if c = 0 ∨ first + 1310720 < s.tb then
    (s.set (EVC_SRC1_STORM n) 1).setSource n { s.source n with stormTb := s.tb }
  else
    let s1 := s.set (EVC_SRC1_STORM n) (c + 1)
    if c + 1 ≠ 1001 then s1
    else
      let s2 := (((s1.raise (EVC_SRC1_MASKED n)).raise (EVC_SRC1_STUCK n)).set (EVC_SRC1_PEND n) 0)
      let s3 := if s2.on EVC_STUCK_LAST_VALID then s2 else (s2.raise EVC_STUCK_LAST_VALID).set EVC_STUCK_LAST_SOURCE n
      bbRecord 0x0031 n (pulse 533 (s3.fault 0x44 5))

/-- OUT of a source's record clears; a level source still asserted counts a re-assertion and pends again (R248, R251). -/
def completeRecord (n t : Nat) (storm : Bool) (s : State) : State :=
  let s1 := s.clear (outBit n t)
  let s2 := if storm && assertedNow s1 n && !s1.on (EVC_SRC1_MASKED n) then stormCount n s1 else s1
  if levelSensed s2 n then pendLevel n t s2 else s2

/-- A write of LEVEL to EOIt (R248, R249). -/
def eoi (t level : Nat) (s : State) : State :=
  if s.on (EVC_STACK_FROZEN t) then s.inc (EVC_ORDER_INFO_DISCARDED t)
  else match (s.target t).stack with
    | [] => raiseOrder t 2 level s
    | (l, n) :: rest =>
      if l = level then completeRecord n t true (s.setTarget t { s.target t with stack := rest })
      else raiseOrder t 1 level s

/-- A write of 1 to STACK_RESETt (R250). -/
def stackReset (t : Nat) (s : State) : State :=
  let x := s.target t
  let s1 := (s.setTarget t {}).clear (EVC_STACK_FROZEN t)
  sample (528 + t) ((x.stack.map (fun e => e.2) ++ x.unpushed).foldl (fun u n => completeRecord n t false u) s1)

/-- A software clear of STUCK (R251): the source then pends at once if it is asserted. -/
def stuckCleared (n : Nat) (s : State) : State :=
  let s1 := ((s.clear (EVC_SRC1_STUCK n)).clear (EVC_SRC1_MASKED n)).set (EVC_SRC1_STORM n) 0
  if levelSensed s1 n then (List.range 5).foldl (fun u t => pendLevel n t u) s1 else s1

/-! ### Wake latches (R252, R253) -/

/-- A record of source `n` appended to target `t` and not yet taken. -/
def untaken (s : State) (n t : Nat) : Bool :=
  s.on (outBit n t) && !((s.target t).stack.any (fun e => e.2 == n)) && !((s.target t).unpushed.contains n)

/-- A source holds WAKE_PENDING high (R253). -/
def wakeHeld (s : State) (n : Nat) : Bool :=
  s.on (EVC_SRC0_WAKE n) &&
    ((s.source n).set || (s.source n).latch.isSome || s.get (EVC_SRC1_PEND n) != 0 || (List.range 5).any (fun t => untaken s n t))

/-- WAKE_STAT.WAKE_PENDING: only a source whose word 0 is listed can have WAKE = 1. -/
def wakePending (s : State) : Bool :=
  s.regs.any (fun c => match srcOfAddr c.1 with
    | some n => wakeHeld s n
    | none => false)

/-- One set latch becomes PEND for every target of TGT with its time and count (R252). For a level sense the count is 0 and a record that is
outstanding holds PEND back, as R242 has it; one released by the wake pends all the same, since its latch becomes PEND. -/
def deliverLatch (n : Nat) (l : Latch) (s : State) : State :=
  let s1 := s.setSource n { s.source n with latch := none, set := false }
  if canPend s1 n && levelSensed s1 n then (List.range 5).foldl (fun u t =>
      if !targeted u n t || u.on (outBit n t) then u
      else (u.raise (pendBit n t)).setPair n t
        { u.pair n t with coal := 0, lost := false, time := l.time, waked := true, stays := !assertedNow u n }) s1
  else if canPend s1 n then (List.range 5).foldl (fun u t =>
      if !targeted u n t then u
      else if u.on (pendBit n t) then
        let p := u.pair n t
        u.setPair n t { p with coal := satU 8 (p.coal + l.count + 1), lost := p.lost || l.lost || decide (255 < p.coal + l.count + 1),
                               waked := true }
      else (u.raise (pendBit n t)).setPair n t { u.pair n t with coal := l.count, lost := l.lost, time := l.time, waked := true }) s1
  else s1

/-- In the first BUS cycle after the clock returns every set latch is delivered (R252); one that no AON edge has taken, because TB was held,
is taken then. -/
def deliverLatches (s0 : State) : State :=
  let s := aonEdge s0
  let ls := s.sources.filterMap (fun c => c.2.latch.map (fun l => (c.1, l)))
  (ls.foldl (fun u x => deliverLatch x.1 x.2 u) s).set EVC_WAKE_STAT_DELIVERED (satU 16 ls.length)

/-! ### The table in service (R254, R369) -/

/-- Clear PEND of a source for one target. -/
def unpend (n t : Nat) (s : State) : State :=
  (s.clear (pendBit n t)).setPair n t { s.pair n t with coal := 0, lost := false, waked := false }

/-- Move PEND, the coalesce count, LOST_EDGES and the record time between targets (R369). -/
def movePend (n a b : Nat) (s : State) : State :=
  if s.on (pendBit n a) && !s.on (pendBit n b) && !s.on (outBit n b) then
    let p := s.pair n a
    let s1 := unpend n a (s.raise (pendBit n b))
    s1.setPair n b { s1.pair n b with coal := p.coal, lost := p.lost, time := p.time, waked := p.waked }
  else unpend n a s

/-- After a software write of word 0 of entry `n`, whose old value was `old` (R254): a write that clears one TGT bit and sets one moves
PEND by R369; where it clears or sets several, R369 names no pairs and R254 applies to each bit. -/
def sourceWritten (n old : Nat) (s : State) : State :=
  let new := (s.word (EVC_SRC0_LVL n).addr).toNat
  let gone := (List.range 5).filter (fun t => bit old t && !bit new t)
  let came := (List.range 5).filter (fun t => !bit old t && bit new t)
  let s2 := match gone, came with
    | [a], [b] => movePend n a b s
    | _, _ => gone.foldl (fun u t => unpend n t u) s
  let s3 := if bits old 28 3 ≠ bits new 28 3 ∨ bits new 24 4 = 0 then (List.range 5).foldl (fun u t => unpend n t u) s2 else s2
  if levelSensed s3 n && !s3.busStopped then (List.range 5).foldl (fun u t => pendLevel n t u) s3 else s3

/-! ### Resets and power (R256) -/

/-- A core's ring indices, stack and OUT bits clear at its reset, and its level sources pend again. -/
def targetReset (t : Nat) (s : State) : State :=
  let outs := s.regs.filterMap (fun c => match srcOfAddr (c.1 - 4) with
    | some n => if c.1 = (EVC_SRC1_OUT n).addr ∧ s.on (outBit n t) then some n else none
    | none => none)
  let s1 := ((s.set (EVC_RQ_IDX_COUNT t) 0).set (EVC_RQ_IDX_WR t) 0).set (EVC_RQ_IDX_RD t) 0
  let s2 := (s1.setTarget t {}).clear (EVC_STACK_FROZEN t)
  sample (528 + t) (attnEval (outs.foldl (fun u n => completeRecord n t false u) s2))

/-- Entry to DOZE: every PEND, OUT, stack and ring index clears, and the latches arm. The times of the last appends stay (R243). -/
def evcDoze (s : State) : State :=
  let ns := s.regs.filterMap (fun c => match srcOfAddr (c.1 - 4) with
    | some n => if c.1 = (EVC_SRC1_OUT n).addr then some n else none
    | none => none)
  let s1 := (List.range 5).foldl (fun u t => sample (528 + t)
    (((((u.set (EVC_RQ_IDX_COUNT t) 0).set (EVC_RQ_IDX_WR t) 0).set (EVC_RQ_IDX_RD t) 0).setTarget t {}).clear (EVC_STACK_FROZEN t))) s
  let s2 := ns.foldl (fun u n => (u.set (EVC_SRC1_OUT n) 0).set (EVC_SRC1_PEND n) 0) s1
  { s2 with pairs := s2.pairs.filterMap (fun c => if c.2.last.isSome then some (c.1, { last := c.2.last }) else none) }

/-- What a COLD, WARM or PAGE reset does to the controller's hidden state; WARM keeps the wake latches. -/
def evcReset (warm : Bool) (s : State) : State :=
  { s with pairs := [], targets := [],
           sources := if warm then s.sources.filterMap (fun c => if c.2.latch.isSome || c.2.set then some (c.1, { latch := c.2.latch, set := c.2.set }) else none) else [] }

/-! ### Commands -/

/-- `SOURCE_ASSERT`: a source's block raises it, or its present level is sampled (R242). -/
def execSourceAssert (n : Nat) (s : State) : Out := done s (if isPulse n then pulse n s else sample n s)

/-- `REARM_EXPIRE`: the instant at which the interval of R243 ends. From it on `rearmPassed` holds, which asks TB; the instant itself changes no
state, and the time of the last append stays, since a longer REARM may be written later. -/
def execRearmExpire (_n _t : Nat) (s : State) : Out := done s s

/-- `RECORD_APPEND`. -/
def execRecordAppend (t : Nat) (s : State) : Out := done s (recordAppend t s)

/-- `WAKE_LATCH`: an assertion of a WAKE source while the BUS clock is stopped sets its latch (R252). -/
def execWakeLatch (n : Nat) (s : State) : Out :=
  done s (if s.busStopped && s.on (EVC_SRC0_WAKE n) && sourcePresent s.variant n then setLatch n s else s)

end Sys2Proof.Machine
end

