-- ==== Sys2Proof/Machine/TimeBase.lean ====
section
/-!
DEFINITION. Sys2Proof/Machine/TimeBase.lean: the advance of TB:FRAC, the PPS capture and its servo, and the crystal
measurement (spec/03_clock_root_and_time_base.md, R34 to R45).
-/
namespace Sys2Proof.Machine

/-! ### The advance (R34) -/

/-- TB:FRAC plus a signed number of 2^−32 ticks, modulo 2^96. -/
def addTbf (t : Nat) (d : Int) : Nat := (((t : Int) + d) % (2 ^ 96 : Nat)).toNat

/-- The coast step: 4,000 ticks plus COAST_INC + COAST_ADJ, the sum saturated to ±0x7FFF_FFFF. -/
def coastStep (s : State) : Int :=
  let c := s.getS BELLOWS_COAST_INC_FRAC + s.getS BELLOWS_COAST_ADJ_FRAC
  4000 * 2 ^ 32 + (if c > 0x7FFFFFFF then 0x7FFFFFFF else if c < -0x7FFFFFFF then -0x7FFFFFFF else c)

/-- The reference step for a phase of the modulo-5 counter: 3 (1 + TRIM), or 4 (1 + TRIM) on the fifth cycle. -/
def refStep (s : State) (phase : Nat) : Int := (if phase = 4 then 4 else 3) * (2 ^ 32 + s.trim)

/-- One update of TB:FRAC in the present clock state, with the PLL-cycle count of R31. Held: nothing moves (R33). -/
def tbAdvance (s : State) : State :=
  match s.clksrc with
  | 0 => { s with tbf := addTbf s.tbf (2 ^ 32 + s.trim), clk := { s.clk with plc := s.clk.plc + 20, age := s.clk.age + 20, slow := some 0 } }
  | 1 => { s with tbf := addTbf s.tbf (refStep s s.clk.phase),
                  clk := { s.clk with phase := (s.clk.phase + 1) % 5, plc := s.clk.plc + 64, age := s.clk.age + 64,
                                      slow := s.clk.slow.map (fun k => k + 64) } }
  | 2 => { s with tbf := addTbf s.tbf (coastStep s), clk := { s.clk with age := s.clk.age + 80000 } }
  | _ => s

/-! ### The continuous line of TB (R126) -/

/-- Where the line stands now when no earlier point is needed: the last update. -/
def lineNow (s : State) : Anchor := { plc := s.clk.plc, tbf20 := 20 * (s.tbf : Int), rate := 2 ^ 32 + s.trim }

/-- The point of the line that a PLL-cycle number `t` starts from: the newest at or before it. -/
def anchorFor (s : State) (t : Int) : Anchor :=
  match s.anchors.find? (fun a => decide (a.plc ≤ t)) with
  | some a => a
  | none => s.anchors.getLast?.getD (lineNow s)

/-- 20 × TB:FRAC on the line at PLL cycle `t` after the divider release, in 2^−32 ticks. -/
def line20 (s : State) (t : Int) : Int :=
  let a := anchorFor s t
  a.tbf20 + (t - a.plc) * a.rate

/-- A new point at the present instant, `tbf20` being 20 × the line's value there; the four newest points are kept. -/
def pushAnchor (tbf20 : Int) (rate : Int) (s : State) : State :=
  { s with anchors := ({ plc := s.clk.plc, tbf20 := tbf20, rate := rate } :: s.anchors).take 4 }

/-- A change of TRIM: in the PLL state the line passes through the last update; in the reference and coast states it
continues from the value it has reached. -/
def setTrim (i : Int) (s : State) : State :=
  let here := if s.clksrc = 0 then 20 * (s.tbf : Int) else line20 s s.clk.plc
  let s0 := if s.anchors.isEmpty then pushAnchor here (2 ^ 32 + s.trim) s else s
  pushAnchor here (2 ^ 32 + i) (s0.setS TB_TRIM_TRIM i)

/-! ### LOCKED (R43) -/

/-- LOCKED sets and source 611 is raised. -/
def tbLock (s : State) : State := if s.on TB_STAT_LOCKED then s else pulse 611 (s.raise TB_STAT_LOCKED)

/-- LOCKED clears and source 612 is raised. The good captures counted so far stay counted: R43 does not say that they start anew (DESIGN CHOICE,
log entry 15). -/
def tbUnlock (s : State) : State := if s.on TB_STAT_LOCKED then pulse 612 (s.clear TB_STAT_LOCKED) else s

/-- TRIM within the range of R35. -/
def clampTrim (i : Int) : Int := if i > 858993 then 858993 else if i < -858993 then -858993 else i

/-! ### PPS (R39 to R43) -/

/-- EXP. -/
def ppsExp (s : State) : Nat := s.get TB_PPS_EXP_LO_TB + s.get TB_PPS_EXP_HI_TB * 2 ^ 32
def setPpsExp (v : Nat) (s : State) : State := (s.set TB_PPS_EXP_LO_TB v).set TB_PPS_EXP_HI_TB (v / 2 ^ 32)
/-- EXP plus a signed number of ticks, modulo 2^64. -/
def addExp (d : Int) (s : State) : State := setPpsExp (ux 64 ((ppsExp s : Int) + d)) s

/-- The whole number of seconds that brings EXP nearest a capture at signed distance `d`; at a distance of an odd number of
half seconds the manual names neither neighbour, and a draw takes one (DESIGN CHOICE, log entry 6). -/
def nearestSecond (d : Int) (s : State) : Int × State :=
  if (d + 65536000) % 131072000 = 0 then
    let (v, s1) := s.draw
    ((d + 65536000) / 131072000 - (v % 2 : Nat), s1)
  else ((d + 65536000) / 131072000, s)

/-- The error of a capture against EXP, with EXP loaded or realigned first (R40). -/
def ppsError (cap : Nat) (s : State) : Int × State :=
  if !s.on TB_PPS_STAT_EXP_VALID then (0, (setPpsExp cap s).raise TB_PPS_STAT_EXP_VALID)
  else
    let d := sx 64 (ux 64 ((cap : Int) - ppsExp s))
    let s1 := if d > 65536000 ∨ d < -65536000 then
        let (k, s') := nearestSecond d s
        addExp (k * 131072000) s'
      else s
    (satS 32 (sx 64 (ux 64 ((cap : Int) - ppsExp s1))), s1)

/-- The servo of R42. -/
def servo (e : Int) (s : State) : State :=
  let i := satS 32 (s.getS TB_SERVO_INT_INT + s.get TB_SERVO_GAIN_KI * e)
  let u := -(s.get TB_SERVO_GAIN_KP * e + i)
  if u > 858993 ∨ u < -858993 then pulse 615 (setTrim (clampTrim u) s)
  else setTrim u (s.setS TB_SERVO_INT_INT i)

/-- The lock counters of R43 at a capture with error `e`, outliers counting as captures (DESIGN CHOICE, log entry 15). -/
def lockCount (e : Int) (s : State) : State :=
  if e.natAbs ≤ s.get TB_SERVO_GAIN_LOCK_THR then
    let w := s.timeBase.within + 1
    let s1 := { s with timeBase := { s.timeBase with within := w, beyond := 0 } }
    if max 1 (s.get TB_SERVO_GAIN_LOCK_CNT) ≤ w then tbLock s1 else s1
  else
    let b := s.timeBase.beyond + 1
    let s1 := { s with timeBase := { s.timeBase with within := 0, beyond := b } }
    if 3 ≤ b then tbUnlock s1 else s1

/-- R38's test of an edge: of the polarity of PPS_EDGE, its new level held for MIN_WIDTH samples (0 acts as 1), and first seen at an update
that has been. PPS_IN is not sampled while TB coasts. -/
def ppsAccepted (edge : PpsEdge) (s : State) : Bool :=
  !s.busStopped && edge.falling == s.on TB_DISC_CTRL_PPS_EDGE && decide (max 1 (s.get TB_PPS_CFG_MIN_WIDTH) ≤ edge.held) && decide (edge.cap ≤ s.tb)

/-- An edge of PPS_IN: ignored, or a capture (R38 to R43). -/
def ppsCapture (edge : PpsEdge) (s : State) : State :=
  if !ppsAccepted edge s then s
  else
    let cap := edge.cap
    let s1 := if s.on TB_PPS_STAT_FULL then pulse 616 (s.raise TB_PPS_STAT_OVERRUN) else s
    let s2 := ((s1.set TB_PPS_CAP_LO_TB cap).set TB_PPS_CAP_HI_TB (cap / 2 ^ 32)).raise TB_PPS_STAT_FULL
    let s3 := (s2.clear TB_STAT_HOLDOVER).set TB_PPS_STAT_MISSES 0
    let (e, s4) := ppsError cap s3
    let s5 := s4.setS TB_PPS_ERR_ERR e
    let outlier := s5.on TB_STAT_LOCKED && !s5.timeBase.afterCoast && decide (s5.get TB_PPS_CFG_WINDOW < e.natAbs)
    let s6 := { s5 with timeBase := { s5.timeBase with afterCoast := false } }
    let s7 := if outlier then pulse 610 (s6.raise TB_PPS_STAT_OUTLIER)
      else if s6.get TB_DISC_CTRL_SRC = 1 ∧ s6.on TB_DISC_CTRL_SERVO_EN then servo e s6 else s6
    pulse 608 (addExp 131072000 (lockCount e s7))

/-- HOLDOVER (R40, R43); only PPS discipline lets it steer TRIM. -/
def holdover (s : State) : State :=
  if s.on TB_STAT_HOLDOVER then s
  else
    let s1 := tbUnlock (pulse 613 (s.raise TB_STAT_HOLDOVER))
    if s1.get TB_DISC_CTRL_SRC = 1 then setTrim (clampTrim (-(s1.getS TB_SERVO_INT_INT))) s1 else s1

/-- No edge accepted by EXP + WINDOW (R40); suspended while TB coasts (R41). -/
def ppsMissing (s : State) : State :=
  if s.busStopped || !s.on TB_PPS_STAT_EXP_VALID || decide (s.tb < ppsExp s + s.get TB_PPS_CFG_WINDOW) then s
  else
    let s1 := addExp 131072000 (pulse 609 (s.inc TB_PPS_STAT_MISSES))
    if max 1 (s1.get TB_PPS_CFG_MISS_LIMIT) ≤ s1.get TB_PPS_STAT_MISSES then holdover s1 else s1

/-- The first TB update of the reference state after a coast (R41). -/
def ppsAfterCoast (s : State) : State :=
  let s1 := { s.set TB_PPS_STAT_MISSES 0 with timeBase := { s.timeBase with afterCoast := true } }
  if s1.on TB_PPS_STAT_EXP_VALID then
    let lim := ppsExp s1 + s1.get TB_PPS_CFG_WINDOW
    addExp (131072000 * (if lim ≤ s1.tb then (s1.tb - lim) / 131072000 + 1 else 0 : Nat)) s1
  else s1

/-! ### The crystal measurement (R44) -/

/-- n of COAST_CFG: 6 and 7 act as 5. -/
def measLog2 (s : State) : Nat := min 5 (s.get BELLOWS_COAST_CFG_MEAS_LOG2)

/-- The end of a window: a window in which the clock state changed is discarded. A COAST_INC outside its 32 bits is stated by
no rule, and a draw takes its place (DESIGN CHOICE, log entry 6). -/
def xtalMeas (s : State) : State :=
  let next (u : State) : State := { u with clk := { u.clk with winStart := u.tb, winBad := false } }
  if s.busStopped then s
  else if s.clk.winBad then next s
  else
    let m : Nat := (s.tb + 2 ^ 64 - s.clk.winStart) % 2 ^ 64 % 2 ^ 32
    let inc : Int := (m : Int) * 2 ^ (17 - measLog2 s) - 4000 * 2 ^ 32
    let s1 := s.set BELLOWS_XTAL_MEAS_MEAS m
    if satS 32 inc = inc then next (s1.setS BELLOWS_COAST_INC_FRAC inc)
    else
      let (v, s2) := s1.draw
      next (s2.set BELLOWS_COAST_INC_FRAC v)

/-! ### Commands -/

/-- `PPS_CAPTURE`: an edge whose new level has held for `held` samples, the first at TB = `cap` (R38). -/
def execPpsCapture (edge : PpsEdge) (s : State) : Out := done s (ppsCapture edge s)

/-- `PPS_MISSING`. -/
def execPpsMissing (s : State) : Out := done s (ppsMissing s)

/-- `XTAL_MEAS`. -/
def execXtalMeas (s : State) : Out := done s (xtalMeas s)

end Sys2Proof.Machine
end

