-- ==== Sys2Proof/Machine/HardyFeatures.lean ====
section
/-!
DEFINITION. Sys2Proof/Machine/HardyFeatures.lean: the feature slots (spec/11_hardy_features.md, R187 to R202) and the
evaluation points they give (spec/12_hardy_rules.md, R205, R209).
-/
namespace Sys2Proof.Machine

def State.slot (s : State) (n : Nat) : Slot := SMap.get (fun _ => {}) s.slots n
def State.setSlot (s : State) (n : Nat) (x : Slot) : State := { s with slots := SMap.put (fun _ => {}) s.slots n x }

/-- Hardy's two pages: features and rules. -/
def hfPage : Nat := 0x3C
def hkPage : Nat := 0x3D

/-- A slot fault: PG_FAULT and, while armed, LAST_FAULT. -/
def slotFault (kind n : Nat) (s : State) : State :=
  let s1 := s.fault hfPage kind
  if s1.on HARDYF_LAST_FAULT_VALID then s1
  else ((s1.raise HARDYF_LAST_FAULT_VALID).set HARDYF_LAST_FAULT_KIND kind).set HARDYF_LAST_FAULT_SLOT n

/-! ### Restart (R194) -/

/-- A restart discards the sub-windows, the history, the recorded pair and the machine states, and sets SUBS to 0. The mark of an update that was
dropped while no sub-window was open stays for the next one (R193). -/
def slotRestart (n : Nat) (s : State) : State :=
  ((s.setSlot n { flagNext := (s.slot n).flagNext }).clear (HARDYF_SLOT12_CONFLICT n)).set (HARDYF_SLOT12_SUBS n) 0

/-! ### Configuration (R190) -/

/-- The check of words 0 to 2 of an entry. -/
def slotConfigOk (w0 w1 w2 : Nat) : Bool :=
  let bad (c : Nat) : Bool := decide (12 ≤ c)
  !(bad (bits w2 24 4) || bad (bits w2 16 4) || bad (bits w2 8 4) || bad (bits w2 0 4))
  && (if bit w0 30 then w1 != 0 else (bits w0 0 16 + 1) % 2 ^ bits w0 28 2 == 0)

/-- NSUB. -/
def nsub (s : State) (n : Nat) : Nat := 2 ^ s.get (HARDYF_SLOT0_NSUB_LOG2 n)
/-- Q: included updates (R191) or ticks (R192) of a sub-window. -/
def slotQ (s : State) (n : Nat) : Nat :=
  if s.on (HARDYF_SLOT0_WMODE n) then s.get (HARDYF_SLOT1_SPAN n) * 1024 / nsub s n
  else (s.get (HARDYF_SLOT0_LEN_M1 n) + 1) / nsub s n

/-- The feature code of RESULTi. -/
def featCode (s : State) (n i : Nat) : Nat := s.get ⟨(HARDYF_SLOT2_FEAT0 n).addr, 8 * i, 4⟩
/-- RESULTi and its NODATA bit. -/
def resultFld (n i : Nat) : Fld := ⟨(HARDYF_SLOT8_RESULT0 n).addr + 4 * i, 0, 32⟩
def nodataFld (n i : Nat) : Fld := ⟨(HARDYF_SLOT12_NODATA n).addr, 24 + i, 1⟩

/-! ### Features (R195 to R198) -/

/-- Combine two sub-windows exactly. -/
def SubWin.join (a b : SubWin) : SubWin :=
  { n := a.n + b.n, s1 := a.s1 + b.s1, s2 := a.s2 + b.s2,
    lo := if a.n = 0 then b.lo else if b.n = 0 then a.lo else min a.lo b.lo,
    hi := if a.n = 0 then b.hi else if b.n = 0 then a.hi else max a.hi b.hi,
    xUp := a.xUp + b.xUp, xDown := a.xDown + b.xDown, zUp := a.zUp + b.zUp,
    zFirst := if a.zUp = 0 then b.zFirst else if b.zUp = 0 then a.zFirst else min a.zFirst b.zFirst,
    zLast := if a.zUp = 0 then b.zLast else if b.zUp = 0 then a.zLast else max a.zLast b.zLast,
    above := a.above + b.above, tot := a.tot + b.tot, flagged := a.flagged || b.flagged }

/-- MEAN, rounded half up. -/
def SubWin.mean (w : SubWin) : Int := (2 * w.s1 + w.n) / (2 * w.n)

/-- VAR before saturation. -/
def SubWin.var (w : SubWin) (vshift : Nat) : Nat :=
  ((2 * ((w.n : Int) * w.s2 - w.s1 * w.s1) + w.n * w.n * 2 ^ vshift) / (2 * (w.n : Int) * w.n * 2 ^ vshift)).toNat

/-- Time units: 1,024 ticks when TUNIT = 1. -/
def tunit (s : State) (n : Nat) (t : Nat) : Nat := if s.on (HARDYF_SLOT0_TUNIT n) then t / 1024 else t

/-- A window feature's result with its NODATA bit (R195); DIFF and NONE are not window features. -/
def windowFeature (s : State) (n code : Nat) (w : SubWin) : Nat × Bool :=
  let sat (v : Nat) : Nat × Bool := if v < 2 ^ 32 then (v, false) else (2 ^ 32 - 1, true)
  if code = 0 then (0, false)
  else if w.n = 0 then (0, true)
  else match code with
    | 1 => (ux 32 w.lo, false)
    | 2 => (ux 32 w.hi, false)
    | 3 => (ux 32 w.mean, false)
    | 4 => sat (w.var (s.get (HARDYF_SLOT6_VSHIFT n)))
    | 5 => ((w.hi - w.lo).toNat, false)
    | 6 => ((match s.get (HARDYF_SLOT0_XEDGE n) with
        | 1 => w.xUp
        | 2 => w.xDown
        | _ => w.xUp + w.xDown), false)
    | 7 => (w.zUp, false)
    | 8 => if w.zUp < 2 then (0, true) else sat (tunit s n ((w.zLast - w.zFirst) / ((w.zUp : Int) - 1)).toNat)
    | 10 => (w.above, false)
    | 11 => if w.tot < 0 then ((Config.negativeTot w.tot).toNat, false) else sat (tunit s n w.tot.toNat)
    | _ => (0, false)

/-- Level of machine Z (R196). -/
def zLevel (s : State) (n : Nat) (x : Slot) : Int :=
  if s.on (HARDYF_SLOT0_ZREF n) then x.zMean.getD (s.getS (HARDYF_SLOT3_LEVEL n)) else s.getS (HARDYF_SLOT3_LEVEL n)

/-! ### Points (R205, R209) -/

/-- A point enters the FIFO of 256, or is dropped. -/
def pushPoint (p : Point) (s : State) : State :=
  if !s.enabled hkPage then s
  else if 256 ≤ s.points.length then (s.inc HARDYK_LOST_POINTS).fault hkPage 0
  else { s with points := s.points ++ [p] }

/-- The slot holds a DIFF result, so that its updates give points. -/
def hasDiff (s : State) (n : Nat) : Bool := (List.range 4).any (fun i => featCode s n i == 9)
/-- The DIFF result of a slot as it stands, with its NODATA bit. -/
def diffResult (s : State) (n : Nat) : Option (Nat × Bool) :=
  ((List.range 4).find? (fun i => featCode s n i == 9)).map (fun i => (s.get (resultFld n i), s.on (nodataFld n i)))

/-! ### Publication (R199) -/

/-- Close sub-window `w` and `gap` empty ones behind it. -/
def Slot.close (x : Slot) (nsub gap : Nat) (w : SubWin) : Slot :=
  { x with cur := none, closed := (List.replicate (min gap nsub) ({} : SubWin) ++ w :: x.closed).take nsub, subs := min 8 (x.subs + 1 + gap) }

/-- Publish the window of the NSUB most recent closed sub-windows; `wend` is its end. -/
def publishSlot (n wend : Nat) (s : State) : State :=
  let x := s.slot n
  let m := nsub s n
  let w := x.closed.foldl SubWin.join {}
  let put (s : State) (i : Nat) : State :=
    if featCode s n i = 9 then s
    else
      let (v, nd) := windowFeature s n (featCode s n i) w
      (s.set (resultFld n i) v).set (nodataFld n i) (b2n nd)
  let s1 := (List.range 4).foldl put s
  let full := decide (m ≤ x.subs)
  let s2 := (((s1.set (HARDYF_SLOT12_FULL n) (b2n full)).set (HARDYF_SLOT12_FLAGGED n) (b2n w.flagged)).incWrap
    (HARDYF_SLOT12_PUB_SEQ n)).set (HARDYF_SLOT12_SUBS n) (min m x.subs)
  let s3 := ((s2.set (HARDYF_SLOT13_N n) w.n).set (HARDYF_SLOT14_WEND_LO n) wend).set (HARDYF_SLOT15_WEND_HI n) (wend / 2 ^ 32)
  let x1 := { x with published := true }
  if full then
    let x2 := { x1 with zMean := some w.mean }
    s3.setSlot n (if s.on (HARDYF_SLOT0_ZREF n) && zLevel s n x != w.mean then { x2 with pair := none } else x2)
  else s3.setSlot n x1

/-! ### One included update (R193 to R198) -/

/-- A hysteresis machine (R196): its next state, and whether it made an upward or a downward transition. -/
def machineStep (st : Option Bool) (x l h : Int) : Option Bool × Bool × Bool :=
  match st with
  | none => (some (decide (l ≤ x)), false, false)
  | some false => if l + h < x then (some true, true, false) else (st, false, false)
  | some true => if x < l - h then (some false, false, true) else (st, false, false)

/-- The upcrossing instant (R197). -/
def upcrossing (pair : Option (Nat × Int × Nat × Int)) (l : Int) (stamp : Nat) : Int :=
  match pair with
  | some (sa, xa, sb, xb) => sa + ((sb : Int) - sa) * (l - xa) / (xb - xa)
  | none => stamp

/-- DIFF is written at each included update (R199). -/
def writeDiff (n : Nat) (d : Int) (nodata : Bool) (s : State) : State :=
  (List.range 4).foldl (fun s i =>
    if featCode s n i = 9 then (s.set (resultFld n i) (ux 32 d)).set (nodataFld n i) (b2n nodata) else s) s

/-- Add an included update to the open sub-window. -/
def includeUpdate (n : Nat) (u : Update) (s : State) : State :=
  let x := s.slot n
  let (w, k) := x.cur.getD ({}, u.stamp)
  let thr := s.getS (HARDYF_SLOT4_THRESH n)
  let h : Int := s.get (HARDYF_SLOT5_HYST n)
  let lz := zLevel s n x
  let (xs, xu, xd) := machineStep x.xHigh u.v (s.getS (HARDYF_SLOT3_LEVEL n)) h
  let pair := match x.prev with
    | some (p, t) => if p ≤ lz ∧ lz < u.v then some (t, p, u.stamp, u.v) else x.pair
    | none => x.pair
  let (zs, zu, _) := machineStep x.zHigh u.v lz h
  let t := upcrossing pair lz u.stamp
  let add : SubWin :=
    { n := 1, s1 := u.v, s2 := (u.v * u.v).toNat, lo := u.v, hi := u.v, xUp := b2n xu, xDown := b2n xd, zUp := b2n zu,
      zFirst := t, zLast := t, above := b2n (decide (thr < u.v)),
      tot := match x.prev with
        | some (p, t0) => if thr < p then (u.stamp : Int) - t0 else 0
        | none => 0,
      flagged := bit u.flags 5 || bit u.flags 4 }
  let d : Int := match x.prev with
    | some (p, _) => satS 32 (u.v - p)
    | none => 0
  writeDiff n d x.prev.isNone
    (s.setSlot n { x with cur := some (w.join add, k), prev := some (u.v, u.stamp), xHigh := xs, zHigh := zs, pair := pair })

/-- Open a sub-window, flagged if an update was dropped while none was open. -/
def openSub (n k : Nat) (s : State) : State :=
  let x := s.slot n
  s.setSlot n { x with cur := some ({ flagged := x.flagNext }, k), flagNext := false }

/-- The update is excluded by its flags (R193). -/
def excluded (s : State) (n flags : Nat) : Bool :=
  let e := s.get (HARDYF_SLOT0_EXCL n)
  (bit e 3 && bit flags 6) || (bit e 2 && bit flags 5) || (bit e 1 && bit flags 4) || (bit e 0 && bit flags 7)

/-- An update in a sample-count window (R191). -/
def countWindow (n : Nat) (u : Update) (inc : Bool) (s : State) : State :=
  if !inc then s
  else
    let s1 := if (s.slot n).cur.isNone then openSub n u.stamp s else s
    let s2 := includeUpdate n u s1
    match (s2.slot n).cur with
    | some (w, _) =>
      if slotQ s2 n ≤ w.n then
        pushPoint { slot := n, kind := .both, te := u.stamp }
          (publishSlot n u.stamp (s2.setSlot n ((s2.slot n).close (nsub s2 n) 0 w)))
      else if hasDiff s2 n then pushPoint { slot := n, kind := .update, te := u.stamp } s2 else s2
    | none => s2

/-- An update in a time window (R192, R205). -/
def timeWindow (n : Nat) (u : Update) (inc : Bool) (s : State) : State :=
  let q := max 1 (slotQ s n)
  let k := u.stamp / q
  let s1 := match (s.slot n).cur with
    | none => openSub n k s
    | some (w, k0) =>
      if k0 < k then
        let s' := publishSlot n (k * q) (s.setSlot n ((s.slot n).close (nsub s n) (k - k0 - 1) w))
        openSub n k (pushPoint { slot := n, kind := .publication, te := k * q, diff := diffResult s' n } s')
      else s
  if inc then
    let s2 := includeUpdate n u s1
    if hasDiff s2 n then pushPoint { slot := n, kind := .update, te := u.stamp } s2 else s2
  else s1

/-! ### Attachment (R189) -/

/-- The channel's descriptor names the slot. -/
def stillNames (s : State) (c n : Nat) : Bool :=
  decide (s.get (SCHED_CH5_HSLOT c) ≤ n) && decide (n < s.get (SCHED_CH5_HSLOT c) + s.get (SCHED_CH5_HCOUNT c))

/-- The stamp precedes the start of the open sub-window (R194). -/
def precedes (s : State) (n stamp : Nat) : Bool :=
  match (s.slot n).cur with
  | some (_, k) => if s.on (HARDYF_SLOT0_WMODE n) then decide (stamp < k * slotQ s n) else decide (stamp < k)
  | none => false

/-- An update of a slot whose attachment is settled. -/
def slotUpdate (n : Nat) (u : Update) (reattach : Bool) (s : State) : State :=
  let s1 := if reattach || u.sync || (s.slot n).restartNext || precedes s n u.stamp then slotRestart n s else s
  let s2 := (s1.raise (HARDYF_SLOT12_ATTACHED n)).set (HARDYF_SLOT12_CHANNEL n) u.chan
  let x := s2.slot n
  let s3 := if x.machinesNext
    then s2.setSlot n { x with xHigh := none, zHigh := none, pair := none, machinesNext := false } else s2
  let inc := !excluded s3 n u.flags
  if s3.on (HARDYF_SLOT0_WMODE n) then timeWindow n u inc s3 else countWindow n u inc s3

/-- One update reaches its slot (R188, R189, R201, R202). -/
def hardyUpdate (u : Update) (s : State) : State :=
  let n := u.slot
  let s1 :=
    if !s.runs hfPage || !s.on (HARDYF_SLOT0_EN n) then s
    else if s.on (HARDYF_SLOT12_ATTACHED n) && s.get (HARDYF_SLOT12_CHANNEL n) != u.chan then
      if stillNames s (s.get (HARDYF_SLOT12_CHANNEL n)) n
      then slotFault 1 n (s.raise (HARDYF_SLOT12_CONFLICT n))
      else slotUpdate n u true s
    else slotUpdate n u false s
  if u.stop then slotRestart n s1 else s1

/-! ### From the output stage (R187, R188) -/

/-- An update that finds its FIFO full (R188); the restart that comes with the first output after a SYNC waits for the slot's next update
(R194). -/
def updateLost (n : Nat) (sync : Bool) (s : State) : State :=
  let x := s.slot n
  let y := { x with restartNext := x.restartNext || sync }
  let s1 := s.setSlot n (match x.cur with
    | some (w, k) => { y with cur := some ({ w with flagged := true }, k) }
    | none => { y with flagNext := true })
  slotFault 0 n (s1.inc HARDYF_LOST_COUNT)

/-- Offer an update to its lane's FIFO. Updates for a disabled slot or page are ignored (R201, R202). -/
def offerUpdate (u : Update) (s : State) : State :=
  if !s.runs hfPage || decide (512 ≤ u.slot) || !s.on (HARDYF_SLOT0_EN u.slot) then s
  else if u.slot % 2 = 0 then
    (if 64 ≤ s.lane0.length then updateLost u.slot u.sync s else { s with lane0 := s.lane0 ++ [u] })
  else (if 64 ≤ s.lane1.length then updateLost u.slot u.sync s else { s with lane1 := s.lane1 ++ [u] })

/-- Mark the last queued update of a slot and channel, if there is one. -/
def markStop (n c : Nat) : List Update → Option (List Update)
  | [] => none
  | u :: r => match markStop n c r with
    | some r' => some (u :: r')
    | none => if u.slot = n ∧ u.chan = c then some ({ u with stop := true } :: r) else none

/-- A slot restarts when its channel stops, behind the updates already queued (R194). -/
def slotStop (n c : Nat) (s : State) : State :=
  match markStop n c (if n % 2 = 0 then s.lane0 else s.lane1) with
  | some l => if n % 2 = 0 then { s with lane0 := l } else { s with lane1 := l }
  | none => slotRestart n s

/-- The slots whose status words hold anything. -/
def slotsTouched (s : State) : List Nat :=
  ((List.range 512).map (fun n => (n, (HARDYF_SLOT12_ATTACHED n).addr))).filterMap (fun p => if s.regs.any (fun r => r.1 == p.2) then some p.1 else none)

/-- The slots attached to a channel restart when it stops, is shed or stops for WATCH, whether or not its descriptor still names them. -/
def slotsStop (c : Nat) (s : State) : State :=
  if hasHardy s.variant then
    (slotsTouched s).foldl (fun s n =>
      if s.on (HARDYF_SLOT12_ATTACHED n) && s.get (HARDYF_SLOT12_CHANNEL n) == c then slotStop n c s else s) s
  else s

/-! ### Writes to a slot (R190, R201) -/

/-- After a software write of word `i` of slot `n` whose words 0 to 2 were `o0 o1 o2`. -/
def slotWritten (n i o0 o1 o2 : Nat) (s : State) : State :=
  let w (j : Nat) : Nat := (s.word ((HARDYF_SLOT0_EN n).addr + 4 * j)).toNat
  let ok := slotConfigOk (w 0) (w 1) (w 2)
  let refuse (s : State) : State := slotFault 2 n (s.raise (HARDYF_SLOT12_REFUSED n))
  if !bit (w 0) 31 then s
  else if !bit o0 31 then
    let s0 := s.clear (HARDYF_SLOT12_ATTACHED n)
    if ok then slotRestart n (s0.clear (HARDYF_SLOT12_REFUSED n)) else refuse (s0.clear (HARDYF_SLOT0_EN n))
  else if i ≤ 2 then
    if !ok then
      refuse (((s.setWord (HARDYF_SLOT0_EN n).addr (w32 o0)).setWord (HARDYF_SLOT1_SPAN n).addr (w32 o1)).setWord
        (HARDYF_SLOT2_FEAT0 n).addr (w32 o2))
    else s.setSlot n { s.slot n with restartNext := true }
  else if i = 3 ∨ i = 5 then s.setSlot n { s.slot n with machinesNext := true }
  else s

/-- ENABLE returns to 1, the wake from DOZE, or a COLD or WARM reset: every slot restarts (R202). -/
def slotsRestart (s : State) : State :=
  (s.slots.map (fun c => c.1) ++ slotsTouched s).foldl (fun s n => slotRestart n s) { s with lane0 := [], lane1 := [] }

/-- A PAGE reset of HARDY_F, and COLD and WARM resets: hidden slot state goes. -/
def hardyFReset (s : State) : State := { s with slots := [], lane0 := [], lane1 := [] }

/-! ### Command -/

/-- `HARDY_UPDATE`: a lane takes the oldest update of its FIFO; in DOZE Hardy is off (R202). -/
def execHardyUpdate (lane : Nat) (s : State) : Out :=
  done s (if s.busStopped then s else match (if lane % 2 = 0 then s.lane0 else s.lane1) with
    | [] => s
    | u :: r => hardyUpdate u (if lane % 2 = 0 then { s with lane0 := r } else { s with lane1 := r }))

end Sys2Proof.Machine
end

