-- ==== Sys2Proof/Machine/AnvilFilter.lean ====
section
/-!
DEFINITION. Sys2Proof/Machine/AnvilFilter.lean: the arithmetic of Anvil (spec/07_anvil_engine.md, R106 to R114, R119) and of
its stamps (spec/08_anvil_delay_and_alignment.md, R125 to R133).
-/
namespace Sys2Proof.Machine

/-! ### Descriptors -/

/-- The settings of words 0 to 7 of a descriptor (R116). -/
structure Cfg where
  en : Bool
  watch : Bool
  slice : Nat
  prio : Nat
  srcType : Nat
  srcNum : Nat
  suppress : Bool
  lockin : Bool
  lockinPg : Nat
  cicEn : Bool
  order : Nat
  ratio : Nat
  shifts : List Nat
  firEn : Bool
  bank : Nat
  dec : Nat
  format : Nat
  shift16 : Nat
  delay : Nat
  ptrim : Nat
  cmp : Nat
  hslot : Nat
  hcount : Nat
  queue : Nat
  lane : Nat
  batch : Nat
  minInterval : Nat

/-- Read the settings from the eight words; SRC_TYPE 6 to 15 act as 0, FORMAT 3 acts as 0, SLICE 3 acts as 0. -/
def cfgOf (w : Nat → Nat) : Cfg :=
  { en := bit (w 0) 31, watch := bit (w 0) 30, slice := bits (w 0) 28 2 % 3, prio := bits (w 0) 24 4,
    srcType := if 6 ≤ bits (w 0) 20 4 then 0 else bits (w 0) 20 4, srcNum := bits (w 0) 8 8, suppress := bit (w 0) 5,
    lockin := bit (w 0) 4, lockinPg := bits (w 0) 0 4, cicEn := bit (w 1) 31, order := bits (w 1) 28 3,
    ratio := bits (w 1) 0 16 + 1,
    shifts := (List.range 6).map (fun i => bits (w 2) (5 * i) 5) ++ (List.range 4).map (fun i => bits (w 3) (5 * i) 5),
    firEn := bit (w 4) 31, bank := bits (w 4) 24 4, dec := bits (w 4) 20 4 + 1, format := bits (w 4) 18 2 % 3,
    shift16 := bits (w 4) 14 4, delay := bits (w 4) 0 12, ptrim := bits (w 5) 26 6, cmp := bits (w 5) 18 6,
    hslot := bits (w 5) 8 9, hcount := bits (w 5) 5 3, queue := bits (w 6) 23 9, lane := bits (w 6) 21 2,
    batch := bits (w 6) 13 8, minInterval := w 7 }

/-- The address of word `i` of channel `c`'s descriptor. -/
def descAddr (c i : Nat) : Nat := (SCHED_CH0_EN c).addr + 4 * i
/-- The address of word `i` of channel `c`'s standby descriptor. -/
def standbyAddr (c i : Nat) : Nat := (SCHED_SB0_EN c).addr + 4 * i
def chCfg (s : State) (c : Nat) : Cfg := cfgOf (fun i => (s.word (descAddr c i)).toNat)
def standbyCfg (s : State) (c : Nat) : Cfg := cfgOf (fun i => (s.word (standbyAddr c i)).toNat)

/-- The source that a descriptor names, as type and number; HK names its channel itself. -/
def Cfg.src (g : Cfg) : Nat × Nat := (g.srcType, if g.srcType = 5 then 0 else g.srcNum)

/-- One-bit sources: AIN and PDM. -/
def Cfg.oneBit (g : Cfg) : Bool := g.srcType == 1 || g.srcType == 2
/-- D, 1 without a FIR. -/
def Cfg.d (g : Cfg) : Nat := if g.firEn then g.dec else 1
/-- R, 1 without a CIC. -/
def Cfg.r (g : Cfg) : Nat := if g.cicEn then g.ratio else 1
/-- N, 0 without a CIC. -/
def Cfg.n (g : Cfg) : Nat := if g.cicEn then g.order else 0

/-! ### Banks (R111) -/

/-- T of a bank: values above 128 act as 128. -/
def bankTaps (s : State) (b : Nat) : Nat := min 128 (s.get (COEF_TAPS_TAPS b))
/-- h[0] to h[T − 1]. -/
def bankCoefs (s : State) (b : Nat) : List Int := (List.range (bankTaps s b)).map (fun i => s.getS (COEF_COEF_COEF (b * 128 + i)))
/-- S_b. -/
def bankSum (s : State) (b : Nat) : Int := (bankCoefs s b).sum

/-! ### The CIC (R108 to R110) -/

/-- B_max. -/
def Cfg.bMax (g : Cfg) : Nat := Nat.log2 (g.ratio ^ g.order) + (if g.oneBit then 2 else 33)
/-- C, the sum of all 2N shifts. -/
def Cfg.shiftSum (g : Cfg) : Nat := (g.shifts.take (2 * g.order)).sum
/-- A. -/
def Cfg.align (g : Cfg) : Nat := g.bMax - g.shiftSum - 32

/-- Two's complement modulo 2^56. -/
def wrap56 (i : Int) : Int := sx 56 (ux 56 i)

/-- One sample through the integrators, each with its shift. -/
def integrate : List Nat → List Int → Int → List Int
  | sh :: ss, y :: ys, x =>
    let y' := wrap56 (y + rshFloor x sh)
    y' :: integrate ss ys y'
  | _, _, _ => []

/-- One pass of the combs: the new d values and the last output. -/
def combs : List Nat → List Int → Int → List Int × Int
  | sh :: ss, d :: ds, x =>
    let v := rshFloor x sh
    let (rest, out) := combs ss ds (wrap56 (v - d))
    (v :: rest, out)
  | _, _, x => ([], x)

/-- Join of window flags. -/
def WinFlags.or (a b : WinFlags) : WinFlags :=
  { clip := a.clip || b.clip, poison := a.poison || b.poison, early := a.early || b.early, gap := a.gap || b.gap }

/-- z enters the FIR delay line, or is the filter output; whether an output is ready. -/
def Filter.pushZ (g : Cfg) (f : Filter) (z : Int) (fl : WinFlags) : Filter × Bool :=
  if g.firEn then
    let f1 := { f with fir := ((z, fl) :: f.fir).take 128 }
    if f.nZ + 1 < g.dec then ({ f1 with nZ := f.nZ + 1 }, false) else ({ f1 with nZ := 0 }, true)
  else ({ f with fir := ((z, fl) :: f.fir).take 128 }, true)

/-- The flags of the N (R − 1) + 1 newest inputs, the window of a CIC output. -/
def Filter.window (f : Filter) (g : Cfg) : WinFlags :=
  let within (k : Nat) : Bool := k != 0 && decide (f.count ≤ k + g.order * (g.ratio - 1))
  { clip := within f.clipAt, poison := within f.poisonAt, early := within f.earlyAt, gap := within f.gapAt }

/-- One input, already multiplied by its signs, through the filter: the integrators, the combs at a decimation point, and the
FIR delay line (R108, R110, R111). -/
def Filter.step (g : Cfg) (f : Filter) (it : Item) : Filter × Bool :=
  let f0 := { f with count := f.count + 1, first := if f.count = 0 then it.stamp else f.first, last := it.stamp }
  if !g.cicEn then { f0 with earlyAt := if it.flags.early then f0.count else f0.earlyAt }.pushZ g it.x it.flags
  else
    let y := integrate (g.shifts.take g.order) (f0.y.take g.order) it.x
    let f1 := { f0 with y := y ++ f0.y.drop g.order, clipAt := if it.flags.clip then f0.count else f0.clipAt,
                        poisonAt := if it.flags.poison then f0.count else f0.poisonAt,
                        earlyAt := if it.flags.early then f0.count else f0.earlyAt,
                        gapAt := if it.flags.gap then f0.count else f0.gapAt }
    if f1.nIn + 1 < g.ratio then ({ f1 with nIn := f1.nIn + 1 }, false)
    else
      let (d, c) := combs ((g.shifts.drop g.order).take g.order) (f1.d.take g.order) (y.getLast?.getD 0)
      let a := rshRound c g.align
      let z := satS 32 a
      { f1 with d := d ++ f1.d.drop g.order, nIn := 0 }.pushZ g z ((f1.window g).or { clip := z != a })

/-- A filter started from zero keeps its place on the channel's grid (R80). -/
def Filter.clear (f : Filter) (settle : Nat) : Filter := { nIn := f.nIn, nZ := f.nZ, settle := settle }

/-! ### The FIR and the normalisation (R111, R114) -/

/-- Σ h[i] z[n − i]. -/
def dot : List Int → List (Int × WinFlags) → Int
  | h :: hs, (z, _) :: zs => h * z + dot hs zs
  | _, _ => 0

/-- f with its CLIPPED and the flags of the window that T taps see. -/
def Filter.out (f : Filter) (g : Cfg) (s : State) (bank : Nat) : Int × WinFlags :=
  if g.firEn then
    let hs := bankCoefs s bank
    let a := rshRound (dot hs f.fir) 23
    (satS 32 a, ((f.fir.take hs.length).foldl (fun (w : WinFlags) z => w.or z.2) {}).or { clip := satS 32 a != a })
  else match f.fir with
    | (z, fl) :: _ => (z, fl)
    | [] => (0, {})

/-- NORM_M = round(K × 2^E / G_DC) as a fraction: numerator and denominator for E = 0 (R114). -/
def normRatio (g : Cfg) (sum : Int) : Int × Int :=
  let k : Int := if g.oneBit then 2 ^ 31 else 1
  let num := k * (if g.cicEn then 2 ^ (g.shiftSum + g.align) else 1) * (if g.firEn then 2 ^ 23 else 1)
  let den := (if g.cicEn then (g.ratio : Int) ^ g.order else 1) * (if g.firEn then sum else 1)
  (num, den)

/-- NORM_M for an exponent. -/
def normM (g : Cfg) (sum : Int) (e : Nat) : Int :=
  let (n, d) := normRatio g sum
  (2 * n * 2 ^ e + d) / (2 * d)

/-- The pair of NORM_E and NORM_M, where one of 0 to 127 gives 32 bits with bit 31 set. -/
def norm (g : Cfg) (sum : Int) : Option (Nat × Nat) :=
  ((List.range 128).find? (fun e => decide (2 ^ 31 ≤ normM g sum e) && decide (normM g sum e < 2 ^ 32))).map
    (fun e => (e, (normM g sum e).toNat))

/-- v before the correction, and whether it saturated. -/
def normalise (f : Int) (e m : Nat) : Int × Bool :=
  let a := rshRound (f * m) e
  (satS 32 a, satS 32 a != a)

/-- The format of R114: the value delivered and whether it saturated. -/
def formatValue (g : Cfg) (v : Int) : Int × Bool :=
  match g.format with
  | 1 =>
    let a := rshRound v 8
    (satS 24 a, satS 24 a != a)
  | 2 =>
    let a := rshRound v (16 - g.shift16)
    (satS 16 a, satS 16 a != a)
  | _ => (v, false)

/-- Bytes of a sample in a batch. -/
def formatBytes (fmt : Nat) : Nat := match fmt with
  | 1 => 3
  | 2 => 2
  | _ => 4

/-! ### Load (R119) -/

/-- PLL cycles of a period of the channel's MOD tap: 512 at 5.12 MHz, 1,024 at 2.56 MHz, 2,048 at 1.28 MHz (R65, R74). -/
def tapCycles (s : State) (g : Cfg) : Nat :=
  if g.srcType = 1 then (if s.on (AFE_IN_CFG_LP (g.srcNum / 8) (g.srcNum % 8)) then 1024 else 512)
  else if bit (s.get PDM_CLK_CTRL_RATE) (g.srcNum / 8) then 2048 else 1024

/-- f_in. -/
def fIn (s : State) (g : Cfg) : Nat :=
  if g.oneBit then 2621440000 / tapCycles s g else ceilDiv 131072000 (max 1 g.minInterval)

/-- Load of the FIR term alone, rounded up once. -/
def firLoad (s : State) (g : Cfg) (bank : Nat) : Nat := ceilDiv (ceilDiv (bankTaps s bank) 4 * fIn s g) (g.r * g.d)

/-- The load of a channel: every term over the common denominator 32 R D, rounded up once. -/
def chanLoad (s : State) (g : Cfg) : Nat :=
  let rd := g.r * g.d
  let integ := if g.oneBit then rd + (if g.r % 32 ≠ 0 then 32 * g.d else 0) else 32 * rd
  let comb := if g.oneBit || g.cicEn then 32 * g.d else 0
  let fir := if g.firEn then 32 * ceilDiv (bankTaps s g.bank) 4 else 0
  ceilDiv (fIn s g * (integ + comb + fir)) (32 * rd)

/-- K of R133. -/
def settleCount (s : State) (g : Cfg) : Nat :=
  if !g.cicEn && !g.firEn then 0
  else g.n + (if g.firEn then ceilDiv (bankTaps s g.bank - 1) g.dec else 0) + 1

/-! ### Edges and stamps (R125 to R130) -/

/-- ⌈a / b⌉ of a signed number by a positive one. -/
def ceilDivInt (a b : Int) : Int := (a + b - 1) / b


/-- Where edge `j` of a channel lies, in PLL cycles after the divider release (R126): PTRIM moves the edge of an AIN source,
and the odd streams of a PDM pin lie half a period later. -/
def edgeTime (s : State) (g : Cfg) (j : Int) : Int :=
  let p : Int := tapCycles s g
  j * p + (if g.srcType = 1 then g.ptrim * p / 64 else if g.srcNum % 2 = 1 then p / 2 else 0)

/-- The first edge at or after a TB value, on the present line. -/
def edgeFrom (s : State) (g : Cfg) (c : Nat) : Int :=
  let a := s.anchors.head?.getD (lineNow s)
  let t := a.plc + ceilDivInt ((c : Int) * 2 ^ 32 * 20 - a.tbf20) a.rate
  ceilDivInt (t - edgeTime s g 0) (tapCycles s g)

/-- D_cyc in 1/40 TB-domain cycles, without the FIR term (R128, R129). -/
def delay40Base (s : State) (g : Cfg) : Int :=
  if !g.oneBit then 0
  else
    let p : Int := tapCycles s g
    let pd := 2 * (g.delay * p)
    let trim := if g.srcType = 2 then g.ptrim * p / 32 else 0
    let src : Int := if g.srcType = 1 then (if s.get (AFE_IN_CFG_GAIN (g.srcNum / 8) (g.srcNum % 8)) = 0 then 5 else 15) else 0
    pd + trim + src + (if g.cicEn then g.order * ((g.ratio : Int) - 1) * p else 0)

/-- The FIR term in 1/40 TB-domain cycles for a bank. -/
def delay40Fir (s : State) (g : Cfg) (bank : Nat) : Int :=
  if g.oneBit && g.firEn then ((bankTaps s bank : Int) - 1) * g.r * (tapCycles s g) else 0

/-- Delay correction is off for the channel (NOCORR). -/
def noCorr (s : State) (c : Nat) : Bool := bit (s.get (SCHED_NOCORR_OFF (c / 32))) (c % 32)

/-- The blended delay over `len` fade outputs at output `i`: numerator of D_cyc over 40 × len. -/
def delayNum (s : State) (c : Nat) (g : Cfg) (fade : Option (Nat × Nat × Nat)) : Int × Nat :=
  if noCorr s c then (0, 1)
  else match fade with
    | some (bank, i, len) =>
      (delay40Base s g * len + delay40Fir s g g.bank * len + (delay40Fir s g bank - delay40Fir s g g.bank) * i, len)
    | none => (delay40Base s g + delay40Fir s g g.bank, 1)

/-- The stamp of a one-bit output whose decimation edge is `e` (R125). -/
def stampOneBit (s : State) (g : Cfg) (e : Int) (dnum : Int) (len : Nat) : Int :=
  let rate : Int := 2 ^ 32 + s.trim
  (2 * len * line20 s (edgeTime s g e) - dnum * rate + 20 * len * 2 ^ 32) / (40 * len * 2 ^ 32)

/-- G_in of R130, doubled. -/
def gIn2 (s : State) (g : Cfg) (bank : Nat) : Int :=
  (if g.cicEn then g.order * ((g.ratio : Int) - 1) else 0) + (if g.firEn then (g.r : Int) * ((bankTaps s bank : Int) - 1) else 0)

/-- The stamp of a multi-bit output (R130); its inputs carry their stamps in 2^−32 ticks. -/
def stampMulti (s : State) (c : Nat) (g : Cfg) (f : Filter) (g2num : Int) (len : Nat) : Int :=
  if (!g.cicEn && !g.firEn) || noCorr s c then (f.last + 2 ^ 31) / 2 ^ 32
  else
    let (num, den) : Int × Int := match f.prev with
      | some p => ((f.last : Int) - p, (g.r * g.d : Nat))
      | none => if f.count ≤ 1 then (0, 1) else ((f.last : Int) - f.first, ((f.count - 1 : Nat) : Int))
    (2 * den * len * f.last - g2num * num + den * len * 2 ^ 32) / (2 * den * len * 2 ^ 32)

/-- 256 × the output period of a one-bit channel, rounded (R224). -/
def period256 (s : State) (g : Cfg) : Nat :=
  let n : Int := 2 * 256 * (g.r * g.d * tapCycles s g : Nat) * (2 ^ 32 + s.trim) + 20 * 2 ^ 32
  (n / (40 * 2 ^ 32)).toNat

/-- Inputs in the window of an output: N (R − 1) + 1 per CIC output, over the T taps. -/
def spanInputs (s : State) (g : Cfg) : Nat := g.n * (g.r - 1) + 1 + ((if g.firEn then bankTaps s g.bank else 1) - 1) * g.r

/-- Outputs of a run still to come whose windows include an empty phase-delay entry (R133): as long as the line is shorter than the delay the
next inputs are empty too. -/
def earlyLeft (s : State) (g : Cfg) (x : Chan) (f : Filter) : Nat :=
  let more := g.delay - x.lineLen
  let lastEarly := if 0 < more then f.count + more else f.earlyAt
  if lastEarly = 0 then 0 else (lastEarly + spanInputs s g - 1) / max 1 (g.r * g.d) - f.count / max 1 (g.r * g.d)

end Sys2Proof.Machine
end

