-- ==== Sys2Proof/Machine/Anvil.lean ====
section
/-!
DEFINITION. Sys2Proof/Machine/Anvil.lean: channels (spec/07_anvil_engine.md, R113 to R124; spec/08_anvil_delay_and_alignment.md,
R131 to R141): admission, SYNC, inputs, outputs, batches, swaps, retunes, stopping and shedding.
-/
namespace Sys2Proof.Machine

def State.chan (s : State) (c : Nat) : Chan := SMap.get (fun _ => {}) s.chans c
/-- The working state of channel `c`, of the 256 that the tables hold. -/
def State.setChan (s : State) (c : Nat) (x : Chan) : State :=
  if c < 256 then { s with chans := SMap.put (fun _ => {}) s.chans c x } else s
def State.pg (s : State) (g : Nat) : Pg := SMap.get (fun _ => {}) s.pgs g
def State.recal (s : State) (k : Nat) : Recal := SMap.get (fun _ => {}) s.recals k
def State.setRecal (s : State) (k : Nat) (x : Recal) : State := { s with recals := SMap.put (fun _ => {}) s.recals k x }

/-- CH_STAT.STATE: 0 OFF, 1 WAIT_SYNC, 2 RUNNING, 3 STOPPING, 4 SHED, 5 WATCH_STOPPED, 6 MIGRATING. -/
def chState (s : State) (c : Nat) : Nat := s.get (SCHED_CH8_STATE c)
/-- STATE, or during MIGRATING the STATE that returns after it (R364). -/
def chLogical (s : State) (c : Nat) : Nat := if chState s c = 6 then (s.chan c).former else chState s c
/-- Channels in WAIT_SYNC, RUNNING, STOPPING or MIGRATING: their load counts (R120). -/
def chActive (s : State) (c : Nat) : Bool := let st := chState s c; decide (1 ≤ st) && decide (st ≤ 3) || st == 6

/-! ### Loads and slices (R120) -/

/-- Load of the temporary copies of a channel: the second filter of a fade, a retune's, a recalibration's shadow. -/
def tempLoad (s : State) (c : Nat) : Nat :=
  let x := s.chan c
  (match x.fade with
    | some f => firLoad s (chCfg s c) f.bank
    | none => 0)
  + (if x.retune.isSome then chanLoad s (standbyCfg s c) else 0)
  + (if x.shadow.isSome then s.get (SCHED_CH9_LOAD c) else 0)

/-- The load of a slice: 0 A, 1 B, 2 S, of the channels placed on it. -/
def sliceLoad (s : State) (x : Nat) : Nat :=
  ((s.chans.filter (fun p => chActive s p.1 && s.get (SCHED_CH8_ON_SLICE p.1) == x)).map
    (fun p => s.get (SCHED_CH9_LOAD p.1) + tempLoad s p.1)).sum

/-- The admission limit of a slice: 92 %, or CFG.SHED_PCT % at the shedding stage of the thermal governor (R120, R356). -/
def sliceLimit (s : State) : Nat :=
  if 3 ≤ s.get THERM_STAT_STAGE then 262144000 * max 10 (min 92 (s.get THERM_CFG_SHED_PCT)) / 100 else 241172480

/-- A slice that is present and has ROLE = ACTIVE. -/
def sliceUp (s : State) (x : Nat) : Bool := (decide (x < 2) || (x == 2 && hasSpareSlice s.variant)) && s.get (ANV_SL_STAT_ROLE x) == 0

/-- A further load fits on a slice. -/
def fits (s : State) (x load : Nat) : Bool := sliceUp s x && decide (sliceLoad s x + load ≤ sliceLimit s)

/-- The slice a channel is placed on: the one named, or of the active slices the less loaded, the lower one on a tie. -/
def place (s : State) (g : Cfg) (load : Nat) : Option Nat :=
  if g.slice = 1 then (if fits s 0 load then some 0 else none)
  else if g.slice = 2 then (if fits s 1 load then some 1 else none)
  else
    ((List.range 3).filter (fun x => fits s x load)).foldl (fun b x => match b with
      | none => some x
      | some y => if sliceLoad s x < sliceLoad s y then some x else some y) none

/-- The WATCH set: active channels with WATCH = 1; their number and load (R120). -/
def watchSet (s : State) : List Nat := (s.chans.filter (fun p => chActive s p.1 && s.on (SCHED_CH0_WATCH p.1))).map (fun p => p.1)
def watchLoad (s : State) : Nat := ((watchSet s).map (fun c => s.get (SCHED_CH9_LOAD c))).sum
/-- A channel of the given load can join the WATCH set. -/
def watchFits (s : State) (load : Nat) : Bool :=
  decide ((watchSet s).length < 16) && decide (watchLoad s + load ≤ 37683200)

/-! ### The checks of R117 -/

/-- The source instance exists and is enabled. -/
def sourceOk (s : State) (g : Cfg) : Bool :=
  match g.srcType with
  | 1 => decide (g.srcNum < nInputs s.variant) && s.on (AFE_IN_CFG_ENABLE (g.srcNum / 8) (g.srcNum % 8))
  | 2 => decide (g.srcNum < 2 * nPdmPins s.variant) && bit (s.get PDM_STREAM_EN_EN) g.srcNum
  | 3 => decide (g.srcNum < nPorts s.variant)
  | 4 => decide (g.srcNum < 16)
  | 5 => true
  | _ => false

/-- The lowest failing code of 3 to 10, or 0. -/
def descReason (s : State) (g : Cfg) : Nat :=
  if !sourceOk s g then 3
  else if (g.cicEn && (decide (g.order < 3) || decide (5 < g.order) || decide (g.ratio < 2))) || (g.oneBit && !g.cicEn) then 4
  else if g.cicEn && (decide (g.shifts.headD 0 + 56 < g.bMax) || (g.oneBit && (g.shifts.take g.order).any (fun x => x != 0))) then 5
  else if g.firEn && (bankTaps s g.bank == 0 || decide (bankSum s g.bank ≤ 0)) then 6
  else if g.lockin && decide (nMonitors s.variant ≤ g.lockinPg) then 7
  else if g.hcount ≠ 0 ∧ (512 < g.hslot + g.hcount ∨ !hasHardy s.variant) then 8
  else if !g.oneBit && decide (g.minInterval < 8) then 9
  else if (norm g (bankSum s g.bank)).isNone then 10
  else 0

/-- A refusal of a descriptor (R117): REASON, ADMIT_REFUSED, LAST_REFUSAL while armed, source 512. -/
def refuseDesc (c reason : Nat) (s : State) : State :=
  let s1 := (s.set (SCHED_CH8_REASON c) reason).fault 0x1B 0
  let s2 := if s1.on SCHED_LAST_REFUSAL_VALID then s1
    else ((s1.raise SCHED_LAST_REFUSAL_VALID).set SCHED_LAST_REFUSAL_REASON reason).set SCHED_LAST_REFUSAL_CHANNEL c
  pulse 512 s2

/-! ### Read-back (R131) -/

/-- Words 12, 13 and 15 for the delivering filter. -/
def readBack (c : Nat) (g : Cfg) (dnum : Int) (len settle : Nat) (s : State) : State :=
  let d16 := (dnum * (2 ^ 32 + s.trim) * 2 ^ 16 / (40 * (len : Int) * 2 ^ 32)).toNat
  let s1 := (s.set (SCHED_CH12_DELAY_INT c) (d16 / 2 ^ 16)).set (SCHED_CH13_DELAY_FRAC c) (d16 % 2 ^ 16)
  let s2 := s1.set (SCHED_CH13_KSLICE c) (if s.clksrc ≠ 0 then 64 else if s.get (SCHED_CH8_ON_SLICE c) = 2 then 60 else 40)
  let s3 := s2.set (SCHED_CH13_KSRC c)
    (if g.srcType = 1 then (if s.get (AFE_IN_CFG_GAIN (g.srcNum / 8) (g.srcNum % 8)) = 0 then 32 else 96) else 0)
  s3.set (SCHED_CH15_SETTLE_LEFT c) settle

/-- The read-back for the descriptor as written, before the first output. -/
def readBackFresh (c : Nat) (s : State) : State :=
  let g := chCfg s c
  let (dnum, len) := delayNum s c g none
  readBack c g dnum len (max (settleCount s g) (earlyLeft s g (s.chan c) (s.chan c).flt)) s

/-! ### Admission (R117) -/

/-- A channel enters WAIT_SYNC on a slice with its load and normalisation. -/
def enterWait (c x load e m : Nat) (s : State) : State :=
  let g := chCfg s c
  let s0 := s.setChan c { s.chan c with edge := if g.oneBit then edgeFrom s g s.tb else 0 }
  let s1 := ((s0.set (SCHED_CH8_STATE c) 1).set (SCHED_CH8_ON_SLICE c) x).set (SCHED_CH9_LOAD c) load
  readBackFresh c ((s1.set (SCHED_CH10_NORM_M c) m).set (SCHED_CH11_NORM_E c) e)

/-- The end of an admission from OFF. In WATCH too a channel that need not run there is admitted and runs: R15 stops such channels at the entry to
WATCH and says nothing of one that is enabled later (DESIGN CHOICE, log entry 21). -/
def admitChan (c : Nat) (s : State) : State :=
  let g := chCfg s c
  let load := chanLoad s g
  let refuse (r : Nat) : State := refuseDesc c r ((s.setChan c { s.chan c with admitting := false }).clear (SCHED_CH0_EN c))
  let r := descReason s g
  if r ≠ 0 then refuse r
  else match place s g load with
    | none => refuse 1
    | some x =>
      if g.watch && !watchFits s load then refuse 2
      else match norm g (bankSum s g.bank) with
        | none => refuse 10
        | some (e, m) => enterWait c x load e m (s.setChan c { live := true, run := (s.chan c).run + 1 })

/-- A write changed EN from 0 to 1. -/
def startAdmission (c : Nat) (s : State) : State :=
  if chLogical s c = 3 then s.setChan c { s.chan c with heldEnable := true }
  else if chState s c = 0 then s.setChan c { s.chan c with admitting := true } else s

/-! ### The end of filter changes (R139) -/

/-- A fade and a queued swap end with a result; DONE and CANCELLED raise source 516 (R141). -/
def endSwap (c result : Nat) (s : State) : State :=
  let s1 := s.setChan c { s.chan c with fade := none, queued := none }
  let s2 := ((s1.set (SCHED_CH14_FADE_LEFT c) 0).set (SCHED_CH14_FADE_BANK c) 0).clear (SCHED_CH14_SWAP_Q c)
  let s3 := (s2.set (SCHED_CH14_SWAP_Q_BANK c) 0).set (SCHED_CH14_SWAP_RESULT c) result
  if result = 1 ∨ result = 6 then pulse 516 s3 else s3

/-- A retune ends: its hold entries are freed. -/
def endRetune (c result : Nat) (s : State) : State :=
  match (s.chan c).retune with
  | none => s
  | some r =>
    let s1 := (s.setChan c { s.chan c with retune := none }).set SCHED_HOLD_FREE (s.get SCHED_HOLD_FREE + (if r.withHold then r.hold else 0))
    ((s1.clear (SCHED_CH14_RETUNING c)).set (SCHED_CH15_HOLD c) 0).set (SCHED_CH14_RETUNE_RESULT c) result

/-- Every change in progress ends with CANCELLED. -/
def cancelChanges (c : Nat) (s : State) : State :=
  let x := s.chan c
  let s1 := if x.fade.isSome || x.queued.isSome then endSwap c 6 s else s
  if x.retune.isSome then pulse 519 ((endRetune c 7 s1).fault 0x1B 5) else s1

/-! ### Batches (R115, R224) -/

/-- Store whole words of a batch's bytes and keep the rest. -/
def flushBytes (q c : Nat) : Nat → List Nat → State → List Nat × State
  | 0, bs, s => (bs, s)
  | n + 1, b0 :: b1 :: b2 :: b3 :: r, s => flushBytes q c n r (writeWord q (.channel c) (leNat [b0, b1, b2, b3]) false s).2
  | _, bs, s => (bs, s)

/-- The little-endian bytes of a formatted sample. -/
def sampleBytes (fmt : Nat) (v : Int) : List Nat := (wordBytes (ux 32 v)).take (formatBytes fmt)

/-- Open the packet of a batch: descriptor and header (R224). -/
def openBatch (c : Nat) (b : Batch) (seq : Nat) (s : State) : State :=
  let s1 := (openPacket b.queue b.lane (.channel c) 1 (b.format * 2 ^ 8 + seq) s).2
  writeWords b.queue (.channel c)
    [b.base % 2 ^ 32, b.base / 2 ^ 32 % 2 ^ 32, b.p256 / 2 ^ 8 % 2 ^ 32, b.p256 % 2 ^ 8 * 2 ^ 24 + b.flags * 2 ^ 8 + c] s1

/-- A multi-bit batch that still holds its first output opens with the period now known. -/
def openHeld (c p256 : Nat) (b : Batch) (s : State) : Batch × State :=
  match b.held with
  | none => (b, s)
  | some (seq, _) =>
    let b1 := { b with p256 := p256, held := none }
    let s1 := openBatch c b1 seq s
    let (rest, s2) := flushBytes b.queue c b1.bytes.length b1.bytes s1
    ({ b1 with bytes := rest }, s2)

/-- Close the open batch of a channel. -/
def closeBatch (c : Nat) (trunc : Bool) (s : State) : State :=
  match (s.chan c).batch with
  | none => s
  | some b0 =>
    let (b, s1) := openHeld c 0 b0 s
    let s2 := if b.bytes.isEmpty then s1 else (writeWord b.queue (.channel c) (leNat b.bytes) false s1).2
    let s3 := closeWriter b.queue (.channel c) (16 + b.count * formatBytes b.format) trunc s2
    s3.setChan c { s3.chan c with batch := none }

/-- The stamp that R224 gives to the next position of a batch. -/
def batchStamp (b : Batch) : Int := (b.base : Int) + ((b.count : Int) * b.p256 + 128) / 256

/-- An output may join the open batch (R115, R140). -/
def joins (b : Batch) (run : Nat) (o : Output) : Bool :=
  o.flags == b.flags && o.inFade == b.inFade && b.run == run
  && (b.held.isSome || decide (batchStamp b - 1 ≤ o.stamp && o.stamp ≤ batchStamp b + 1))

/-- Add one sample to the open batch, closing it when it is full. -/
def addSample (c : Nat) (b0 : Batch) (stamp v : Int) (s : State) : State :=
  let (b, s1) := match b0.held with
    | some _ => openHeld c ((stamp - b0.base) * 256).toNat b0 s
    | none => (b0, s)
  let (rest, s2) := flushBytes b.queue c 4 (b.bytes ++ sampleBytes b.format v) s1
  let b2 := { b with bytes := rest, count := b.count + 1 }
  let s3 := s2.setChan c { s2.chan c with batch := some b2 }
  if b.size ≤ b2.count then closeBatch c false s3 else s3

/-- Write an output to the channel's queue as one record or into a batch (R115, R223, R224). -/
def queueOutput (c seq : Nat) (o : Output) (v : Int) (s : State) : State :=
  let s1 := match (s.chan c).batch with
    | some b => if joins b (s.chan c).run o then s else closeBatch c false s
    | none => s
  match (s1.chan c).batch with
  | some b => addSample c b o.stamp v s1
  | none =>
    let g := chCfg s1 c
    if g.batch = 0 then
      (wholePacket g.queue g.lane (.channel c) 0 0
        [ux 32 o.stamp, ux 64 o.stamp / 2 ^ 32, o.flags * 2 ^ 24 + seq * 2 ^ 16 + c, ux 32 v] 16 s1).2
    else
      let b : Batch :=
        { queue := g.queue, lane := g.lane, size := g.batch, format := g.format, base := ux 64 o.stamp,
          p256 := period256 s1 g, flags := o.flags, inFade := o.inFade, run := (s1.chan c).run }
      if g.oneBit then addSample c b o.stamp v (openBatch c b seq s1)
      else
        let b1 := { b with held := some (seq, 0), count := 1, bytes := sampleBytes g.format v }
        let s2 := s1.setChan c { s1.chan c with batch := some b1 }
        if g.batch ≤ 1 then closeBatch c false s2 else s2

/-- Deliver an output: to Hardy, and to the queue with its sequence number (R115). -/
def deliver (c : Nat) (o : Output) (s : State) : State :=
  let g := chCfg s c
  let x := s.chan c
  let s1 := (List.range g.hcount).foldl (fun s i =>
    offerUpdate { slot := g.hslot + i, chan := c, v := o.v, stamp := ux 64 o.stamp, flags := o.flags, sync := o.fresh } s) s
  if o.settling && g.suppress then s1
  else
    let (v, _) := formatValue g o.v
    let s2 := queueOutput c x.seq o v s1
    s2.setChan c { s2.chan c with seq := (x.seq + 1) % 256 }

/-! ### Recalibration's part in outputs (R80 to R83) -/

/-- The spare that recalibrates a channel's input. -/
def recalOf (s : State) (c : Nat) : Option Nat :=
  (List.range 4).find? (fun k => (s.recal k).chan == c && s.get (AFE_COM_SM_STAT_STATE k) != 0)

/-- Release a spare with a result; source 176 + k (R80, R83). A change of the delivered output marks SEAM (R82). -/
def recalEnd (k result : Nat) (s : State) : State :=
  let c := (s.recal k).chan
  let x := s.chan c
  let x1 := { x with shadow := none, spareLine := [], seamNext := x.seamNext || (s.recal k).delivering,
                     retune := x.retune.map (fun t => { t with sflt := none }) }
  let s1 := (s.setRecal k {}).setChan c x1
  pulse (176 + k) ((s1.set (AFE_COM_SM_STAT_STATE k) 0).set (AFE_COM_SM_STAT_RESULT k) result)

/-- A comparison of a recalibration restarts its count where a fade or a retune of the channel changes both filters (R83). -/
def recalRecount (c : Nat) (s : State) : State :=
  match recalOf s c with
  | some k =>
    if s.get (AFE_COM_SM_STAT_STATE k) = 2 ∨ s.get (AFE_COM_SM_STAT_STATE k) = 6 then s.setRecal k { s.recal k with count := 0, sum := 0 }
    else s
  | none => s

/-! ### Stopping (R117) -/

/-- The bits of word `i` of a descriptor that a write admitted by PG_KEY changes (R118). -/
def restartBits (i : Nat) : Nat := [0x00F0FF1F, 0xFFFFFFFF, 0xFFFFFFFF, 0xFFFFFFFF, 0xF0FFFFFF, 0xFFFC0000, 0, 0xFFFFFFFF].getD i 0

/-- Store words 0 to 7 of an admitted write. -/
def storeDesc (c : Nat) (ws : List Nat) (s : State) : State :=
  (ws.zip (List.range 8)).foldl (fun s p =>
    let m := restartBits p.2
    s.setWord (descAddr c p.2) (w32 (((s.word (descAddr c p.2)).toNat &&& (0xFFFFFFFF ^^^ m)) + (p.1 &&& m)))) s

/-- A channel leaves the active states for `st`: its changes are cancelled, its recalibration aborted, its batch closed, its
slots restarted and its load released; the words of an admitted write that waited for this stop are taken (R118). -/
def leave (c st : Nat) (s : State) : State :=
  let s1 := match recalOf s c with
    | some k => recalEnd k 6 s
    | none => s
  let s2 := slotsStop c (closeBatch c false (cancelChanges c s1))
  let x := s2.chan c
  let s2 := match x.restart with
    | some ws => storeDesc c ws s2
    | none => s2
  let s3 := s2.setChan c (if st = 0 then { run := x.run, admitting := x.admitting, heldEnable := x.heldEnable }
    else { live := true, run := x.run + 1, seq := x.seq })
  (s3.set (SCHED_CH8_STATE c) st).set (SCHED_CH9_LOAD c) 0

/-! ### SYNC (R132, R139) -/

/-- A queued swap applied at a SYNC, where it passes BANK and LOAD (R139). -/
def applyQueued (c bank : Nat) (s : State) : State :=
  let g := chCfg s c
  let g1 := { g with bank := bank }
  let load := chanLoad s g1
  if bankTaps s bank = 0 ∨ bankSum s bank ≤ 0 ∨ bank = g.bank then endSwap c 4 s
  else match norm g1 (bankSum s bank) with
    | none => endSwap c 4 s
    | some (e, m) =>
      if sliceLimit s < sliceLoad s (s.get (SCHED_CH8_ON_SLICE c)) - s.get (SCHED_CH9_LOAD c) + load then endSwap c 3 s
      else endSwap c 1 ((((s.set (SCHED_CH4_BANK c) bank).set (SCHED_CH10_NORM_M c) m).set (SCHED_CH11_NORM_E c) e).set
        (SCHED_CH9_LOAD c) load)

/-- A completed fade: BANK and the normalisation take the new bank's (R135). -/
def takeFade (c : Nat) (f : Fade) (s : State) : State :=
  let s1 := ((s.set (SCHED_CH4_BANK c) f.bank).set (SCHED_CH10_NORM_M c) f.normM).set (SCHED_CH11_NORM_E c) f.normE
  let s2 := s1.setChan c { s1.chan c with fade := none }
  let s3 := (s2.set (SCHED_CH9_LOAD c) (chanLoad s2 (chCfg s2 c))).set (SCHED_CH14_FADE_LEFT c) 0
  pulse 516 ((s3.set (SCHED_CH14_FADE_BANK c) 0).set (SCHED_CH14_SWAP_RESULT c) 1)

/-- Changes in progress meet a SYNC (R139). -/
def changesMeetSync (c : Nat) (s : State) : State :=
  let q := (s.chan c).queued
  let s1 := match (s.chan c).fade with
    | some f => takeFade c f s
    | none => s
  let s2 := match q with
    | some (b, _) => applyQueued c b s1
    | none => s1
  if (s2.chan c).retune.isSome then pulse 519 ((endRetune c 7 s2).fault 0x1B 5) else s2

/-- The inputs taken in WAIT_SYNC are those of the edges up to the one before `e`. -/
def relabel (e : Int) (l : List Item) : List Item := (l.zip (List.range l.length)).map (fun p => { p.1 with edge := e - 1 - (p.2 : Int) })

/-- Restart the filter from zero: at edge `e` for a one-bit channel, at the first sample from `start` on for a multi-bit one. -/
def restartFilter (c : Nat) (e : Int) (start : Option Nat) (s : State) : State :=
  let x0 := s.chan c
  let x := if chLogical s c = 1 ∧ (chCfg s c).oneBit then { x0 with line := relabel e x0.line } else x0
  let s1 := s.setChan c { x with clearAt := none, flt := { settle := settleCount s (chCfg s c) }, edge := e, startAt := start, run := x.run + 1,
                                 fresh := true, live := true }
  readBackFresh c (s1.set (SCHED_CH8_STATE c) 2)

/-- The SYNC of a channel at edge `e`, of a multi-bit one at instant `start` (R132): a recalibration ends, and changes in progress meet it. -/
def syncEdge (c : Nat) (e : Int) (start : Option Nat) (s : State) : State :=
  let s1 := match recalOf s c with
    | some k => recalEnd k 7 s
    | none => s
  restartFilter c e start (changesMeetSync c s1)

/-- The SYNC of a channel at nominal instant `t` (R132). -/
def syncChannel (c t : Nat) (s : State) : State :=
  let g := chCfg s c
  syncEdge c (if g.oneBit then edgeFrom s g t else 0) (if g.oneBit then none else some t) s

/-- Channels that take a SYNC at a match of compare channel `m`: those in WAIT_SYNC, and the RUNNING ones while a group SYNC
is pending for it; one that is MIGRATING takes it when it is adopted (R368). -/
def syncAt (m t : Nat) (s : State) : State :=
  let pend := bit (s.get SCHED_SYNC_PEND_LO_PEND + s.get SCHED_SYNC_PEND_HI_PEND * 2 ^ 32) m
  let cs := (s.chans.filter (fun p => s.get (SCHED_CH5_RESTART_CMP p.1) == m &&
    (chLogical s p.1 == 1 || (pend && chLogical s p.1 == 2)))).map (fun p => p.1)
  let s1 := cs.foldl (fun s c =>
    if chState s c = 6 then s.setChan c { s.chan c with syncLater := some t } else syncChannel c t s) s
  (s1.set ⟨SCHED_SYNC_PEND_LO_PEND.addr + 4 * (m / 32), m % 32, 1⟩ 0)

/-! ### Restart with new words (R118) -/

/-- The channel stops at its output boundary and waits with the new words for RESTART_CMP; its sequence number continues, and so does the
phase-delay line of a channel that keeps its source (R132). -/
def restartDesc (c : Nat) (ws : List Nat) (s : State) : State :=
  let x := s.chan c
  let s0 := storeDesc c ws (leave c 1 s)
  let g := chCfg s0 c
  let s1 := if g.src = (chCfg s c).src then s0.setChan c { s0.chan c with line := x.line, lineLen := x.lineLen, edge := x.edge } else s0
  let x := s1.get (SCHED_CH8_ON_SLICE c)
  match norm g (bankSum s1 g.bank) with
  | some (e, m) => enterWait c x (chanLoad s1 g) e m s1
  | none => s1

/-- An admitted write of a locked field (R118): checked as a new descriptor, LOAD without the channel's present load. -/
def changeDesc (c : Nat) (ws : List Nat) (s : State) : State :=
  let g := cfgOf (fun i => ws.getD i 0)
  let load := chanLoad s g
  let x := s.get (SCHED_CH8_ON_SLICE c)
  let r := descReason s g
  let r1 := if r ≠ 0 then r
    else if !sliceUp s x || decide (sliceLimit s < sliceLoad s x - (s.get (SCHED_CH9_LOAD c) + tempLoad s c) + load) then 1
    else if g.watch && decide (37683200 < watchLoad s - s.get (SCHED_CH9_LOAD c) + load) then 2 else 0
  if r1 ≠ 0 then refuseDesc c r1 s
  else if chLogical s c = 2 then s.setChan c { s.chan c with restart := some ws }
  else restartDesc c ws s

/-! ### Bits and samples into the filters -/

/-- φ of a generator at instant `t20` of the line, as +1 or −1 (R102): by the present period's schedule, which repeats, from its
first edge slot on, and by the scheduled active times of the periods before it. -/
def pgPhase (s : State) (g : Nat) (t20 : Int) : Int :=
  let p := s.pg g
  let u : Int := 20 * 2 ^ 32
  let off := t20 - (((p.start + p.lat : Nat) : Int)) * u
  let ph := off % ((max 1 p.period : Nat) * u)
  let now := p.running && decide (0 ≤ off) && decide (p.delay * u ≤ ph) && decide (ph < (p.delay + p.width : Nat) * u)
  let was := p.past.any (fun i =>
    let at' := t20 - i.rise * u
    decide (0 ≤ at') && decide (at' < (i.n * i.period : Nat) * u) && decide (at' % ((max 1 i.period : Nat) * u) < i.width * u))
  if now || was then 1 else -1

/-- The generator was tripped or stopped at an instant, given as 20 × TB:FRAC (R102). -/
def pgWasOff (s : State) (g : Nat) (t20 : Int) : Bool :=
  let p := s.pg g
  let u : Int := 20 * 2 ^ 32
  p.offs.any (fun i => decide (i.1 * u ≤ t20) && decide (t20 < i.2 * u)) ||
    (match p.off with
     | some a => decide (a * u ≤ t20)
     | none => false)

/-- A field of byte `k` of VEXC_CTRL. -/
def vexcField (k bit' width : Nat) : Fld := ⟨AFE_COM_VEXC_CTRL_EN0.addr, 8 * k + bit', width⟩

/-- An excitation output drives its LEVEL (R70): it is enabled, not latched off by its current limit, and with GATE = 1 the generator's output is
at its active level. -/
def vexcDrives (s : State) (k : Nat) : Bool :=
  s.on (vexcField k 7 1) && !s.on (PG_FAULT_bit 0x10 (4 + k))
  && (!s.on (vexcField k 4 1) || bit (s.get PG_OUT_LEVEL) (s.get (vexcField k 0 4)))

/-- The reference that an AIN source selects is not available (R69): its bits are all 0 and mark CLIPPED. -/
def refGone (s : State) (srcType num : Nat) : Bool :=
  srcType == 1 &&
  (let r := s.get (AFE_IN_CFG_REF_SEL (num / 8) (num % 8))
   if r = 0 ∨ 6 ≤ r then !s.on AFE_COM_REF_CTRL_INT_EN else s.badRefs.contains r || (decide (2 ≤ r) && !vexcDrives s (r - 2)))

/-- The window of an output at edge `e` lies wholly within a run of a stuck stream and closes no earlier than the run reached its length
(R76). -/
def stuckWindow (s : State) (g : Cfg) (e : Int) (x : Chan) : Bool :=
  match x.stuck with
  | none => false
  | some r =>
    let taps := if g.firEn then max (bankTaps s g.bank) ((x.fade.map (fun f => bankTaps s f.bank)).getD 0) else 1
    let span := g.n * (g.r - 1) + 1 + (taps - 1) * g.r
    let last := e - g.delay
    decide (r.1 ≤ last - span + 1) && decide (x.stuckAt ≤ last) && (r.2.2.map (fun t => decide (last < t))).getD true

/-- The chop sign of a bit (R66): the input polarity is swapped at every boundary of a 2^CHOP_DIV-block interval. -/
def chopSign (s : State) (g : Cfg) (e : Int) : Int :=
  let i := g.srcNum / 8
  let n := g.srcNum % 8
  if g.srcType = 1 ∧ s.on (AFE_IN_CFG_CHOP i n) then
    (if (e / (32 * 2 ^ s.get (AFE_IN_CFG_CHOP_DIV i n))) % 2 = 0 then 1 else -1)
  else 1

/-- An input with its signs: chop, and the lock-in phase at its stamped instant, marked CLIPPED where the generator was tripped or stopped. -/
def signed (s : State) (g : Cfg) (it : Item) : Item :=
  let t20 : Int := if g.oneBit then line20 s (edgeTime s g it.edge) else (it.stamp : Int) * 20
  let x1 := if g.oneBit then it.x * chopSign s g it.edge else it.x
  if g.lockin then
    { it with x := x1 * pgPhase s g.lockinPg t20,
              flags := it.flags.or { clip := pgWasOff s g.lockinPg t20 } }
  else { it with x := x1 }

/-- The entry of the phase-delay line `d` inputs back; one from before admission is empty. -/
def delayed (entries : List Item) (d : Nat) : Item := match entries[d]? with
  | some it => it
  | none => { x := 0, flags := { early := true } }

/-- Push an input into the line, trimming it now and then to what the longest phase delay needs. -/
def Chan.pushLine (x : Chan) (it : Item) (spare : Option Item) : Chan :=
  let long := decide (8192 ≤ x.lineLen)
  { x with line := if long then (it :: x.line).take 4096 else it :: x.line,
           lineLen := if long then 4096 else x.lineLen + 1,
           spareLine := match spare with
             | some i => if long then (i :: x.spareLine).take 4096 else i :: x.spareLine
             | none => x.spareLine }

/-- Which filters have an output ready after one input: the channel's own, and a retune's new one. -/
structure Ready where
  own : Bool := false
  new : Bool := false

/-- At a block boundary the primary's filter of a recalibration restarts from zero, and a shadow starts (R80, R83). -/
def atBoundary (s : State) (g : Cfg) (e : Int) (x : Chan) : Chan :=
  let due (b : Option Int) : Bool := (b.map (fun b => decide (b ≤ e))).getD false
  let x1 := if due x.clearAt then { x with flt := x.flt.clear (settleCount s g), clearAt := none } else x
  if due x1.shadowAt then { x1 with shadow := x1.shadow.map (fun _ => x1.flt.clear (settleCount s g)), shadowAt := none } else x1

/-- One input through the new filter of a retune: of the channel's own source from the channel's line, of another source from the retune's. A
one-bit filter starts at a block boundary (R137). -/
def stepNew (s : State) (gs : Cfg) (same : Bool) (e : Int) (standby : Option Item) (x : Chan) (t0 : Retune) : Retune × Bool :=
  let t := match standby with
    | some b => if same then t0 else { t0 with line := b :: t0.line }
    | none => t0
  let fed := same || standby.isSome
  let starts := t.startEdge.isSome || !gs.oneBit || e % 32 == 0
  if !fed || !starts then (t, false)
  else
    let (f, r) := t.flt.step gs (signed s gs (delayed (if same then x.line else t.line) gs.delay))
    let sf := t.sflt.map (fun f => (f.step gs (signed s gs (delayed x.spareLine gs.delay))).1)
    ({ t with flt := f, sflt := sf, startEdge := some (t.startEdge.getD e) }, r)

/-- One input of the channel (with the spare modulator's, and the input of a standby filter with another source) through the
phase-delay line and every filter that runs. `run` is false before the SYNC's first input. -/
def stepInput (s : State) (g gs : Cfg) (run : Bool) (it : Item) (spare standby : Option Item) (x0 : Chan) : Chan × Ready :=
  let x1 := x0.pushLine it spare
  if !run then (x1, {})
  else
    let x1 := atBoundary s g it.edge x1
    let own := signed s g (delayed x1.line g.delay)
    let (f, r) := if (x1.retune.map (fun t => t.oldStopped)).getD false then (x1.flt, false)
      else x1.flt.step g { own with edge := it.edge }
    let sh := if x1.shadowAt.isSome then x1.shadow else x1.shadow.map (fun sf => (sf.step g (signed s g (delayed x1.spareLine g.delay))).1)
    let x2 := { x1 with flt := f, shadow := sh }
    match x1.retune with
    | none => (x2, { own := r })
    | some t =>
      let (t1, r') := stepNew s gs (gs.src == g.src) it.edge standby x1 t
      ({ x2 with retune := some t1 }, { own := r, new := r' })

/-! ### An output (R114, R115, R125, R131, R133, R135) -/

/-- The correction of R81 for AIN sources, with its saturation; GAIN is unsigned. -/
def correct (s : State) (g : Cfg) (v : Int) : Int × Bool :=
  if g.srcType = 1 then
    let i := g.srcNum / 8
    let n := g.srcNum % 8
    let a := rshRound ((v - s.getS (AFE_CORR_OFS_OFS i n) * 2 ^ 8) * (s.get (AFE_CORR_GAIN_GAIN i n) : Nat)) 22
    (satS 32 a, satS 32 a != a)
  else (v, false)

/-- v of a filter before the correction, blended when a fade runs, with its window flags; `i` is the fade output. -/
def filterValue (s : State) (g : Cfg) (f : Filter) (fade : Option (Fade × Nat)) (e m : Nat) : Int × WinFlags :=
  let (z, fl) := f.out g s g.bank
  let (v, cl) := normalise z e m
  match fade with
  | none => (v, fl.or { clip := cl })
  | some (fd, i) =>
    let (z2, fl2) := f.out g s fd.bank
    let (v2, cl2) := normalise z2 fd.normE fd.normM
    ((v * ((fd.len : Int) - i) + v2 * i + fd.len / 2) / fd.len, (fl.or fl2).or { clip := cl || cl2 })

/-- Count an output in the recalibration's present state and gather its sums (R80, R81): `vp`, `vs` are the corrected
values of the primary and of the shadow, `raw` the primary's uncorrected value, `d` the delivered value, in 2^−31 FS. -/
def recalCount (k kk : Nat) (vp vs raw d : Int) (s : State) : State :=
  let r := s.recal k
  let ov := max 1 (s.get (AFE_COM_SM_CTRL_OVERLAP k))
  let cal := max 1 (s.get (AFE_COM_SM_CTRL_CAL_OUTPUTS k))
  match s.get (AFE_COM_SM_STAT_STATE k) with
  | 2 => if r.count < ov then s.setRecal k { r with count := r.count + 1, sum := r.sum + (vp - vs) } else s
  | 3 | 4 =>
    if r.count < kk then s.setRecal k { r with count := r.count + 1 }
    else if r.count < kk + cal then s.setRecal k { r with count := r.count + 1, sum := r.sum + raw } else s
  | 6 => if r.count < ov then s.setRecal k { r with count := r.count + 1, sum := r.sum + (vp - d) } else s
  | _ => s.setRecal k { r with count := r.count + 1 }

/-- The flags byte of R223. -/
def flagByte (settling poison clip gap recal seam : Bool) : Nat :=
  b2n settling * 128 + b2n poison * 64 + b2n clip * 32 + b2n gap * 16 + b2n recal * 8 + b2n seam * 4 + b2n recal

/-- Clip of the format for the flags byte. -/
def formatClip (g : Cfg) (v : Int) : Bool := (formatValue g v).2

/-- The output of the channel's own filter run (primary, or the shadow while it delivers), with the bookkeeping of the
filter, the fade and the recalibration; not yet delivered. `e` is the decimation edge. -/
def ownOutput (c : Nat) (e : Int) (s : State) : Output × State :=
  let g := chCfg s c
  let x := s.chan c
  let fade := x.fade.map (fun f => (f, min f.len (f.done + 1)))
  let nE := s.get (SCHED_CH11_NORM_E c)
  let nM := s.get (SCHED_CH10_NORM_M c)
  let (raw, fl) := filterValue s g x.flt fade nE nM
  let (vp, cc) := correct s g raw
  let fsel := fade.map (fun p => (p.1.bank, p.2, p.1.len))
  let (dnum, len) := delayNum s c g fsel
  let g2 := match fade with
    | some (f, i) => gIn2 s g g.bank * len + (gIn2 s g f.bank - gIn2 s g g.bank) * i
    | none => gIn2 s g g.bank
  let stamp := if g.oneBit then stampOneBit s g e dnum len else stampMulti s c g x.flt g2 len
  let k := recalOf s c
  let (vs0, fls) := match x.shadow with
    | some sf => filterValue s g sf fade nE nM
    | none => (0, {})
  let (vs, ccs) := correct s g vs0
  let shadowDel := match k with
    | some k => (s.recal k).delivering
    | none => false
  let comp : Int := match k with
    | some k => if s.on (AFE_COM_SM_CTRL_SEAM_COMP k) then s.getS (AFE_COM_SEAM_IN_SEAM k) * 2 ^ 8 else 0
    | none => 0
  let vsd := satS 32 (vs + comp)
  let v := if 0 < x.lostOut then 0 else if shadowDel then vsd else vp
  let w := if shadowDel then fls else fl
  let clip := w.clip || (if shadowDel then ccs || vsd != vs + comp else cc) || formatClip g v
    || stuckWindow s g e x
  let settle := if shadowDel then (x.shadow.map (fun f => f.settle)).getD 0 else x.flt.settle
  let settling := decide (0 < settle) || w.early
  let o : Output :=
    { v := v, stamp := stamp, settling := settling, fresh := x.fresh, inFade := fade.isSome,
      flags := flagByte settling w.poison clip (x.gapNext || decide (0 < x.gapRun) || decide (0 < x.gapSettle) || decide (0 < x.lostOut) || w.gap) shadowDel x.seamNext }
  let dec (f : Filter) : Filter := { f with settle := f.settle - 1, prev := some f.last }
  let x1 := { x with flt := dec x.flt, shadow := x.shadow.map dec, gapNext := false, seamNext := false, fresh := false,
                     gapSettle := x.gapSettle - 1, gapRun := x.gapRun - 1, lostOut := x.lostOut - 1, fade := x.fade.map (fun f => { f with done := min f.len (f.done + 1) }) }
  let s1 := readBack c g dnum len (max (settle - 1) (earlyLeft s g x x.flt)) (s.setChan c x1)
  let s2 := match x1.fade with
    | some f => s1.set (SCHED_CH14_FADE_LEFT c) (f.len - f.done)
    | none => s1
  match k with
  | some k => (o, recalCount k (settleCount s g) vp vs raw v s2)
  | none => (o, s2)

/-- The fade of a channel has delivered its L outputs and completes (R135). -/
def fadeReady (s : State) (c : Nat) : Bool := match (s.chan c).fade with
  | some f => decide (f.len ≤ f.done)
  | none => false

/-- BANK of R135: the new bank cannot be taken by a channel whose bank in use is `now`. -/
def badBank (s : State) (g : Cfg) (now bank : Nat) : Bool :=
  bank == now || bankTaps s bank == 0 || decide (bankSum s bank ≤ 0) || (norm { g with bank := bank } (bankSum s bank)).isNone

/-- Start a fade to `bank` over `len` outputs, or refuse it (R135). -/
def startFade (c bank len : Nat) (s : State) : State :=
  let g := chCfg s c
  if badBank s g g.bank bank then s.set (SCHED_CH14_SWAP_RESULT c) 4
  else if !fits s (s.get (SCHED_CH8_ON_SLICE c)) (firLoad s g bank) then s.set (SCHED_CH14_SWAP_RESULT c) 3
  else match norm { g with bank := bank } (bankSum s bank) with
    | none => s.set (SCHED_CH14_SWAP_RESULT c) 4
    | some (e, m) =>
      let s1 := s.setChan c { s.chan c with fade := some { bank := bank, len := len, normE := e, normM := m }, run := (s.chan c).run + 1 }
      recalRecount c ((s1.set (SCHED_CH14_FADE_LEFT c) len).set (SCHED_CH14_FADE_BANK c) bank)

/-- The L-th fade output completes the swap (R135). -/
def fadeDone (c : Nat) (s : State) : State :=
  match (s.chan c).fade with
  | none => s
  | some f => if f.done < f.len then s else takeFade c f s

/-- A queued swap is checked again at the output after the fade ends, and its fade starts there (R136). -/
def queuedStart (c : Nat) (s : State) : State :=
  let x := s.chan c
  match x.fade, x.queued with
  | none, some (b, l) =>
    let s1 := ((s.setChan c { x with queued := none }).clear (SCHED_CH14_SWAP_Q c)).set (SCHED_CH14_SWAP_Q_BANK c) 0
    if x.retune.isSome then s1.set (SCHED_CH14_SWAP_RESULT c) 5 else startFade c b l s1
  | _, _ => s

/-- A request of a swap (R135, R136). -/
def swapRequest (c bank len : Nat) (s : State) : State :=
  let g := chCfg s c
  let x := s.chan c
  if nChannels s.variant ≤ c then s
  else if chState s c ≠ 2 ∨ !g.firEn ∨ x.retune.isSome then s.set (SCHED_CH14_SWAP_RESULT c) 5
  else if x.queued.isSome then pulse 517 ((s.set (SCHED_CH14_SWAP_RESULT c) 2).fault 0x1B 4)
  else match x.fade with
    | none => startFade c bank len s
    | some f =>
      if bank = g.bank ∨ badBank s g f.bank bank then s.set (SCHED_CH14_SWAP_RESULT c) 4
      else ((s.setChan c { x with queued := some (bank, len) }).raise (SCHED_CH14_SWAP_Q c)).set (SCHED_CH14_SWAP_Q_BANK c) bank

/-! ### Retunes (R137, R138) -/

/-- A request of a retune refused (R137). -/
def refuseRetune (c result : Nat) (s : State) : State := pulse 519 ((s.set (SCHED_CH14_RETUNE_RESULT c) result).fault 0x1B 5)

/-- H of R138: ⌈(G_old − G_new) / P_new⌉, counted in samples of the source for a multi-bit channel. -/
def holdEntries (s : State) (c : Nat) (g gs : Cfg) : Nat :=
  if g.oneBit then
    (ceilDivInt ((delayNum s c g none).1 - (delayNum s c gs none).1) (2 * (gs.r * gs.d * tapCycles s gs : Nat))).toNat
  else (ceilDivInt (gIn2 s g g.bank - gIn2 s gs gs.bank) (2 * (gs.r * gs.d : Nat))).toNat

/-- A request of a retune; true when it was accepted (R137). -/
def retuneRequest (c : Nat) (s : State) : Bool × State :=
  let gs := standbyCfg s c
  if nChannels s.variant ≤ c then (false, s)
  else if chState s c ≠ 2 then (false, refuseRetune c 5 s)
  else if (s.chan c).retune.isSome then (false, refuseRetune c 2 s)
  else if descReason s gs ≠ 0 then (false, refuseRetune c 4 (s.set (SCHED_CH8_REASON c) (descReason s gs)))
  else if !fits s (s.get (SCHED_CH8_ON_SLICE c)) (chanLoad s gs) then (false, refuseRetune c 3 s)
  else match norm gs (bankSum s gs.bank) with
    | none => (false, refuseRetune c 4 s)
    | some (e, m) =>
      let h := holdEntries s c (chCfg s c) gs
      let ok := decide (h ≤ s.get SCHED_HOLD_FREE)
      let k := settleCount s gs
      let s1 := s.setChan c { s.chan c with retune := some { flt := { settle := k }, sflt := (s.chan c).shadow.map (fun _ => { settle := k }), normE := e, normM := m, settle := k, hold := h, withHold := ok } }
      let s2 := if ok then (s1.set SCHED_HOLD_FREE (s.get SCHED_HOLD_FREE - h)).set (SCHED_CH15_HOLD c) h else s1
      (true, s2.raise (SCHED_CH14_RETUNING c))

/-- S_1 of a one-bit retune, predicted from the edge at which its grid started (R137). -/
def predictedS1 (s : State) (c : Nat) (gs : Cfg) (t : Retune) : Option Int :=
  match t.s1, t.startEdge with
  | some x, _ => some x
  | none, some e0 =>
    if gs.oneBit then
      let (dn, l) := delayNum s c gs none
      some (stampOneBit s gs (e0 + ((t.settle + 1) * gs.r * gs.d : Nat) - 1) dn l)
    else none
  | none, none => none

/-- The new filter's first deliverable output waits and the old filter has stopped: the switch is due. -/
def switchReady (s : State) (c : Nat) : Bool := match (s.chan c).retune with
  | some t => t.oldStopped && !t.held.isEmpty
  | none => false

/-- Exchange words 0 to 7 of the two descriptors, except EN, WATCH and SLICE (R137). -/
def exchangeDesc (c : Nat) (s : State) : State :=
  let mask := 0xF0000000
  (List.range 8).foldl (fun s i =>
    let a := (s.word (descAddr c i)).toNat
    let b := (s.word (standbyAddr c i)).toNat
    let a' := if i = 0 then (a &&& mask) ||| (b % 2 ^ 28) else b
    let b' := if i = 0 then a % 2 ^ 28 else a
    (s.setWord (descAddr c i) (w32 a')).setWord (standbyAddr c i) (w32 b')) s

/-- The switch of a retune (R137): the words are exchanged, the open batch closed, the held outputs delivered, the first with
SEAM (and GAP without a hold), and the read-back describes the new filter (R131). During a recalibration the filter that does not deliver
restarts from zero (R138). -/
def retuneSwitch (c : Nat) (s : State) : State :=
  match (s.chan c).retune with
  | none => s
  | some t =>
    if !t.oldStopped || t.held.isEmpty then s
    else
      let s0 := if (s.chan c).fade.isSome || (s.chan c).queued.isSome then endSwap c 6 s else s
      let same := (standbyCfg s c).src == (chCfg s c).src
      let live := ((recalOf s c).map (fun k => (s.recal k).delivering)).getD false
      let s1 := recalRecount c (exchangeDesc c (closeBatch c false s0))
      let s2 := (s1.set (SCHED_CH10_NORM_M c) t.normM).set (SCHED_CH11_NORM_E c) t.normE
      let s3 := endRetune c (if t.withHold then 1 else 6) s2
      let x := s3.chan c
      let zero := t.flt.clear t.settle
      let s4 := s3.setChan c
        { x with flt := if live then zero else t.flt, shadow := x.shadow.map (fun f => if live then t.sflt.getD f else zero), run := x.run + 1,
                 line := if same then x.line else t.line, lineLen := if same then x.lineLen else t.line.length,
                 gone := if same then x.gone else t.gone, clipBit := if same then x.clipBit else t.clipBit }
      let s5 := s4.set (SCHED_CH9_LOAD c) (chanLoad s4 (chCfg s4 c))
      let mark (i : Nat) (o : Output) : Output :=
        if i = 0 then { o with flags := o.flags ||| (if t.withHold then 0x04 else 0x14) } else o
      let s6 := (t.held.zip (List.range t.held.length)).foldl (fun s p => deliver c (mark p.2 p.1) s) s5
      let (dn, l) := delayNum s6 c (chCfg s6 c) none
      pulse 518 (readBack c (chCfg s6 c) dn l (max t.flt.settle (earlyLeft s6 (chCfg s6 c) (s6.chan c) t.flt)) s6)

/-- An output of the new filter of a retune: its first K_new are dropped, the rest wait for the switch. -/
def newOutput (c : Nat) (e : Int) (s : State) : State :=
  let x := s.chan c
  match x.retune with
  | none => s
  | some t =>
    let gs := standbyCfg s c
    let dec (f : Filter) : Filter := { f with settle := f.settle - 1, prev := some f.last }
    let f := dec t.flt
    let sf := t.sflt.map dec
    if t.count < t.settle then s.setChan c { x with retune := some { t with flt := f, sflt := sf, count := t.count + 1 } }
    else
      let k := (recalOf s c).filter (fun k => (s.recal k).delivering)
      let from' := if k.isSome then t.sflt.getD t.flt else t.flt
      let (raw, fl) := filterValue s gs from' none t.normE t.normM
      let (v0, cc) := correct s gs raw
      let v := match k with
        | some k => satS 32 (v0 + (if s.on (AFE_COM_SM_CTRL_SEAM_COMP k) then s.getS (AFE_COM_SEAM_IN_SEAM k) * 2 ^ 8 else 0))
        | none => v0
      let (dn, l) := delayNum s c gs none
      let stamp := if gs.oneBit then stampOneBit s gs e dn l else stampMulti s c gs t.flt (gIn2 s gs gs.bank) 1
      let o : Output := { v := v, stamp := stamp, settling := fl.early,
                          flags := flagByte fl.early fl.poison (fl.clip || cc || formatClip gs v) fl.gap k.isSome false }
      let t1 : Retune := { t with flt := f, sflt := sf, count := t.count + 1, held := t.held ++ [o], s1 := some (t.s1.getD stamp),
                                  oldStopped := t.oldStopped || !t.withHold }
      s.setChan c { x with retune := some t1 }

/-- A waiting restart of R118 is taken at an output boundary, during a retune too, which it cancels (R139). -/
def restartIfDue (c : Nat) (s : State) : State := match (s.chan c).restart with
  | some ws => restartDesc c ws s
  | none => s

/-- The channel's own output is due at edge `e`: during a retune, one with a stamp of S_1 or more is discarded and the old
filter stops (R137); a waiting restart of R118 follows the output. -/
def ownDue (c : Nat) (e : Int) (s : State) : State :=
  let s0 := queuedStart c (if fadeReady s c then fadeDone c s else s)
  let (o, s1) := ownOutput c e s0
  match (s1.chan c).retune with
  | some t =>
    let stop := match predictedS1 s1 c (standbyCfg s1 c) t with
      | some s1' => decide (s1' ≤ o.stamp)
      | none => false
    restartIfDue c (if stop then s1.setChan c { s1.chan c with retune := some { t with oldStopped := true } } else deliver c o s1)
  | none => restartIfDue c (deliver c o s1)

/-- What follows one input: the own output first, then the new filter's; of a multi-bit source with a hold the new one's first, since S_1 is its
stamp. -/
def afterInput (c : Nat) (e : Int) (r : Ready) (s : State) : State :=
  let first := r.new && !(chCfg s c).oneBit && ((s.chan c).retune.map (fun t => t.withHold)).getD false
  let s0 := if first then newOutput c e s else s
  let s1 := if r.own then ownDue c e s0 else s0
  if r.new && !first then newOutput c e s1 else s1

/-! ### Feeding a channel -/

/-- The reference of an input is not available at edge `e`: its bits return to normal at the first block boundary after it does (R69). -/
def goneAt (now was : Bool) (e : Int) : Bool := now || (was && e % 32 != 0)

/-- Feed bits until an output is ready; the state serves only for settings. `gone`: the input's reference is not available; `poison`: a word
that enters with them carries a parity error (R223). -/
def feedRun (s : State) (g gs : Cfg) (run sameSrc gone0 poison : Bool) :
    List (Bool × Option Bool × Option Bool) → Chan → List (Bool × Option Bool × Option Bool) × Chan × Ready
  | [], x => ([], x, {})
  | (b, sp, st) :: r, x =>
    let one (v : Bool) : Int := if v then 1 else -1
    let e := x.edge
    let gone := goneAt gone0 x.gone e
    let goneS := goneAt (refGone s gs.srcType gs.srcNum) ((x.retune.map (fun t => t.gone)).getD false) e
    let clipS := (x.retune.map (fun t => t.clipBit)).getD false
    let fl : WinFlags := { clip := gone, poison := poison }
    let spare := if x.shadow.isSome then some { x := if gone then -1 else (sp.map one).getD 0, edge := e, flags := fl } else none
    let standby := if sameSrc then none else some { x := if goneS then -1 else (st.map one).getD 0, edge := e, flags := { clip := goneS || clipS, poison := poison } }
    let b' := b && !gone
    let x0 := { x with clipBit := false, gone := gone, retune := x.retune.map (fun t => { t with clipBit := false, gone := goneS }), stuck := x.stuck.map (fun t => if t.2.1 == b' || t.2.2.isSome then t else (t.1, t.2.1, some e)) }
    let (x1, rd) := stepInput s g gs run { x := one b', edge := e, flags := { fl with clip := gone || x.clipBit } } spare standby x0
    let x2 := { x1 with edge := e + 1 }
    if rd.own || rd.new then (r, x2, rd) else feedRun s g gs run sameSrc gone0 poison r x2

/-- Feed bits to a one-bit channel, delivering every output that becomes ready. -/
def feedBits (c : Nat) (poison : Bool) : Nat → List (Bool × Option Bool × Option Bool) → State → State
  | 0, _, s => s
  | n + 1, bs, s =>
    let s0 := if switchReady s c then retuneSwitch c s else s
    let g := chCfg s0 c
    let gs := standbyCfg s0 c
    let (rest, x, rd) := feedRun s0 g gs (chState s0 c == 2) (gs.src == g.src) (refGone s0 g.srcType g.srcNum) poison bs (s0.chan c)
    let s1 := afterInput c (x.edge - 1) rd (s0.setChan c x)
    if rest.isEmpty then s1 else feedBits c poison n rest s1

/-- Serve one sample of a multi-bit channel: of its own source, or during a retune of the standby's; others are of a source that the channel has
left. -/
def serveSample (c : Nat) (i : InSample) (s : State) : State :=
  let s0 := if switchReady s c then retuneSwitch c s else s
  let s0 := if fadeReady s0 c then fadeDone c s0 else s0
  let g := chCfg s0 c
  let gs := standbyCfg s0 c
  let x := s0.chan c
  let start := match x.startAt with
    | some t => decide (t * 2 ^ 32 ≤ i.stamp)
    | none => true
  let run := (chLogical s0 c == 2 || chLogical s0 c == 3) && start
  let x0 := if run then { x with startAt := none } else x
  let it : Item := { x := i.value, stamp := i.stamp, flags := i.flags }
  if i.src = g.src then
    let (x1, rd) := stepInput s0 g gs run it none none x0
    afterInput c 0 rd (s0.setChan c x1)
  else match x.retune with
    | some t =>
      if i.src = gs.src then
        let (t1, r) := stepNew s0 gs false 0 (some it) x t
        afterInput c 0 { new := r } (s0.setChan c { x with retune := some t1 })
      else s0
    | none => s0

/-- Serve samples from the FIFO while `p` holds of the first, at most `n`. -/
def serveWhile (c : Nat) (p : State → InSample → Bool) : Nat → State → State
  | 0, s => s
  | n + 1, s =>
    match (s.chan c).fifo with
    | [] => s
    | i :: r => if p s i then serveWhile c p n (serveSample c i (s.setChan c { s.chan c with fifo := r })) else s

/-- A channel takes samples in WAIT_SYNC (into its phase-delay line) and RUNNING; while it is MIGRATING they gather in its input buffer. -/
def takesInput (s : State) (c : Nat) : Bool := chState s c == 1 || chState s c == 2

/-- The deadline of a sample (R121, R122): its arrival plus MIN_INTERVAL, or that much after the previous deadline where it comes less than
MIN_INTERVAL after the previous sample. -/
def stepDeadline (x : Chan) (tb min' : Nat) : Nat := match x.arrival with
  | some a => if a + min' ≤ tb then tb + min' else x.deadline + min'
  | none => tb + min'

/-- A multi-bit sample of a source with a stamp in 2^−32 ticks arrives at a channel (R122): samples whose deadline has passed have been
stepped. -/
def sampleArrival (c : Nat) (src : Nat × Nat) (v : Int) (stamp : Nat) (fl : WinFlags) (s : State) : State :=
  let moving := chState s c == 6 && (chLogical s c == 1 || chLogical s c == 2)
  if !(takesInput s c || moving) || (chCfg s c).oneBit then s
  else
    let s1 := if moving then s else serveWhile c (fun s i => decide (i.deadline ≤ s.tb)) 64 s
    let x := s1.chan c
    if (if moving || decide (4 < x.fifo.length) then 64 else 4) ≤ x.fifo.length then
      pulse 515 ((((s1.setChan c { x with gapNext := true }).raise (SCHED_CH8_OVERRATE c)).fault 0x1B 3))
    else
      let d := stepDeadline x s1.tb (chCfg s1 c).minInterval
      s1.setChan c { x with fifo := x.fifo ++ [{ value := v, stamp := stamp, flags := fl, deadline := d, src := src }], deadline := d, arrival := some s1.tb }

/-- A channel takes input from a source, during a retune from the standby's too. -/
def takesFrom (s : State) (c type num : Nat) : Bool :=
  (s.get (SCHED_CH0_SRC_TYPE c) == type && s.get (SCHED_CH0_SRC_NUM c) == num)
  || ((s.chan c).retune.isSome && (standbyCfg s c).srcType == type && (standbyCfg s c).srcNum == num)

/-- A sample of a source reaches every channel that takes input from it. -/
def sourceSample (type num : Nat) (v : Int) (stamp : Nat) (fl : WinFlags) (s : State) : State :=
  ((s.chans.map (fun p => p.1)).filter (fun c => takesFrom s c type num)).foldl (fun s c => sampleArrival c (type, num) v stamp fl s) s

/-- The bits of an undriven PDM pin: 0 while its pull-down is enabled, else open (R76), and draws take their places (DESIGN CHOICE, log
entry 6). -/
def undrivenBits (g : Cfg) (n : Nat) (s : State) : List Bool × State :=
  if g.srcType ≠ 2 ∨ bit (s.get PDM_PULL_EN) (g.srcNum / 2) then (List.replicate n false, s)
  else (List.range n).foldl (fun (p : List Bool × State) _ =>
    let (v, t) := p.2.draw
    (bit v 0 :: p.1, t)) ([], s)

/-- A stream of a PDM source delivers bits of 0 while it is not enabled (R84). -/
def streamLive (s : State) (g : Cfg) : Bool := g.srcType != 2 || bit (s.get PDM_STREAM_EN_EN) g.srcNum

/-- The engine works on a channel: bits of a one-bit source, which nothing may have driven, or the FIFO of a multi-bit one until an output. -/
def channelOutput (c : Nat) (src : SourceBits) (sp st : List Bool) (s0 : State) : State :=
  let g := chCfg s0 c
  let (bs, s) := if src.undriven && g.srcType == 2 && takesInput s0 c then undrivenBits g src.bits.length s0 else (src.bits, s0)
  if !takesInput s c then s
  else if g.oneBit then
    let ins := (bs.zip (List.range bs.length)).map (fun p => (p.1 && streamLive s g, sp[p.2]?, (st[p.2]?).map (fun b => b && streamLive s (standbyCfg s c))))
    feedBits c src.poison (bs.length + 1) ins s
  else
    let n := (s.chan c).flt.prev
    serveWhile c (fun s _ => (s.chan c).flt.prev == n) 64 s

/-- A stopping channel delivers the outputs already begun, closes its batch and goes OFF; a held enable then starts its
admission (R117). -/
def stopNow (c : Nat) (s : State) : State :=
  let s1 := serveWhile c (fun _ _ => true) 64 s
  let held := (s1.chan c).heldEnable
  let s2 := leave c 0 s1
  s2.setChan c { admitting := held, run := (s2.chan c).run }

/-- The end of STOPPING. -/
def stopDone (c : Nat) (s : State) : State := if chState s c = 3 then stopNow c s else s

/-- The `n` inputs from the channel's next edge on are lost: their entries of the phase-delay line are free values. -/
def lostInputs (c n : Nat) (s : State) : State :=
  let d := s.draw
  let x := d.2.chan c
  let entry (i : Nat) : Item := { x := if bit d.1 i then 1 else -1, edge := x.edge + i, flags := { gap := true } }
  d.2.setChan c { (List.range n).foldl (fun x i => x.pushLine (entry i) none) x with edge := x.edge + n }

/-- A RUNNING channel takes a SYNC at edge `e` (a multi-bit one at its next sample), with GAP and then SETTLING (R122, R132, R361,
R363). -/
def restartMiss (c : Nat) (e : Int) (s : State) : State :=
  if chLogical s c ≠ 2 then s
  else
    let s0 := match recalOf s c with
      | some k => recalEnd k 7 s
      | none => s
    let s1 := changesMeetSync c s0
    let st := chState s1 c
    let s2 := if (chCfg s1 c).oneBit then restartFilter c e none (lostInputs c (e - (s1.chan c).edge).toNat s1)
      else restartFilter c 0 none s1
    let g := chCfg s2 c
    let lost := if g.oneBit then (spanInputs s2 g - 1) / max 1 (g.r * g.d) else 0
    (s2.setChan c { s2.chan c with gapNext := true, gapRun := lost }).set (SCHED_CH8_STATE c) st

/-- The block boundary at or after the channel's next edge. -/
def blockEdge (s : State) (c : Nat) : Int := ((s.chan c).edge + 31) / 32 * 32

/-- A one-bit block was overwritten before it was stepped (R122): the block of the channel's next edge is lost. -/
def deadlineMiss (c : Nat) (s : State) : State :=
  if chState s c ≠ 2 ∨ !(chCfg s c).oneBit then s
  else
    let s1 := pulse 514 ((((s.raise (SCHED_CH8_DEADLINE_MISS c)).fault 0x1B 2)).inc SCHED_MISS_COUNT_COUNT)
    restartMiss c ((s.chan c).edge / 32 * 32 + 32) s1

/-! ### Shedding and WATCH (R123, R15) -/

/-- Of the active channels of a slice, the one shed first. -/
def shedNext (s : State) (x : Nat) : Option Nat :=
  ((s.chans.map (fun p => p.1)).filter (fun c => chActive s c && s.get (SCHED_CH8_ON_SLICE c) == x)).foldl (fun b c => match b with
    | none => some c
    | some d => if s.get (SCHED_CH0_PRIO c) ≤ s.get (SCHED_CH0_PRIO d) then some c else some d) none

/-- Shed one channel; one that is STOPPING only ends its stop. -/
def shedOne (c : Nat) (s : State) : State :=
  if chLogical s c = 3 then stopNow c s
  else pulse 513 ((leave c 4 (serveWhile c (fun _ _ => true) 64 s)).fault 0x1B 1)

/-- Shed from a slice until its load is within the limit. -/
def shed (x limit : Nat) : Nat → State → State
  | 0, s => s
  | n + 1, s =>
    if sliceLoad s x ≤ limit then s
    else match shedNext s x with
      | some c => shed x limit n (shedOne c s)
      | none => s

/-- Bring every slice within its limit: a slice that is not active has none. -/
def shedAll (s : State) : State :=
  (List.range 3).foldl (fun s x => shed x (if sliceUp s x then sliceLimit s else 0) 256 s) s

/-- The slice for a channel that returns: where its own slice is not up, the one that adopted it (R366). -/
def placeBack (s : State) (c : Nat) (g : Cfg) (load : Nat) : Option Nat := match place s g load with
  | some x => some x
  | none => if fits s (s.get (SCHED_CH8_ON_SLICE c)) load then some (s.get (SCHED_CH8_ON_SLICE c)) else none

/-- A channel that was shed or stopped for WATCH waits for a SYNC again, where a slice has room and, with WATCH = 1, the WATCH set too (R120,
R123, R15). Its words are not checked again as a new descriptor, although they may have been rewritten since: R15 and R123 restart it and name
no check (DESIGN CHOICE, log entry 21). One that cannot return from WATCH is shed (DESIGN CHOICE, log entry 21). -/
def readmit (c : Nat) (s : State) : State :=
  let g := chCfg s c
  let load := chanLoad s g
  let room := !g.watch || watchFits s load
  match (if room then placeBack s c g load else none), norm g (bankSum s g.bank) with
  | some x, some (e, m) => enterWait c x load e m s
  | _, _ => if chState s c = 5 then pulse 513 ((s.set (SCHED_CH8_STATE c) 4).fault 0x1B 1) else s

/-- Shed channels in the order of their return: highest PRIO, then lowest number. -/
def shedOrder (s : State) : List Nat :=
  let cs := (s.chans.map (fun p => p.1)).filter (fun c => chState s c == 4)
  (List.range 16).flatMap (fun i => cs.filter (fun c => s.get (SCHED_CH0_PRIO c) == 15 - i))

/-- Capacity has returned. -/
def readmitShed (s : State) : State := (shedOrder s).foldl (fun s c => readmit c s) s

/-- Entry to WATCH stops the channels outside the WATCH set; entry to DOZE stops every channel. -/
def stopForWatch (all : Bool) (s : State) : State :=
  ((s.chans.map (fun p => p.1)).filter (fun c => chActive s c && (all || !s.on (SCHED_CH0_WATCH c)))).foldl
    (fun s c => if chLogical s c = 3 then stopNow c s else leave c 5 (serveWhile c (fun _ _ => true) 64 s)) s

/-- The return to RUN. -/
def returnFromWatch (s : State) : State :=
  ((s.chans.map (fun p => p.1)).filter (fun c => chState s c == 5)).foldl (fun s c => readmit c s) s

/-! ### Group SYNC, banks in use, writes to descriptors -/

/-- A write of ANV_SCHED.SYNC with GO (R132). -/
def groupSync (m : Nat) (s : State) : State :=
  s.set ⟨SCHED_SYNC_PEND_LO_PEND.addr + 4 * (m / 32), m % 32, 1⟩ 1

/-- A bank is in use (R112). -/
def bankInUse (s : State) (b : Nat) : Bool :=
  s.chans.any (fun p =>
    let g := chCfg s p.1
    let gs := standbyCfg s p.1
    let st := chState s p.1
    (decide (1 ≤ st) && decide (st ≤ 3) || st == 6) &&
      ((g.firEn && g.bank == b) || (gs.firEn && gs.bank == b) || (p.2.fade.map (fun f => f.bank == b)).getD false
        || (p.2.queued.map (fun q => q.1 == b)).getD false))

/-- DCSUM of a bank (R111). -/
def dcsum (b : Nat) (s : State) : State := s.setS (COEF_DCSUM_SUM b) (bankSum s b)

/-- After a software write of word 0 of channel `c`'s descriptor, old value `old`: EN and WATCH (R117, R118). -/
def word0Written (c old : Nat) (s : State) : State :=
  let en := s.on (SCHED_CH0_EN c)
  let s1 := if s.on (SCHED_CH0_WATCH c) && !bit old 30 && chActive s c then
      (if watchFits (s.clear (SCHED_CH0_WATCH c)) (s.get (SCHED_CH9_LOAD c)) then s
       else refuseDesc c 2 (s.clear (SCHED_CH0_WATCH c)))
    else s
  if en && !bit old 31 then startAdmission c s1
  else if !en && bit old 31 then
    match chState s1 c with
    | 1 | 2 => (cancelChanges c s1).set (SCHED_CH8_STATE c) 3
    | 3 => s1.setChan c { s1.chan c with heldEnable := false }
    | 4 | 5 => leave c 0 s1
    | 6 => let s2 := cancelChanges c s1; s2.setChan c { s2.chan c with former := 3, heldEnable := false }
    | _ => s1.setChan c { s1.chan c with admitting := false }
  else s1

/-- A PAGE reset of ANV_SCHED: every channel stops at once, its open batch closed with TRUNC (R117). -/
def anvReset (s : State) : State :=
  let s1 := (s.chans.map (fun p => p.1)).foldl (fun s c => slotsStop c (closeBatch c true s)) s
  let s2 := (List.range 4).foldl (fun s k => if s.get (AFE_COM_SM_STAT_STATE k) = 0 then s else recalEnd k 6 s) s1
  { s2 with chans := [] }

/-- Restored channels with EN = 1 are admitted in channel order (R117); the read-back of the others is for their restored words
(R131). -/
def admitRestored (s : State) : State :=
  (List.range (nChannels s.variant)).foldl (fun s c =>
    if s.word (descAddr c 0) = 0 ∨ chState s c ≠ 0 then s
    else if s.on (SCHED_CH0_EN c) then admitChan c s else readBackFresh c s) s

/-- `k` single-bit errors in the state words of a running channel are corrected and counted on its slice (R360). -/
def eccCorr (c k : Nat) (s : State) : State :=
  let x := s.get (SCHED_CH8_ON_SLICE c)
  if k = 0 ∨ !chActive s c ∨ 3 ≤ x then s else s.addSat (ANV_ECC_CNT_CORR x) k

/-! ### Commands -/

/-- `ADMISSION`. -/
def execAdmission (c : Nat) (s : State) : Out := done s (if (s.chan c).admitting then admitChan c s else s)

/-- `CHANNEL_STOP_DONE`. -/
def execChannelStopDone (c : Nat) (s : State) : Out := done s (stopDone c s)

/-- `CHANNEL_OUTPUT`: the inputs of a one-bit channel since the last one (R64 lays down no bit sequence), of its spare
modulator, and of a standby filter with another source. -/
def execChannelOutput (c : Nat) (bs : SourceBits) (sp st : List Bool) (s : State) : Out := done s (channelOutput c bs sp st (eccCorr c bs.corr s))

/-- `SAMPLE_ARRIVAL`. -/
def execSampleArrival (c : Nat) (v : Word) (stamp : Nat) (clip : Bool) (marks : SampleMarks) (s : State) : Out :=
  done s (sampleArrival c (chCfg s c).src (sx 32 v.toNat) stamp { clip := clip, poison := marks.poison } (eccCorr c marks.corr s))

/-- `DEADLINE_MISS`. -/
def execDeadlineMiss (c : Nat) (s : State) : Out := done s (deadlineMiss c s)

/-- `DCSUM_UPDATE`. -/
def execDcsumUpdate (b : Nat) (s : State) : Out := done s (dcsum b s)

/-- `FADE_DONE`. -/
def execFadeDone (c : Nat) (s : State) : Out := done s (fadeDone c s)

/-- `RETUNE_SWITCH`. -/
def execRetuneSwitch (c : Nat) (s : State) : Out := done s (retuneSwitch c s)

end Sys2Proof.Machine
end

