-- ==== Sys2Proof/Machine/Quench.lean ====
section
/-!
DEFINITION. Sys2Proof/Machine/Quench.lean: window monitors and pulse generators (spec/06_quench_and_pulse_generators.md, R85 to R104).
-/
namespace Sys2Proof.Machine

def State.setPg (s : State) (g : Nat) (x : Pg) : State := { s with pgs := SMap.put (fun _ => {}) s.pgs g x }
def State.wm (s : State) (n : Nat) : Wm := SMap.get (fun _ => {}) s.wms n
def State.setWm (s : State) (n : Nat) (x : Wm) : State := { s with wms := SMap.put (fun _ => {}) s.wms n x }

/-! ### Pulse generators: the output -/

/-- A bit of a word of the PG page with one bit per generator. -/
def pgBit (f : Fld) (g : Nat) : Fld := ⟨f.addr, g, 1⟩
/-- PG.TRIPPED and PG.RUN of a generator. -/
def pgTripped (s : State) (g : Nat) : Bool := s.on (pgBit PG_TRIPPED_TRIP g)
def pgRun (s : State) (g : Nat) : Bool := s.on (pgBit PG_RUN_RUN g)

/-- The generator exists and its page runs; from the point of no return of an entry to DOZE or OFF-KEEP generators are stopped (R103). -/
def pgLive (s : State) (g : Nat) : Bool :=
  decide (g < nMonitors s.variant) && s.runs 0x15 && !s.busStopped && !(s.pwr.phase == 2 && decide (2 ≤ s.pwr.target))

/-- The output is at its active level: at SAFE while tripped (R99), else as the schedule has it. -/
def pgActive (s : State) (g : Nat) : Bool :=
  if pgTripped s g then
    match s.get (PG_CFG_SAFE g) with
    | 1 => s.on (PG_CFG_POL g)
    | 2 => false
    | _ => !s.on (PG_CFG_POL g)
  else (s.pg g).active

/-! ### The duty sum (R101) -/

/-- Ticks of a sub-window. -/
def dutyWindow : Nat := 2048000

/-- Move the sub-windows on to number `k`: empty ones come in at the front, 64 are kept. -/
def dutyShift (d : List Nat) (by' : Nat) : List Nat := (List.replicate (min 64 by') 0 ++ d).take 64

/-- Add the active ticks from `a` to `b` to the sub-windows, which stand at the one of `a`; at most `n` sub-windows are passed. -/
def dutyAdd (active : Bool) : Nat → Nat → Nat → List Nat → List Nat
  | 0, _, _, d => d
  | n + 1, a, b, d =>
    let e := min b ((a / dutyWindow + 1) * dutyWindow)
    let d1 := if active then (d.headD 0 + (e - a)) :: d.tail else d
    if b / dutyWindow = a / dutyWindow then d1 else dutyAdd active n e b (dutyShift d1 1)

/-- The sub-windows at TB `now`. -/
def dutyAt (s : State) (g now : Nat) : List Nat :=
  let p := s.pg g
  let d0 := dutyShift (if p.duty.isEmpty then [0] else p.duty) (p.since / dutyWindow - p.window)
  if 66 * dutyWindow < now - p.since then
    (if pgActive s g then now % dutyWindow :: List.replicate 63 dutyWindow else [0])
  else dutyAdd (pgActive s g) 67 p.since now d0

/-- PG.DUTYn. -/
def dutySum (s : State) (g : Nat) : Nat := (dutyAt s g s.tb).sum

/-- Bring the sum up to TB. -/
def dutyUpdate (g : Nat) (s : State) : State :=
  s.setPg g { s.pg g with duty := dutyAt s g s.tb, since := s.tb, window := s.tb / dutyWindow }

/-- The ceiling in ticks. -/
def dutyCeiling (s : State) (g : Nat) : Nat := min 128 (s.get (PG_TRIP_DUTY_MAX g)) * 512000

/-! ### Trips (R91, R92, R99, R100) -/

/-- The trip line of a comparator: not asserted while unsettled, unless TRIP_ON_UNSETTLED (R88). -/
def tripHi (s : State) (n : Nat) : Bool :=
  bit (s.get WM_ENABLE_EN) n && s.on (WM_CFG_HI_EN n) && s.on (WM_STAT_HI_RAW n)
  && (!s.on (WM_STAT_UNSETTLED_HI n) || s.on (WM_CFG_TRIP_ON_UNSETTLED n))
def tripLo (s : State) (n : Nat) : Bool :=
  bit (s.get WM_ENABLE_EN) n && s.on (WM_CFG_LO_EN n) && s.on (WM_STAT_LO_RAW n)
  && (!s.on (WM_STAT_UNSETTLED_LO n) || s.on (WM_CFG_TRIP_ON_UNSETTLED n))

/-- The selected trip line of a generator (R91). -/
def tripLine (s : State) (g : Nat) : Bool :=
  let n := s.get (PG_TRIP_WM g)
  s.on (PG_TRIP_TRIP_EN g) && decide (n < nMonitors s.variant) &&
    (match s.get (PG_TRIP_COND g) with
     | 1 => tripLo s n
     | 2 => tripHi s n || tripLo s n
     | _ => tripHi s n)

/-- The line is masked by blanking (R92). -/
def blanked (s : State) (g : Nat) : Bool := match (s.pg g).blank with
  | some t => decide (s.tb < t)
  | none => false

/-- Times before this TB interest no input any more. -/
def pgOld (s : State) : Nat := s.tb - 2 ^ 24

/-- Keep the record of the times at which the generator is tripped or stopped (R102). -/
def pgNote (g : Nat) (s : State) : State :=
  let p := s.pg g
  match p.off, pgTripped s g || !p.running with
  | none, true => s.setPg g { p with off := some s.tb }
  | some a, false => s.setPg g { p with off := none, offs := (a, s.tb) :: p.offs.filter (fun i => decide (pgOld s ≤ i.2)) }
  | _, _ => s

/-- A change that may move the output: an inactive to active change starts blanking (R92). -/
def pgChange (g : Nat) (f : State → State) (s : State) : State :=
  let s0 := dutyUpdate g s
  let s1 := f s0
  let s2 := if !pgActive s0 g && pgActive s1 g && s1.get (PG_TRIP_BLANK g) != 0 then
      s1.setPg g { s1.pg g with blank := some (s1.tb + s1.get (PG_TRIP_BLANK g)) } else s1
  pgNote g (s2.set (pgBit PG_OUT_LEVEL g) (b2n (pgActive s2 g)))

/-- A trip with a cause (R99, R100). -/
def doTrip (g cause : Nat) (s : State) : State :=
  if pgTripped s g then s
  else
    let s1 := ((pgChange g (fun u => u.raise (pgBit PG_TRIPPED_TRIP g)) s).set (PG_STAT_CAUSE g) cause).raise (PG_STAT_TRIP_EVT g)
    let lim := s1.get (PG_CFG_RETRY_LIMIT g)
    let lock := decide (lim ≠ 0) && s1.get (PG_STAT_RETRIES g) == lim
    let s2 := if lock then (s1.raise (PG_STAT_LOCKOUT g)).raise (PG_STAT_LOCKOUT_EVT g) else s1
    let s3 := s2.setPg g { s2.pg g with tripped := true }
    let arg := g + cause * 2 ^ 4 + s3.get (PG_TRIP_WM g) * 2 ^ 8 + s3.get (PG_STAT_RETRIES g) * 2 ^ 16
      + s3.get (PG_STAT_LOCKOUT g) * 2 ^ 24
    bbRecord 0x0020 arg (sample (96 + g) s3)

/-- The trip of a generator whose line is asserted outside blanking, and the duty trip (R99, R101). -/
def tripIfDue (g : Nat) (s : State) : State :=
  if !pgLive s g then s
  else
    let s1 := if tripLine s g && !blanked s g then doTrip g 1 s else s
    if dutyCeiling s1 g < dutySum s1 g then doTrip g 2 s1 else s1

/-- Every generator looks at its line. -/
def tripAll (s : State) : State := (List.range 16).foldl (fun s g => tripIfDue g s) s

/-- A software clear (R100). A line that is still asserted outside blanking trips again. -/
def tripCleared (g : Nat) (s : State) : State :=
  let s1 := pgChange g (fun u => u.clear (pgBit PG_TRIPPED_TRIP g)) s
  tripIfDue g ((s1.clear (PG_STAT_LOCKOUT g)).set (PG_STAT_RETRIES g) 0)

/-- AUTO at a period start: the line released and the duty sum below the ceiling. -/
def autoClear (g : Nat) (s : State) : State :=
  if pgTripped s g && s.on (PG_CFG_CLEAR_MODE g) && !s.on (PG_STAT_LOCKOUT g) && !tripLine s g
      && decide (dutySum s g < dutyCeiling s g) then
    (pgChange g (fun u => u.clear (pgBit PG_TRIPPED_TRIP g)) s).inc (PG_STAT_RETRIES g)
  else s

/-! ### Periods (R96 to R98) -/

/-- PERIOD as it acts. -/
def pgPeriod (s : State) (g : Nat) : Nat := max 8 (s.get (PG_PERIOD_TICKS g))

/-- The schedule moves the output. -/
def pgOutput (g : Nat) (lvl : Bool) (s : State) : State := pgChange g (fun u => u.setPg g { u.pg g with active := lvl }) s

/-- Take the edges whose instant TB has reached, in order; at most `n`. A fall and a rise of one instant leave the output as it is. -/
def takeEdges (g : Nat) : Nat → State → State
  | 0, s => s
  | n + 1, s =>
    match (s.pg g).edges with
    | [] => s
    | (e, lvl) :: r =>
      if e ≤ s.tb ∧ !lvl ∧ r.head? = some (e, true) then takeEdges g n (pgOutput g true (s.setPg g { s.pg g with edges := r.tail }))
      else if e ≤ s.tb then takeEdges g n (pgOutput g lvl (s.setPg g { s.pg g with edges := r })) else s

/-- The scheduled active time of the present period. -/
def activeSpan (p : Pg) : Nat × Nat := (p.start + p.lat + p.delay, p.start + p.lat + p.delay + p.width)

/-- Record an active time that lies behind: it joins the like ones before it; what is old is dropped. -/
def pushSpan (s : State) (p : Pg) (i : Nat × Nat) : List Span :=
  let w := i.2 - i.1
  let kept := p.past.filter (fun x => decide (pgOld s ≤ x.rise + x.n * x.period))
  match kept with
  | x :: r => if x.width = w ∧ x.period = p.period ∧ i.1 = x.rise + x.n * x.period then { x with n := x.n + 1 } :: r else ⟨i.1, w, p.period, 1⟩ :: kept
  | [] => [⟨i.1, w, p.period, 1⟩]

/-- A period begins at nominal instant `t` with the timing as it stands (R96, R104); `left` periods follow it. -/
def beginPeriod (g t lat : Nat) (left : Option Nat) (s : State) : State :=
  let per := pgPeriod s g
  let del := s.get (PG_DELAY_TICKS g)
  let wid := s.get (PG_WIDTH_TICKS g)
  let tooLong := decide (per < del + wid)
  let w := if tooLong then per - del else wid
  let p := s.pg g
  let past := if p.running then pushSpan s p (activeSpan p) else p.past
  let es := if w = 0 then [] else [(t + lat + del, true), (t + lat + del + w, false)]
  let s1 := s.setPg g { p with running := true, start := t, lat := lat, period := per, delay := del, width := w, left := left,
                               edges := p.edges ++ es, past := past, tripped := false }
  let s2 := if tooLong then s1.fault 0x15 g else s1
  let s3 := autoClear g ((s2.raise (PG_STAT_RUNNING g)).raise (PG_STAT_PERIOD_EVT g))
  sample (96 + g) (takeEdges g 4 (pgNote g s3))

/-- A start at nominal instant `t` (R97). -/
def pgStart (g t : Nat) (s : State) : State :=
  if !pgLive s g || !pgRun s g then s
  else
    let p := s.pg g
    let lat := if s.clksrc = 0 then 4 else 8
    let n := s.get (PG_CFG_NPER g)
    let left := if n = 0 then none else some (n - 1)
    if !p.running then beginPeriod g t lat left s
    else if !s.on (PG_CFG_RESTART g) then s
    else
      let cut := ((activeSpan p).1, min (activeSpan p).2 t)
      let whole := decide (p.start + p.period ≤ t) && !p.tripped && !pgTripped s g
      let s1 := if whole then s.set (PG_STAT_RETRIES g) 0 else s
      let s0 := s1.setPg g { p with edges := [], running := false, past := pushSpan s p cut }
      beginPeriod g t lat left (if p.active then pgOutput g false s0 else s0)

/-- The running periods end: the output stays inactive. -/
def pgEnd (g : Nat) (s : State) : State :=
  let p := s.pg g
  let s1 := s.setPg g { p with running := false, past := pushSpan s p (activeSpan p) }
  pgNote g (s1.clear (PG_STAT_RUNNING g))

/-- The present period is over: the next begins, or the periods end after NPER or with RUN = 0; a period without a trip sets
RETRIES to 0 (R96, R97, R100). -/
def pgPeriodStart (g : Nat) (s : State) : State :=
  let p := s.pg g
  if !pgLive s g || !p.running || decide (s.tb < p.start + p.period) then s
  else
    let s1 := if p.tripped || pgTripped s g then s else s.set (PG_STAT_RETRIES g) 0
    if !pgRun s1 g then pgEnd g s1
    else match p.left with
      | some 0 => pgEnd g s1
      | some (k + 1) => beginPeriod g (p.start + p.period) p.lat (some k) s1
      | none => beginPeriod g (p.start + p.period) p.lat none s1

/-- Due edges are taken, and a duty trip follows at that update. -/
def pgEdge (g : Nat) (s : State) : State := if pgLive s g then tripIfDue g (takeEdges g 8 s) else s

/-- Blanking ends; a line still asserted trips (R92). -/
def blankEnd (g : Nat) (s : State) : State :=
  if blanked s g then s else tripIfDue g (s.setPg g { s.pg g with blank := none })

/-- A match of a compare channel starts the generators that follow it (R97, R98). -/
def pgsAtMatch (m t : Nat) (s : State) : State :=
  (List.range 16).foldl (fun s g => if s.on (PG_CFG_TRIG_EN g) && s.get (PG_CFG_TRIG_CMP g) == m then pgStart g t s else s) s

/-- A stopped generator keeps its duty sum and what it has been doing. -/
def Pg.stopped (p : Pg) : Pg := { duty := p.duty, since := p.since, window := p.window, past := p.past, off := p.off, offs := p.offs }

/-- Entry to DOZE, and a reset: generators stop with their outputs at SAFE (R103). -/
def pgsStop (s : State) : State :=
  (s.pgs.foldl (fun t c =>
    let u := dutyUpdate c.1 t
    let p := u.pg c.1
    let q := if p.running then { p with past := pushSpan u p ((activeSpan p).1, min (activeSpan p).2 u.tb) } else p
    pgNote c.1 ((u.setPg c.1 q.stopped).clear (PG_STAT_RUNNING c.1))) s).set PG_OUT_LEVEL 0

/-! ### Window monitors: comparators (R85 to R88) -/

/-- A threshold code at the ball, in nV: 1,171,875 nV a step, three times that with ATTEN = 1 (R85). -/
def wmNv (s : State) (n code : Nat) : Nat := (if s.on (WM_CFG_ATTEN n) then 3 else 1) * 1171875 * min 1023 code

/-- H in LSB (R87). -/
def hyst (h : Nat) : Nat := if h = 0 then 0 else 2 ^ h

/-- The monitor is enabled, and in DOZE it runs only with DOZE_EN (R103). -/
def wmLive (s : State) (n : Nat) : Bool :=
  decide (n < nMonitors s.variant) && s.runs 0x14 && bit (s.get WM_ENABLE_EN) n && (!s.busStopped || s.on (WM_CFG_DOZE_EN n))

/-- A comparator in the model's own terms: which side of its monitor it is, with its fields. -/
structure Comp where
  hi : Bool
  en : Fld
  raw : Fld
  uns : Fld
  filt : Fld
  rise : Fld
  fall : Fld
  res : Fld

def compHi (n : Nat) : Comp :=
  { hi := true, en := WM_CFG_HI_EN n, raw := WM_STAT_HI_RAW n, uns := WM_STAT_UNSETTLED_HI n, filt := WM_STAT_HI_F n,
    rise := WM_EVT_HI_RISE n, fall := WM_EVT_HI_FALL n, res := WM_CHECK_RESULT_HI n }
def compLo (n : Nat) : Comp :=
  { hi := false, en := WM_CFG_LO_EN n, raw := WM_STAT_LO_RAW n, uns := WM_STAT_UNSETTLED_LO n, filt := WM_STAT_LO_F n,
    rise := WM_EVT_LO_RISE n, fall := WM_EVT_LO_FALL n, res := WM_CHECK_RESULT_LO n }

/-- A comparator asserts, and releases, at an input level (R87). -/
def asserts (s : State) (n : Nat) (hi : Bool) (nv : Nat) : Bool :=
  if hi then decide (wmNv s n (s.get (WM_THR_HI_THR n)) < nv) else decide (nv < wmNv s n (s.get (WM_THR_LO_THR n)))
def releases (s : State) (n : Nat) (hi : Bool) (nv : Nat) : Bool :=
  if hi then decide (nv < wmNv s n (s.get (WM_THR_HI_THR n) - hyst (s.get (WM_THR_HI_HYST n))))
  else decide (wmNv s n (s.get (WM_THR_LO_THR n) + hyst (s.get (WM_THR_LO_HYST n))) < nv)

/-- The comparison with the band centre (R88). -/
def overCentre (s : State) (n : Nat) (hi : Bool) (nv : Nat) : Bool :=
  if hi then decide (wmNv s n (s.get (WM_THR_HI_THR n) - hyst (s.get (WM_THR_HI_HYST n)) / 2) < nv)
  else decide (nv < wmNv s n (s.get (WM_THR_LO_THR n) + hyst (s.get (WM_THR_LO_HYST n)) / 2))

/-- The record fields of one side. -/
def Wm.due (x : Wm) (hi : Bool) : Bool := if hi then x.dueHi else x.dueLo
def Wm.checked (x : Wm) (hi : Bool) : Bool := if hi then x.checkHi else x.checkLo
def Wm.hist (x : Wm) (hi : Bool) : List Bool := if hi then x.histHi else x.histLo
def Wm.setHist (x : Wm) (hi : Bool) (h : List Bool) : Wm := if hi then { x with histHi := h } else { x with histLo := h }
def Wm.setDue (x : Wm) (hi d : Bool) : Wm := if hi then { x with dueHi := d } else { x with dueLo := d }

/-- A comparator that runs follows R87 at a level; leaving the band settles an unsettled one. -/
def compFollow (n : Nat) (c : Comp) (nv : Nat) (s : State) : State :=
  if !s.on c.en || (s.wm n).due c.hi || (s.wm n).checked c.hi then s
  else
    let a := asserts s n c.hi nv
    let r := releases s n c.hi nv
    let s1 := if a then s.raise c.raw else if r then s.clear c.raw else s
    if (a || r) && s1.on c.uns then (s1.clear c.uns).raise (WM_EVT_SETTLED n) else s1

/-- The input of a monitor stands at a level: both comparators, the trips, the event source (R87, R91). -/
def comparatorChange (n nv : Nat) (s : State) : State :=
  if !wmLive s n then s
  else
    let s1 := s.setWm n { s.wm n with level := nv }
    tripAll (sample (80 + n) (compFollow n (compLo n) nv (compFollow n (compHi n) nv s1)))

/-- INSIDE_F, the inverse of OUTSIDE_F (R90). -/
def insideF (n : Nat) (s : State) : State :=
  s.set (WM_STAT_INSIDE_F n) (b2n (!(s.on (WM_STAT_HI_F n) || s.on (WM_STAT_LO_F n))))

/-- The first evaluation of one comparator that waits for it (R88). -/
def compFirst (n : Nat) (c : Comp) (nv : Nat) (s : State) : State :=
  if !s.on c.en || !(s.wm n).due c.hi || (s.wm n).checked c.hi then s
  else
    let v := overCentre s n c.hi nv
    let inside := !asserts s n c.hi nv && !releases s n c.hi nv && (s.get (if c.hi then WM_THR_HI_HYST n else WM_THR_LO_HYST n) != 0)
    let s1 := ((s.set c.raw (b2n v)).set c.uns (b2n inside)).set c.filt (b2n v)
    s1.setWm n (((s1.wm n).setDue c.hi false).setHist c.hi (List.replicate 9 v))

/-- `FIRST_EVALUATION`. -/
def firstEvaluation (n nv : Nat) (s : State) : State :=
  if !wmLive s n then s
  else
    let s1 := s.setWm n { s.wm n with level := nv }
    tripAll (sample (80 + n) (insideF n (compFirst n (compLo n) nv (compFirst n (compHi n) nv s1))))

/-- An evaluation falls due for the comparators of a monitor that are on; one that is off shows nothing. -/
def compDue (n : Nat) (c : Comp) (on : Bool) (s : State) : State :=
  if on && s.on c.en then s.setWm n ((s.wm n).setDue c.hi true)
  else (((s.clear c.raw).clear c.uns).clear c.filt).setWm n (((s.wm n).setDue c.hi false).setHist c.hi [])

/-- Settings of the upper, of the lower comparator of a monitor changed (R88, R104). The STAT bits of a monitor that is off are 0, INSIDE_F
too (DESIGN CHOICE, log entry 18). -/
def wmEvaluateOf (n : Nat) (hi lo : Bool) (s : State) : State :=
  let on := bit (s.get WM_ENABLE_EN) n
  let s1 := if hi then compDue n (compHi n) on s else s
  let s2 := if lo then compDue n (compLo n) on s1 else s1
  tripAll (if on then insideF n s2 else s2.clear (WM_STAT_INSIDE_F n))

/-- Both evaluate: the monitor was enabled, disabled or restored, or its MODE or ATTEN changed. -/
def wmEvaluate (n : Nat) (s : State) : State := wmEvaluateOf n true true s

/-! ### The majority filter (R89, R90) -/

/-- M and N of FILT. -/
def voteMN (s : State) (n : Nat) : Nat × Nat := match s.get (WM_CFG_FILT n) with
  | 1 => (5, 7)
  | 2 => (7, 9)
  | _ => (3, 5)

/-- The filtered output that LC_OUT chooses for linked counters (R90). -/
def lcOutLevel (s : State) (n : Nat) : Bool :=
  let hi := s.on (WM_STAT_HI_F n)
  let lo := s.on (WM_STAT_LO_F n)
  match s.get (WM_CFG_LC_OUT n) with
  | 0 => hi
  | 1 => lo
  | 2 => hi || lo
  | _ => !(hi || lo)

/-- An edge of that output reaches the linked counters that follow it with SRC = 4 (R53, R90). -/
def lcOutEdge (n : Nat) (was : Bool) (s : State) : State :=
  let now := lcOutLevel s n
  if now == was then s else lcHear 4 n (edgeTakes now) s

/-- One sample of the present comparator output through the filter. -/
def filterSample (n : Nat) (c : Comp) (s : State) : State :=
  if !s.on c.en || (s.wm n).due c.hi || (s.wm n).checked c.hi then s
  else
    let h := (s.on c.raw :: (s.wm n).hist c.hi).take 9
    let s1 := s.setWm n ((s.wm n).setHist c.hi h)
    let now := s1.on c.filt
    let (mm, nn) := voteMN s n
    if mm ≤ ((h.take nn).filter (fun b => b != now)).length then
      (if now then (s1.clear c.filt).raise c.fall else (s1.raise c.filt).raise c.rise)
    else s1

/-- `k` samples of a monitor; after nine of an unchanged input nothing moves any more. -/
def filterSamples (n : Nat) : Nat → State → State
  | 0, s => s
  | k + 1, s => filterSamples n k (lcOutEdge n (lcOutLevel s n) (filterSample n (compLo n) (filterSample n (compHi n) s)))

/-- `FILTERED_EDGE`. -/
def filteredEdge (n k : Nat) (s : State) : State :=
  if wmLive s n then sample (80 + n) (insideF n (filterSamples n (min 9 k) s)) else s

/-! ### Checks (R93, R94) -/

/-- A generator with RUN and TRIP_EN selects this comparator. -/
def armedComp (s : State) (n : Nat) (hi : Bool) : Bool :=
  (List.range 16).any (fun g => pgRun s g && s.on (PG_TRIP_TRIP_EN g) && s.get (PG_TRIP_WM g) == n &&
    (match s.get (PG_TRIP_COND g) with
     | 1 => !hi
     | 2 => true
     | _ => hi))

/-- A monitor is armed (R104). -/
def wmArmed (s : State) (n : Nat) : Bool := armedComp s n true || armedComp s n false

/-- The refusal of a check of one comparator, or none. -/
def checkRefusal (s : State) (n cmd : Nat) (c : Comp) : Option Nat :=
  if !bit (s.get WM_ENABLE_EN) n || !s.on c.en then some 6
  else if armedComp s n c.hi then some 4
  else if 3 ≤ cmd ∧ !s.on AFE_COM_REF_CTRL_INT_EN then some 5
  else none

/-- A refused comparator takes its code. -/
def checkCode (n cmd : Nat) (c : Comp) (s : State) : State := match checkRefusal s n cmd c with
  | some r => s.set c.res r
  | none => s

/-- A write of CHECKn.CMD; other values are ignored, and so is a write while a check runs. -/
def checkStart (n cmd : Nat) (s : State) : State :=
  if cmd < 1 ∨ 4 < cmd ∨ nMonitors s.variant ≤ n ∨ s.on (WM_STAT_CHECKING n) then s
  else
    let h := (checkRefusal s n cmd (compHi n)).isNone
    let l := (checkRefusal s n cmd (compLo n)).isNone
    let s1 := checkCode n cmd (compLo n) (checkCode n cmd (compHi n) s)
    if h || l then (s1.setWm n { s1.wm n with check := cmd, checkHi := h, checkLo := l }).raise (WM_STAT_CHECKING n) else s1

/-- The result of one comparator's check. -/
def checkResult (s : State) (n cmd : Nat) (hi : Bool) (p : Probe) : Nat :=
  let thr := s.get (if hi then WM_THR_HI_THR n else WM_THR_LO_THR n)
  let lvl := match cmd with
    | 2 => 0
    | 3 => 512
    | _ => 1024
  if cmd = 1 then (if p.before != p.after || p.near then 3 else if p.out != p.before then 1 else 2)
  else if thr ≤ lvl + 4 ∧ lvl ≤ thr + 4 then 3
  else if p.out == (if hi then decide (thr < lvl) else decide (lvl < thr)) then 1 else 2

/-- Record the result of one comparator. -/
def checkEnd (n : Nat) (c : Comp) (p : Probe) (s : State) : State :=
  if !(s.wm n).checked c.hi then s
  else
    let r := checkResult s n (s.wm n).check c.hi p
    let s1 := s.set c.res r
    if r = 2 then s1.fault 0x14 n else s1

/-- The check ends, and the comparators follow the input again. -/
def checkDone (n : Nat) (hi lo : Probe) (s : State) : State :=
  if !s.on (WM_STAT_CHECKING n) then s
  else
    let s1 := checkEnd n (compLo n) lo (checkEnd n (compHi n) hi s)
    let s2 := (s1.setWm n { s1.wm n with check := 0, checkHi := false, checkLo := false }).clear (WM_STAT_CHECKING n)
    comparatorChange n (s2.wm n).level s2

/-! ### Commands -/

/-- `COMPARATOR_CHANGE`: the input of monitor `n` has come to `nv` nanovolts at the ball, as the comparators see it. -/
def execComparatorChange (n nv : Nat) (s : State) : Out := done s (comparatorChange n nv s)

/-- `FIRST_EVALUATION`: evaluations that are due end with the input at `nv` nanovolts. -/
def execFirstEvaluation (n nv : Nat) (s : State) : Out := done s (firstEvaluation n nv s)

/-- `FILTERED_EDGE`: `k` edges of the filter clock pass at monitor `n`. -/
def execFilteredEdge (n k : Nat) (s : State) : Out := done s (filteredEdge n k s)

/-- `CHECK_DONE`. -/
def execCheckDone (n : Nat) (hi lo : Probe) (s : State) : Out := done s (checkDone n hi lo s)

/-- `PG_PERIOD_START`. -/
def execPgPeriodStart (g : Nat) (s : State) : Out := done s (pgPeriodStart g s)

/-- `PG_EDGE`. -/
def execPgEdge (g : Nat) (s : State) : Out := done s (pgEdge g s)

/-- `TRIP`. -/
def execTrip (g : Nat) (s : State) : Out := done s (tripIfDue g s)

/-- `BLANK_END`. -/
def execBlankEnd (g : Nat) (s : State) : Out := done s (blankEnd g s)

/-- `DUTY_TRIP`. -/
def execDutyTrip (g : Nat) (s : State) : Out := done s (tripIfDue g s)

end Sys2Proof.Machine
end

