-- ==== Sys2Proof/Machine/HardyRules.lean ====
section
/-!
DEFINITION. Sys2Proof/Machine/HardyRules.lean: the rule stage, the action unit and bursts (spec/12_hardy_rules.md, R203 to R218).
-/
namespace Sys2Proof.Machine

def State.rule (s : State) (r : Nat) : RuleState := SMap.get (fun _ => {}) s.rules r
def State.setRule (s : State) (r : Nat) (x : RuleState) : State := { s with rules := SMap.put (fun _ => {}) s.rules r x }

/-- A time code in ticks (R204). -/
def timeCode (c : Nat) : Nat := c % 64 * 2 ^ (match c / 64 % 4 with
  | 0 => 10
  | 1 => 17
  | 2 => 24
  | _ => 30)

/-! ### Terms (R205, R206) -/

/-- A term: its slot, result, comparison and constant. -/
structure Term where
  slot : Nat
  res : Nat
  cmp : Nat
  k : Nat

def termA (s : State) (r : Nat) : Term :=
  { slot := s.get (HARDYK_RULE0_SLOT_A r), res := s.get (HARDYK_RULE0_RES_A r), cmp := s.get (HARDYK_RULE0_CMP_A r), k := s.get (HARDYK_RULE1_K_A r) }
def termB (s : State) (r : Nat) : Term :=
  { slot := s.get (HARDYK_RULE0_SLOT_B r), res := s.get (HARDYK_RULE0_RES_B r), cmp := s.get (HARDYK_RULE0_CMP_B r), k := s.get (HARDYK_RULE2_K_B r) }

/-- The active terms of a rule. -/
def activeTerms (s : State) (r : Nat) : List Term :=
  if s.get (HARDYK_RULE0_OP r) = 0 then [termA s r] else [termA s r, termB s r]

/-- A point concerns a term: publications those of window results, updates those of DIFF. -/
def concerns (s : State) (p : Point) (t : Term) : Bool :=
  t.slot == p.slot && (match p.kind with
    | .publication => featCode s t.slot t.res != 9
    | .update => featCode s t.slot t.res == 9
    | .both => true)

/-- A term's result with its NODATA bit, as the slot's words stand; at a publication point that comes before its update, DIFF
of the previous included update. -/
def termResult (s : State) (p : Point) (t : Term) : Nat × Bool :=
  let here := (s.get (resultFld t.slot t.res), s.on (nodataFld t.slot t.res))
  if t.slot = p.slot ∧ featCode s t.slot t.res = 9 then p.diff.getD here else here

/-- A comparison of R206. -/
def compareK (cmp : Nat) (a k : Int) : Bool := match cmp with
  | 0 => decide (k < a)
  | 1 => decide (k ≤ a)
  | 2 => decide (a < k)
  | 3 => decide (a ≤ k)
  | 4 => decide (a = k)
  | _ => decide (a ≠ k)

/-- NONE, MIN, MAX, MEAN and DIFF compare signed. -/
def signedCode (c : Nat) : Bool := decide (c ≤ 3) || c == 9

/-- A term is true. -/
def termTrue (s : State) (r : Nat) (p : Point) (t : Term) : Bool :=
  let (v, nd) := termResult s p t
  if !(s.slot t.slot).published then false
  else if s.on (HARDYK_RULE0_STRICT r) && (!s.on (HARDYF_SLOT12_FULL t.slot) || s.on (HARDYF_SLOT12_FLAGGED t.slot)) then false
  else if t.cmp = 6 then true
  else if t.cmp = 7 then nd
  else if nd then false
  else if signedCode (featCode s t.slot t.res) then compareK t.cmp (sx 32 v) (sx 32 t.k)
  else compareK t.cmp v t.k

/-! ### Rule state bits, lines and flags -/

def stateBit (b : Nat) : Fld := ⟨HARDYK_STATE_LO_B.addr + 4 * (b / 32 % 2), b % 32, 1⟩
def lineBit (n : Nat) : Fld := ⟨(HARDYK_LINES_HL 0).addr + 4 * (n / 32 % 4), n % 32, 1⟩
def flagBit (n : Nat) : Fld := ⟨SEQ_FLAGS_FLAG.addr, n % 32, 1⟩

/-- The state test of SMODE. -/
def stateTest (s : State) (r : Nat) : Bool := match s.get (HARDYK_RULE3_SMODE r) with
  | 0 => true
  | 2 => !s.on (stateBit (s.get (HARDYK_RULE3_SBIT r)))
  | _ => s.on (stateBit (s.get (HARDYK_RULE3_SBIT r)))

/-! ### The chain (R210, R211) -/

/-- An action executed by the action unit: kinds 1 to 8. -/
def fifoKind (k : Nat) : Bool := decide (1 ≤ k) && decide (k ≤ 8)

/-- The walk at the firing: state actions are applied; answers whether the chain would go on beyond its last entry. -/
def walkChain : Nat → Nat → State → Bool × State
  | 0, _, s => (true, s)
  | n + 1, e, s =>
    let k := s.get (HARDYK_ACT_W0_KIND e)
    let b := stateBit (s.get (HARDYK_ACT_W0_ARG e) % 64)
    let s1 := if k = 9 then s.raise b else if k = 10 then s.clear b else s
    if s1.on (HARDYK_ACT_W0_NEXT_EN e) then walkChain n (s1.get (HARDYK_ACT_W0_NEXT e)) s1 else (false, s1)

/-- The next action for the FIFO's unit in a chain, reading each entry as the chain reaches it. -/
def nextAction (s : State) (f : Firing) : Nat → Nat → Option Firing
  | 0, _ => none
  | n + 1, e =>
    if fifoKind (s.get (HARDYK_ACT_W0_KIND e)) then some { f with next := e, left := n + 1 }
    else if s.on (HARDYK_ACT_W0_NEXT_EN e) then nextAction s f n (s.get (HARDYK_ACT_W0_NEXT e)) else none

/-- The action unit comes to the front of its FIFO: firings whose chain holds no further action leave it. -/
def trimFirings (s : State) : List Firing → List Firing
  | [] => []
  | f :: r => match nextAction s f f.left f.next with
    | some f' => f' :: r
    | none => trimFirings s r

/-- The action unit between its actions (R210): it reads the entries up to the next one it executes. -/
def actionIdle (s : State) : State := if s.firings.isEmpty || s.busStopped then s else { s with firings := trimFirings s s.firings }

/-- A firing (R207, R210): it takes its place in the FIFO whatever its chain holds. -/
def fire (r : Nat) (p : Point) (resultA : Nat) (s : State) : State :=
  let x := s.rule r
  let s1 := s.setRule r { x with armed := false, holdEnd := p.te + timeCode (s.get (HARDYK_RULE3_H r)), fires := (x.fires + 1) % 256 }
  let s2 := if s.get (HARDYK_RULE3_SMODE r) = 3 then s1.clear (stateBit (s.get (HARDYK_RULE3_SBIT r))) else s1
  let s3 := ((s2.inc HARDYK_FIRES_COUNT).raise HARDYK_LAST_FIRE_VALID).set HARDYK_LAST_FIRE_RULE r
  let act := s3.get (HARDYK_RULE3_ACT r)
  let (long, s4) := walkChain 16 act s3
  let s5 := if long then s4.fault hkPage 2 else s4
  if 64 ≤ s5.firings.length then (s5.inc HARDYK_LOST_FIRINGS).fault hkPage 1
  else { s5 with firings := s5.firings ++ [{ rule := r, te := p.te, slot := p.slot, resultA := resultA, next := act }] }

/-! ### Evaluation (R207 to R209) -/

/-- ARMED, HOLD_END and LAST_T of a rule clear (R208). -/
def ruleClear (r : Nat) (s : State) : State :=
  s.setRule r { s.rule r with armed := false, ta := 0, holdEnd := 0, lastT := 0 }

/-- One evaluation of one rule. -/
def evalRule (p : Point) (r : Nat) (s0 : State) : State :=
  let s := if p.te < (s0.rule r).lastT then ruleClear r s0 else s0
  let x := s.rule r
  let a := termTrue s r p (termA s r)
  let b := termTrue s r p (termB s r)
  let armed := x.armed && decide (p.te ≤ x.ta + timeCode (s.get (HARDYK_RULE3_T r)))
  let cond := match s.get (HARDYK_RULE0_OP r) with
    | 0 => a
    | 1 => a && b
    | 2 => a || b
    | _ => armed && b
  let held := decide (p.te < x.holdEnd)
  let s1 := s.setRule r { x with armed := armed, lastT := p.te, holding := held }
  let s2 := if cond && stateTest s r && !held then fire r p (termResult s p (termA s r)).1 s1 else s1
  if s.get (HARDYK_RULE0_OP r) = 3 ∧ a then s2.setRule r { s2.rule r with armed := true, ta := p.te } else s2

/-- The rule whose word 0 stands at an address. -/
def ruleOfAddr (a : Nat) : Option Nat :=
  if tableBase 0x3D ≤ a ∧ a < tableBase 0x3D + 4096 * 0x10 ∧ a % 0x10 = 0 then some ((a - tableBase 0x3D) / 0x10) else none

/-- The enabled rules that a point concerns, in ascending number: only a rule whose word 0 is listed can be enabled. -/
def concernedRules (s : State) (p : Point) : List Nat :=
  s.regs.filterMap (fun c => match ruleOfAddr c.1 with
    | some r => if s.on (HARDYK_RULE0_EN r) && (activeTerms s r).any (fun t => concerns s p t) then some r else none
    | none => none)

/-- The rule stage takes the oldest point of the FIFO; with ENABLE = 0 it is discarded, and in DOZE the stage is off (R209, R218). -/
def evaluationPoint (s : State) : State :=
  match s.points with
  | [] => s
  | p :: rest =>
    let s1 := { s with points := rest }
    if s.busStopped then s
    else if s.runs hkPage then (concernedRules s1 p).foldl (fun s r => evalRule p r s) s1 else s1

/-- After a software write of word `i` of rule `r` (R208): words 0 and 3 clear its hidden state. -/
def ruleWritten (r i : Nat) (s : State) : State := if i = 0 ∨ i = 3 then ruleClear r s else s

/-! ### The action unit -/

/-- An action that its target refused or ignored. -/
def actRefused (s : State) : State := s.inc HARDYK_ACT_REFUSED_COUNT

/-- The action unit executes the action at the front of the FIFO, if it is one of the kinds `k`, by `f`, and moves on in the
chain. -/
def actionUnit (k : Nat) (f : Firing → Nat → Nat → State → State) (s : State) : State :=
  if s.busStopped then s
  else match trimFirings s s.firings with
  | [] => { s with firings := [] }
  | x :: r =>
    let arg := s.get (HARDYK_ACT_W0_ARG x.next)
    let arg1 := s.get (HARDYK_ACT_W1_ARG1 x.next)
    if s.get (HARDYK_ACT_W0_KIND x.next) = k then
      let rest := if s.on (HARDYK_ACT_W0_NEXT_EN x.next) && decide (1 < x.left) then
          { x with next := s.get (HARDYK_ACT_W0_NEXT x.next), left := x.left - 1 } :: r else r
      f x arg arg1 { s with firings := rest }
    else { s with firings := x :: r }

/-- A packet of Hardy's that is lost when its queue refuses it (R212, R215). -/
def hardyPacket (q lane type : Nat) (ws : List Nat) (s : State) : State :=
  let (r, s1) := wholePacket q lane .hardy type 0 ws 16 s
  match r with
  | .ok => s1
  | _ => (s1.fault hkPage 3).inc HARDYK_LOST_PACKETS

/-- EVENT (R212). -/
def actEvent (f : Firing) (arg arg1 : Nat) (s : State) : State :=
  hardyPacket (bits arg 0 9) (bits arg 9 2) 2
    [f.te % 2 ^ 32, f.te / 2 ^ 32 % 2 ^ 32, arg1 % 256 * 2 ^ 24 + f.rule * 2 ^ 12 + f.slot, f.resultA] s

/-- LINE_SET and LINE_CLEAR (R213). -/
def actLine (up : Bool) (arg : Nat) (s : State) : State :=
  sample (256 + arg % 128) (s.set (lineBit (arg % 128)) (b2n up))

/-- PG_START (R211): refused with RUN = 0 or on an absent generator; ignored while periods run without RESTART. -/
def actPgStart (arg : Nat) (s : State) : State :=
  let g := arg % 16
  if !pgLive s g || !pgRun s g || ((s.pg g).running && !s.on (PG_CFG_RESTART g)) then actRefused s else pgStart g s.tb s

/-- RETUNE (R211). -/
def actRetune (arg : Nat) (s : State) : State :=
  let (ok, s1) := retuneRequest (arg % 256) s
  if ok then s1 else actRefused s1

/-! ### Bursts (R214 to R216) -/

/-- The stamp key of a packet (R222). -/
def stampKey (s : State) (p : Packet) : Option Nat :=
  let at' (i : Nat) : Option Nat := if i + 1 < p.words then some (s.memWord (p.addr i) + 2 ^ 32 * s.memWord (p.addr (i + 1))) else none
  match s.memWord (p.addr 0) / 2 ^ 16 % 16 with
  | 0 | 1 | 2 | 3 | 4 => at' 1
  | 6 => at' 2
  | _ => none

/-- A BURST packet (R215). -/
def burstPacket (b : Burst) (busy : Bool) (s : State) : State :=
  hardyPacket b.noticeQueue b.noticeLane 3
    [b.te % 2 ^ 32, b.te / 2 ^ 32 % 2 ^ 32,
     b2n b.markLost * 2 ^ 31 + b2n b.truncated * 2 ^ 30 + b2n busy * 2 ^ 29 + b.queue * 2 ^ 16 + b.rule,
     b.pre % 2 ^ 16 * 2 ^ 16 + b.counted % 2 ^ 16] s

/-- The packets of a lane that stand in a queue, oldest first, with their stamps. -/
def lanePackets (s : State) (q lane : Nat) : List (Packet × Nat) :=
  ((s.queue q).pkts.filter (fun p => p.lane == lane && !p.done)).filterMap (fun p => (stampKey s p).map (fun t => (p, t)))

/-- Where the mark of a burst goes: its packet, TRUNCATED, and PRE_PACKETS (R214 step 2). The oldest packet of the lane, open or not, takes it
where even that one starts after t_e − PRE. -/
def burstMark (s : State) (q lane te pre : Nat) : Option Nat × Bool × Nat :=
  let ps := lanePackets s q lane
  let trig := (ps.filter (fun p => decide (p.2 ≤ te))).getLast?
  let upTo (m : Packet) : Nat := match trig with
    | some t => ((ps.dropWhile (fun p => p.1.id != m.id)).takeWhile (fun p => p.1.id != t.1.id)).length
    | none => 0
  match ps.head?, (ps.filter (fun p => !p.1.opened)).find? (fun p => decide (te ≤ p.2 + pre)) with
  | none, _ => (none, false, 0)
  | some o, m =>
    if te < o.2 + pre then (some o.1.id, true, upTo o.1)
    else match m with
      | some m => (some m.1.id, false, upTo m.1)
      | none => (trig.map (fun t => t.1.id), false, 0)

/-- A burst is over. -/
def burstOver (b : Burst) : Bool := b.markLost || decide (b.post ≤ b.counted)

/-- BURST (R214). -/
def actBurst (f : Firing) (arg arg1 : Nat) (s : State) : State :=
  let q := bits arg 0 9
  let lane := bits arg 9 2
  let b0 : Burst := { queue := q, lane := lane, rule := f.rule, te := f.te, post := bits arg1 16 8, noticeQueue := bits arg1 7 9,
                      noticeLane := bits arg1 5 2, pre := 0 }
  if (s.queue q).mark.isSome ∨ 32 ≤ (s.bursts.filter (fun b => !burstOver b)).length then burstPacket b0 true s
  else
    let (m, tr, n) := burstMark s q lane f.te (timeCode (bits arg1 24 8))
    let b := { b0 with truncated := tr, pre := n, counted := min b0.post (SMap.get (fun _ => 0) f.closes (4 * q + lane)) }
    let s1 := placeMark q lane m s
    if b.post ≤ b.counted then burstPacket b false s1 else { s1 with bursts := s1.bursts ++ [b] }

/-- The first burst that is over leaves its packet. -/
def burstEnd (s : State) : State :=
  if s.busStopped then s
  else match s.bursts.find? burstOver with
  | some b => burstPacket b false { s with bursts := s.bursts.erase b }
  | none => s

/-- DOZE and resets of HARDY_K: hidden state clears, points and queued actions are discarded, bursts end without a packet and
their marks stay set (R218). -/
def hardyKReset (s : State) : State := { s with points := [], rules := [], firings := [], bursts := [] }

/-- HARDY_K.BURSTS.ACTIVE. -/
def burstsActive (s : State) : Nat := (s.bursts.filter (fun b => !burstOver b)).length

/-! ### Commands -/

/-- `EVALUATION_POINT`. -/
def execEvaluationPoint (s : State) : Out := done s (evaluationPoint s)

/-- `EVENT`. -/
def execEvent (s : State) : Out := done s (actionUnit 1 actEvent s)

/-- `LINE_SET`. -/
def execLineSet (s : State) : Out := done s (actionUnit 2 (fun _ a _ => actLine true a) s)

/-- `LINE_CLEAR`. -/
def execLineClear (s : State) : Out := done s (actionUnit 3 (fun _ a _ => actLine false a) s)

/-- `PG_START_ACTION`. -/
def execPgStartAction (s : State) : Out := done s (actionUnit 4 (fun _ a _ => actPgStart a) s)

/-- `BURST`. -/
def execBurst (s : State) : Out := done s (actionUnit 5 actBurst s)

/-- `RETUNE_ACTION`. -/
def execRetuneAction (s : State) : Out := done s (actionUnit 6 (fun _ a _ => actRetune a) s)

/-- `FLAG_SET`. -/
def execFlagSet (s : State) : Out := done s (actionUnit 7 (fun _ a _ => fun u => u.raise (flagBit a)) s)

/-- `FLAG_CLEAR`. -/
def execFlagClear (s : State) : Out := done s (actionUnit 8 (fun _ a _ => fun u => u.clear (flagBit a)) s)

/-- `BURST_END`. -/
def execBurstEnd (s : State) : Out := done s (burstEnd s)

end Sys2Proof.Machine
end

