-- ==== Sys2Proof/Machine/Flags.lean ====
section
/-!
DEFINITION. Sys2Proof/Machine/Flags.lean: the results and flags of Glemi-32 arithmetic (spec/16_glemi_instruction_set.md, R273 to R278).
A result comes with the STATUS that the instruction leaves.
-/
namespace Sys2Proof.Machine

/-- STATUS with one bit replaced. -/
def setFlag (st : Word) (b : Nat) (v : Bool) : Word :=
  if v then st ||| ((1 : Word) <<< b) else st &&& ~~~((1 : Word) <<< b)

/-- C of STATUS, as a number. -/
def carryOf (st : Word) : Nat := b2n (st.getLsbD 29)

/-- NZ (R273). -/
def setNZ (st r : Word) : Word := setFlag (setFlag st 31 (r.getLsbD 31)) 30 (decide (r = 0))

/-- NZ, and C. -/
def setNZC (st r : Word) (c : Bool) : Word := setFlag (setNZ st r) 29 c

/-- NZCV (R273). -/
def setNZCV (st r : Word) (c v : Bool) : Word := setFlag (setNZC st r c) 28 v

/-- a + b + k with its flags. -/
def addFlags (k : Nat) (a b st : Word) : Word × Word :=
  let r := w32 (a.toNat + b.toNat + k)
  (r, setNZCV st r (decide (2 ^ 32 ≤ a.toNat + b.toNat + k)) (decide (a.toInt + b.toInt + (k : Int) ≠ r.toInt)))

/-- a − b − k with its flags: C is 1 when no borrow occurs. -/
def subFlags (k : Nat) (a b st : Word) : Word × Word :=
  let r := a - b - w32 k
  (r, setNZCV st r (decide (b.toNat + k ≤ a.toNat)) (decide (a.toInt - b.toInt - (k : Int) ≠ r.toInt)))

/-- A logical result with NZ. -/
def logicFlags (r st : Word) : Word × Word := (r, setNZ st r)

/-- A shifted result with NZ and, unless the count was 0, C (R275). -/
def shiftFlags (r : Word) (c : Option Bool) (st : Word) : Word × Word :=
  (r, match c with
    | some b => setNZC st r b
    | none => setNZ st r)

/-- LSL by k. -/
def lslFlags (k : Nat) (a st : Word) : Word × Word :=
  shiftFlags (if k < 32 then a <<< k else 0) (if k = 0 then none else some (decide (k ≤ 32) && a.getLsbD (32 - k))) st

/-- LSR by k. -/
def lsrFlags (k : Nat) (a st : Word) : Word × Word :=
  shiftFlags (if k < 32 then a >>> k else 0) (if k = 0 then none else some (a.getLsbD (k - 1))) st

/-- ASR by k. -/
def asrFlags (k : Nat) (a st : Word) : Word × Word :=
  shiftFlags (a.sshiftRight (min k 32)) (if k = 0 then none else some (a.getLsbD (min k 32 - 1))) st

/-- ROR by k. -/
def rorFlags (k : Nat) (a st : Word) : Word × Word :=
  let r := a.rotateRight (k % 32)
  shiftFlags r (if k = 0 then none else some (r.getLsbD 31)) st

/-- MUL (R276): V when the signed product is not the sign extension of its low word. -/
def mulFlags (a b st : Word) : Word × Word :=
  let r := a * b
  (r, setFlag (setNZ st r) 28 (decide (a.toInt * b.toInt ≠ r.toInt)))

/-- The high word of the signed product. -/
def mulhs (a b : Word) : Word := BitVec.ofInt 32 (a.toInt * b.toInt / 2 ^ 32)

/-- The high word of the unsigned product. -/
def mulhu (a b : Word) : Word := w32 (a.toNat * b.toNat / 2 ^ 32)

/-- DIVS (R277): quotient, remainder, V. -/
def divs (a b : Word) : Word × Word × Bool :=
  if b = 0 then (if a.getLsbD 31 then 0x80000000 else 0x7FFFFFFF, a, false)
  else (BitVec.ofInt 32 (a.toInt.tdiv b.toInt), BitVec.ofInt 32 (a.toInt.tmod b.toInt), decide (a = 0x80000000 ∧ b = 0xFFFFFFFF))

/-- DIVU (R277): quotient, remainder, V. -/
def divu (a b : Word) : Word × Word × Bool :=
  if b = 0 then (0xFFFFFFFF, a, false) else (w32 (a.toNat / b.toNat), w32 (a.toNat % b.toNat), false)

/-- The number of leading zero bits. -/
def clz (a : Word) : Nat := ((List.range 32).takeWhile (fun i => !a.getLsbD (31 - i))).length

/-- Sign extension of the low `w` bits to a word. -/
def sextW (w n : Nat) : Word := BitVec.ofInt 32 (sx w n)

/-- A condition of B (R281) over STATUS. -/
def condBase (st : Word) (c : Nat) : Bool :=
  let z := st.getLsbD 30
  let nv := st.getLsbD 31 == st.getLsbD 28
  match c with
  | 0 => z
  | 1 => st.getLsbD 29
  | 2 => st.getLsbD 31
  | 3 => st.getLsbD 28
  | 4 => st.getLsbD 29 && !z
  | 5 => nv
  | 6 => !z && nv
  | _ => true

/-- cond[3] inverts the test of cond[2:0]. -/
def condHolds (st : Word) (c : Nat) : Bool := if bit c 3 then !condBase st (c % 8) else condBase st (c % 8)

end Sys2Proof.Machine
end

