-- ==== Sys2Proof/Machine/Hearth.lean ====
section
/-!
DEFINITION. Sys2Proof/Machine/Hearth.lean: the Kept image of a page, the journal, commits, compaction and what a restore finds
(spec/19_bring_up_and_hearth.md, R340 to R348).
-/
namespace Sys2Proof.Machine

/-! ### The Kept image (R340) -/

/-- The Kept bits of a register word of a row. -/
def keptMask (fs : List FRow) : Nat := fs.foldl (fun n f => if f.kept then n + (2 ^ f.w - 1) * 2 ^ f.lo else n) 0

/-- The Kept bits of the words of some rows, as (offset, mask) in ascending offset from `lo` on, `n` words. -/
def keptWords (rows : List Row) (lo n : Nat) : List (Nat × Nat) :=
  (List.range n).filterMap (fun i => match findRow rows (lo + 4 * i) with
    | some (r, _) => if keptMask r.flds = 0 then none else some (lo + 4 * i, keptMask r.flds)
    | none => none)

/-- How many bytes the rows of a table take. -/
def rowsEnd (rows : List Row) : Nat := rows.foldl (fun n r => max n (r.off + r.stride * (r.cnt - 1) + 4)) 0

/-- The words of the Kept image of a page with their Kept bits. -/
def imageWords (p : Nat) : List (Nat × Nat) :=
  if !hasKept p || (pageRows p).isEmpty then []
  else
    (pageBase p + 0x0C, 9) :: (pageBase p + 0x14, 0xFFFFFFFF) ::
      ((keptWords (pageRows p) 0x40 0x3F0).map (fun w => (pageBase p + w.1, w.2))
        ++ (keptWords (tableRows p) 0 (rowsEnd (tableRows p) / 4)).map (fun w => (tableBase p + w.1, w.2)))

/-- Words that show bits stored elsewhere: IN_ENABLE (the ENABLE bits of IN_CFG) and ARM_LO, ARM_HI (the ARM bits of CTRL). -/
def sharedWord (s : State) (a : Nat) : Option Nat :=
  if a = CMP_ARM_LO_ARM.addr then some (((List.range 32).map (fun n => s.get (CMP_CTRL_ARM n) * 2 ^ n)).sum)
  else if a = CMP_ARM_HI_ARM.addr then some (((List.range 32).map (fun n => s.get (CMP_CTRL_ARM (32 + n)) * 2 ^ n)).sum)
  else if inPages a && decide (8 ≤ pageOf a ∧ pageOf a ≤ 15) && (a - 0x40000000) % 0x4000 == 0x40 then
    some (((List.range 8).map (fun n => s.get (AFE_IN_CFG_ENABLE (pageOf a - 8) n) * 2 ^ n)).sum)
  else none

/-- The Kept image of a page as it stands. -/
def imageOf (s : State) (p : Nat) : List Nat :=
  (imageWords p).map (fun w => ((sharedWord s w.1).getD (s.word w.1).toNat) &&& w.2)

/-! ### The journal as it lies in the store (R341, R344) -/

/-- Word `i` of journal segment `k`. -/
def segWord (s : State) (k i : Nat) : Nat := s.memWord (0x11000000 + 0x1000 * k + 4 * i)
def segState (s : State) (k : Nat) : Nat := segWord s k 0 / 2 ^ 12 % 16
def setSegState (k v : Nat) (s : State) : State := s.setMemWord (0x11000000 + 0x1000 * k) (0xA5C30FFF + v * 2 ^ 12)

/-- Segments in a state, and the erased ones. -/
def segsIn (s : State) (st : Nat) : List Nat := (List.range 56).filter (fun k => segState s k == st)
def erasedCount (s : State) : Nat := (segsIn s 15).length
/-- The ACTIVE segment. -/
def activeSeg (s : State) : Option Nat := (segsIn s 7).head?

/-- Insert a segment into a list ordered by log sequence. -/
def insertSeq (s : State) (k : Nat) : List Nat → List Nat
  | [] => [k]
  | j :: r => if segWord s k 2 < segWord s j 2 then k :: j :: r else j :: insertSeq s k r
/-- The segments that hold records, in log-sequence order. -/
def usedSegs (s : State) : List Nat :=
  ((List.range 56).filter (fun k => segState s k != 15)).foldl (fun l k => insertSeq s k l) []

/-- The record words of the journal in log order, each with its segment. -/
def journalWords (s : State) : List (Nat × Nat) :=
  (usedSegs s).flatMap (fun k => (List.range 1020).map (fun i => (segWord s k (4 + i), k)))

/-- A valid record: page, FULL, generation, MAJOR, base generation, runs as (offset, words), and the segments it lies in. -/
structure JRec where
  page : Nat
  full : Bool
  gen : Nat
  major : Nat
  base : Nat
  runs : List (Nat × List Nat)
  segs : List Nat

/-- The runs of a record: each with its words, and how many words the payload takes. -/
def readRuns : Nat → List Nat → Nat → Option (List (Nat × List Nat) × Nat)
  | 0, _, used => some ([], used)
  | n + 1, ws, used => match ws with
    | [] => none
    | h :: r =>
      let c := h % 2 ^ 16
      if r.length < c then none
      else match readRuns n (r.drop c) (used + 1 + c) with
        | none => none
        | some (l, u) => some ((h / 2 ^ 16, r.take c) :: l, u)

/-- The valid record at the head of a word list, and its length in words: MAGIC 0x5A and a good CRC. -/
def readRecord (ws : List (Nat × Nat)) : Option (JRec × Nat) :=
  let h := (ws.headD (0, 0)).1
  if h / 2 ^ 24 ≠ 0x5A then none
  else
    let w := ws.map (fun x => x.1)
    match readRuns (h % 2 ^ 16) (w.drop 4) 4 with
    | none => none
    | some (runs, n) =>
      if crc32Words (w.take n) ≠ w.getD n 0 ∨ w.length ≤ n then none
      else some ({ page := h / 2 ^ 16 % 128, full := bit h 23, gen := w.getD 1 0, major := w.getD 2 0 / 2 ^ 24, base := w.getD 3 0,
                   runs := runs, segs := (ws.take (n + 1)).map (fun x => x.2) }, n + 1)

/-- Every valid record in log order; a word at which none begins is passed over. -/
def readRecords : Nat → List (Nat × Nat) → List JRec
  | 0, _ => []
  | n + 1, ws => match ws with
    | [] => []
    | _ :: r => match readRecord ws with
      | some (rec, len) => rec :: readRecords n (ws.drop len)
      | none => readRecords n r

/-- The index of the journal. -/
def journal (s : State) : List JRec := let ws := journalWords s; readRecords ws.length ws

/-! ### Rebuilding a generation (R345) -/

/-- The generation before `g`, and whether `a` is newer than `b` (R341). -/
def predGen (g : Nat) : Nat := if g = 1 then 2 ^ 32 - 1 else g - 1
def succGen (g : Nat) : Nat := if g = 2 ^ 32 - 1 then 1 else g + 1
def newerGen (a b : Nat) : Bool := a != b && decide ((a + 2 ^ 32 - b) % 2 ^ 32 < 2 ^ 31)

/-- Write a run into an image. -/
def applyRun (img : List Nat) (r : Nat × List Nat) : List Nat :=
  (r.2.zip (List.range r.2.length)).foldl (fun l x => l.set (r.1 + x.2) x.1) img

/-- The Kept image of a page whose words have their Reset values. -/
def resetImage (p : Nat) : List Nat := (imageWords p).map (fun w => (regReset w.1).toNat &&& w.2)

/-- The image of generation `g` with the records it needs, if it can be rebuilt from a page's records; a FULL record is
preferred to a DELTA. Words that its records do not hold, of a lower MINOR, stand as in `base`. -/
def rebuild (recs : List JRec) (base : List Nat) : Nat → Nat → Option (List Nat × List JRec)
  | 0, _ => none
  | n + 1, g =>
    match recs.reverse.find? (fun r => r.gen == g && r.full && r.major == 1) with
    | some r => some (r.runs.foldl applyRun base, [r])
    | none => match recs.reverse.find? (fun r => r.gen == g && !r.full && r.major == 1 && r.base == predGen g) with
      | none => none
      | some d => match rebuild recs base n (predGen g) with
        | some (img, used) => some (d.runs.foldl applyRun img, d :: used)
        | none => none

/-- The newest of some generations. -/
def newestGen (gs : List Nat) : Option Nat :=
  gs.foldl (fun b g => match b with
    | none => some g
    | some h => if newerGen g h then some g else some h) none

/-- The highest generation that can be rebuilt, trying the index's generations from the newest down: the generation, its image, the
records used, and whether a higher one failed. -/
def bestGen (recs : List JRec) (base : List Nat) : Nat → List Nat → Bool → Option (Nat × List Nat × List JRec × Bool)
  | 0, _, _ => none
  | n + 1, gs, low => match newestGen gs with
    | none => none
    | some g => match rebuild recs base (recs.length + 1) g with
      | some (img, used) => some (g, img, used, low)
      | none => bestGen recs base n (gs.filter (fun h => h != g)) true

/-- What the journal holds of a page. -/
def pageGen (s : State) (p : Nat) : Option (Nat × List Nat × List JRec × Bool) :=
  let recs := (journal s).filter (fun r => r.page == p)
  bestGen recs (resetImage p) (recs.length + 1) (recs.map (fun r => r.gen)) false

/-! ### Writing (R341, R346) -/

/-- Free record words: 1,020 of each erased segment and the rest of the ACTIVE one. -/
def freeWords (s : State) : Nat := 1020 * erasedCount s + (if (activeSeg s).isSome then 1024 - s.hearth.pos else 0)

/-- The erased segment with the lowest erase count. -/
def nextSegment (s : State) : Option Nat :=
  (segsIn s 15).foldl (fun b k => match b with
    | none => some k
    | some j => if segWord s k 1 < segWord s j 1 then some k else some j) none

/-- 1 + the highest log sequence of any segment that holds records. -/
def nextSeq (s : State) : Nat := ((usedSegs s).map (fun k => segWord s k 2)).foldl max 0 + 1

/-- The ACTIVE segment has no room: it is FULL, and the next one becomes ACTIVE. -/
def nextActive (s : State) : State :=
  let s1 := match activeSeg s with
    | some k => setSegState k 3 s
    | none => s
  match nextSegment s1 with
  | none => s1
  | some k =>
    let s2 := (setSegState k 7 s1).setMemWord (0x11000000 + 0x1000 * k + 8) (nextSeq s)
    { s2 with hearth := { s2.hearth with pos := 4 } }

/-- Write one word of a record. -/
def journalWord (s : State) (v : Nat) : State :=
  let s1 := if (activeSeg s).isNone || decide (1024 ≤ s.hearth.pos) then nextActive s else s
  match activeSeg s1 with
  | none => s1
  | some k =>
    let s2 := s1.setMemWord (0x11000000 + 0x1000 * k + 4 * s1.hearth.pos) v
    { s2 with hearth := { s2.hearth with pos := s2.hearth.pos + 1 } }

/-- `n` words can be written and two erased segments remain. -/
def journalRoom (s : State) (n : Nat) : Bool :=
  let rest := if (activeSeg s).isSome then 1024 - s.hearth.pos else 0
  decide ((n - rest + 1019) / 1020 + 2 ≤ erasedCount s)

/-- The words of a record; a void one has MAGIC 0x00 (R342). -/
def recordWords (page gen base : Nat) (full void : Bool) (runs : List (Nat × List Nat)) : List Nat :=
  let pl := runs.flatMap (fun r => (r.1 * 2 ^ 16 + r.2.length) :: r.2)
  let h := b2n full * 2 ^ 23 + page * 2 ^ 16 + runs.length
  let ws := [0x5A * 2 ^ 24 + h, gen, 2 ^ 24, base] ++ pl
  (if void then h else 0x5A * 2 ^ 24 + h) :: (ws.drop 1 ++ [crc32Words ws])

/-- Write a record; LOW_SPACE and source 562 when the free words fall below 4,096. -/
def writeRecord (ws : List Nat) (s : State) : State :=
  let s1 := ws.foldl journalWord s
  if freeWords s1 < 4096 ∧ 4096 ≤ freeWords s then pulse 562 (s1.fault 0x58 1) else s1

/-- The runs of words in which two images differ, from index `i` on. -/
def diffRuns : Nat → List Nat → List Nat → List (Nat × List Nat)
  | _, [], _ => []
  | i, a :: r, old =>
    let rest := diffRuns (i + 1) r (old.drop 1)
    if old.head? = some a then rest
    else match rest with
      | (j, ws) :: l => if j = i + 1 then (i, a :: ws) :: l else (i, [a]) :: rest
      | [] => [(i, [a])]

/-! ### Commits (R342, R343) -/

def creditsOf (s : State) (p : Nat) : Nat := SMap.get (fun _ => 8) s.hearth.credits p
def setCredits (p n : Nat) (s : State) : State :=
  { s with hearth := { s.hearth with credits := SMap.put (fun _ => 8) s.hearth.credits p n } }

/-- Hearth is occupied: a commit, a compaction, an erase, or the black box's copy or erase. -/
def hearthBusy (s : State) : Bool :=
  s.hearth.running.isSome || s.hearth.target.isSome || s.on HEARTH_FLAGS_ERASING || s.get BBOX_STAT_COPY == 3

/-- No commit is queued or runs, and no compaction or erase (R351). -/
def hearthIdle (s : State) : Bool :=
  s.hearth.running.isNone && s.hearth.queue.isEmpty && s.hearth.target.isNone && !s.on HEARTH_FLAGS_ERASING && !s.hearth.eraseWaits

/-- Start compacting segment `k`. -/
def startCompaction (k : Nat) (s : State) : State :=
  { s.raise HEARTH_FLAGS_COMPACTING with hearth := { s.hearth with target := some k } }

/-- The FULL segment with the lowest log sequence. -/
def oldestFull (s : State) : Option Nat := (usedSegs s).find? (fun k => segState s k == 3)

/-- Erase counts of the journal segments differ by more than 1,000: the FULL segment with the lowest count. -/
def wornSegment (s : State) : Option Nat :=
  let cs := (List.range 56).map (fun k => segWord s k 1)
  let lo := cs.foldl min (cs.headD 0)
  if lo + 1000 < cs.foldl max 0 then (segsIn s 3).find? (fun k => segWord s k 1 == lo) else none

/-- Every journal segment is erased, its count kept and raised by one; generations and FALLBACK are cleared (R348). -/
def eraseSegment (k : Nat) (s : State) : State :=
  let n := segWord s k 1
  (s.clearMem (0x11000000 + 0x1000 * k) (0x11000000 + 0x1000 * (k + 1))).setMemWord (0x11000000 + 0x1000 * k + 4) (n + 1)
def eraseJournal (s : State) : State :=
  let s1 := (List.range 56).foldl (fun s k => eraseSegment k s) s
  let s2 := (List.range 96).foldl (fun s p => s.set (PG_GEN_GEN p) 0) s1
  let s3 := (List.range 3).foldl (fun s i => s.set (HEARTH_FALLBACK_PAGE i) 0) s2
  { (s3.clear HEARTH_FLAGS_NO_RESTORE).raise HEARTH_FLAGS_ERASING with hearth := { s3.hearth with eraseWaits := false, pos := 4 } }

/-- Start the next work of Hearth: a waiting ERASE_ALL, the next commit, or a compaction for wear. -/
def hearthNext (s : State) : State :=
  if hearthBusy s then s
  else if s.hearth.eraseWaits then eraseJournal s
  else match s.hearth.queue with
    | p :: r => { s with hearth := { s.hearth with queue := r, running := some ⟨p, imageOf s p⟩, tries := 0 } }
    | [] => match wornSegment s with
      | some k => startCompaction k s
      | none => s

/-- PG_CTRL.COMMIT = 1 (R22, R339, R342, R417). A page without Kept fields ignores it (R417, R342), while Hearth works too: no COMMIT_BUSY
(DEDUCED, log entry 33). -/
def commitRequest (p : Nat) (s : State) : State :=
  if !hasKept p then s
  else if s.on (PG_STAT_BUSY p) then pageFaulted p 30 s
  else if s.on HEARTH_FLAGS_NO_RESTORE then commitFail p 5 s
  else
    let s1 := s.raise (PG_STAT_BUSY p)
    hearthNext { s1 with hearth := { s1.hearth with queue := s1.hearth.queue ++ [p] } }

/-- The commit in progress leaves Hearth, which goes on. -/
def commitLeaves (s : State) : State := hearthNext { s with hearth := { s.hearth with running := none, tries := 0 } }

/-- The commit in progress fails. -/
def failRunning (p cause : Nat) (s : State) : State := commitLeaves (commitFail p cause s)

/-- A Kept value of the page changed after Hearth read the image (R342). -/
def racedCheck (c : Commit) (s : State) : State :=
  if imageOf s c.page = c.image then s else (s.raise HEARTH_FLAGS_RACED).set HEARTH_RACED_PAGE c.page

/-- The end of the commit in progress, of which `bad` writes fail their read-back (R342). Where space is short, a compaction starts
and the commit waits for it (R346). -/
def commitDone (bad : Nat) (s : State) : State :=
  match s.hearth.running with
  | none => s
  | some c =>
    if s.hearth.target.isSome then s
    else
      let p := c.page
      let gen := s.get (PG_GEN_GEN p)
      let full := decide (gen = 0)
      let old := if full then [] else
        match rebuild ((journal s).filter (fun r => r.page == p)) (resetImage p) ((journal s).length + 1) gen with
        | some (img, _) => img
        | none => []
      let runs := if full then [(0, c.image)] else diffRuns 0 c.image old
      if runs.isEmpty then commitLeaves ((racedCheck c s).clear (PG_STAT_BUSY p))
      else if creditsOf s p = 0 then failRunning p 1 s
      else
        let g := if full then 1 else succGen gen
        let ws := recordWords p g gen full false runs
        let n := (if bad < 4 then bad + 1 else 4) * ws.length
        if !journalRoom s n then
          (match oldestFull s with
          | some k =>
            if 56 ≤ s.hearth.tries then failRunning p 3 s
            else startCompaction k { s with hearth := { s.hearth with tries := s.hearth.tries + 1 } }
          | none => failRunning p 3 s)
        else
          let s1 := setCredits p (creditsOf s p - 1) s
          let s2 := Nat.repeat (writeRecord (recordWords p g gen full true runs)) bad s1
          if 4 ≤ bad then failRunning p 2 (s2.fault 0x58 0)
          else
            let s3 := (writeRecord ws s2).set (PG_GEN_GEN p) g
            let s4 := ((s3.clear (PG_STAT_DEFAULTED p)).raise (PG_STAT_RESTORED p)).clear (PG_STAT_BUSY p)
            commitLeaves (pulse 560 (racedCheck c s4))

/-- In each new second of TB each page gains a credit, up to 8 (R343). -/
def commitCredit (s : State) : State :=
  if s.tb / 131072000 = s.hearth.second then s
  else
    { s with hearth := { s.hearth with
      credits := (s.hearth.credits.map (fun c => (c.1, c.2 + 1))).filter (fun c => c.2 != 8), second := s.tb / 131072000 } }

/-- The end of a compaction (R346): each page whose newest generation needs a record of the segment gets a FULL record of it; the
segment is then OBSOLETE and erased. Where the FULL records find no room, the segment stays. -/
def compactionDone (s : State) : State :=
  match s.hearth.target with
  | none => s
  | some k =>
    let need := (List.range 96).filterMap (fun p => match pageGen s p with
      | some (g, img, used, _) => if used.any (fun r => r.segs.contains k) then some (p, g, img) else none
      | none => none)
    let wss := need.map (fun x => recordWords x.1 x.2.1 0 true false [(0, x.2.2)])
    let leave (s : State) : State :=
      hearthNext { s.clear HEARTH_FLAGS_COMPACTING with hearth := { s.hearth with target := none } }
    if 1020 * erasedCount s + (if (activeSeg s).isSome then 1024 - s.hearth.pos else 0) < (wss.map (fun w => w.length)).sum then leave s
    else leave (eraseSegment k (setSegState k 1 (wss.foldl (fun s w => writeRecord w s) s)))

/-- HEARTH.CMD.COMPACT = 1 (R348). -/
def compactRequest (s : State) : State :=
  if hearthBusy s then s
  else match oldestFull s with
    | some k => startCompaction k s
    | none => s

/-- An admitted HEARTH.CMD.ERASE_ALL = 1 (R348). -/
def eraseAllRequest (s : State) : State :=
  if s.on HEARTH_FLAGS_ERASING then s
  else
    let s1 := s.raise (PG_STAT_BUSY 0x58)
    hearthNext { s1 with hearth := { s1.hearth with eraseWaits := true } }

/-- The erase of the journal ends. -/
def eraseAllDone (s : State) : State :=
  if s.on HEARTH_FLAGS_ERASING then hearthNext ((s.clear HEARTH_FLAGS_ERASING).clear (PG_STAT_BUSY 0x58)) else s

/-! ### Restoring (R337, R345) -/

/-- Write the Kept bits of a page's image; words that show bits stored elsewhere are passed over, those bits standing in words of the
image themselves. `skip` names bits that keep their live value. -/
def applyImage (p : Nat) (img : List Nat) (skip : Nat → Nat) (s : State) : State :=
  ((imageWords p).zip img).foldl (fun s w =>
    if (sharedWord s w.1.1).isSome then s
    else
      let m := w.1.2 &&& (0xFFFFFFFF ^^^ skip w.1.1)
      s.setWord w.1.1 (w32 (((s.word w.1.1).toNat &&& (0xFFFFFFFF ^^^ m)) ||| (w.2 &&& m)))) s

/-! ### Commands -/

/-- `COPY_DONE`: the copy of the ring into Hearth ends. -/
def execCopyDone (s : State) : Out := done s (hearthNext (copyDone s))

/-- `ERASE_COPY_DONE`: the erase of the copy area ends. -/
def execEraseCopyDone (s : State) : Out := done s (hearthNext (eraseCopyDone s))

/-- `COMMIT_DONE`. -/
def execCommitDone (bad : Nat) (s : State) : Out := done s (commitDone bad s)

/-- `COMMIT_CREDIT`. -/
def execCommitCredit (s : State) : Out := done s (commitCredit s)

/-- `COMPACTION_DONE`. -/
def execCompactionDone (s : State) : Out := done s (compactionDone s)

/-- `ERASE_ALL_DONE`. -/
def execEraseAllDone (s : State) : Out := done s (eraseAllDone s)

end Sys2Proof.Machine
end

