-- ==== Sys2Proof/Machine/Cores.lean ====
section
/-!
DEFINITION. Sys2Proof/Machine/Cores.lean: a core's registers, taking an exception and returning from one, resets, fences,
halts and the watchdog (spec/15_glemi_programming_model.md, R258 to R270). The instructions are in Machine/Glemi*.lean.
-/
namespace Sys2Proof.Machine

def State.core (s : State) (n : Nat) : Core := SMap.get (fun _ => {}) s.cores n
def State.setCore (s : State) (n : Nat) (x : Core) : State := { s with cores := SMap.put (fun _ => {}) s.cores n x }

/-! ### Registers (R258) -/

/-- General register `r` of core `n`. -/
def State.reg (s : State) (n r : Nat) : Word := (s.core n).w[r]?.getD 0
def Core.setReg (x : Core) (r : Nat) (v : Word) : Core := { x with w := x.w.setIfInBounds r v }
def State.setReg (s : State) (n r : Nat) (v : Word) : State := s.setCore n ((s.core n).setReg r v)

/-- STATUS bits. -/
def Core.flag (x : Core) (b : Nat) : Bool := x.status.getLsbD b
def Core.supervisor (x : Core) : Bool := x.flag 0
/-- The bits of STATUS that a supervisor write reaches; the reserved ones read 0. -/
def statusMask : Word := 0xFF000091

/-- The STATE of a core. -/
def coreState (s : State) (n : Nat) : Nat := s.get (CORE_STAT_STATE n)

/-- The core clock runs (R29) and the core is present, its page READY and enabled. -/
def corePowered (s : State) (n : Nat) : Bool :=
  decide (n < nCores s.variant) && s.clksrc == 0 && s.ready (0x48 + n) && s.enabled (0x48 + n)

/-- The core executes instructions. -/
def coreRuns (s : State) (n : Nat) : Bool := corePowered s n && coreState s n == 1

/-- Core `n`'s event line: its ring holds untaken records (R265). -/
def eventLine (s : State) (n : Nat) : Bool := s.get (EVC_RQ_IDX_COUNT n) != 0

/-- An address lies in the core's own TCM, by its alias or its fixed place; in the TCM of any present core. -/
def ownTcm (n a : Nat) : Bool :=
  decide (0x08000000 ≤ a ∧ a ≤ 0x0800FFFF) || decide (0x30000000 + n * 0x10000 ≤ a ∧ a < 0x30010000 + n * 0x10000)
def anyTcm (s : State) (a : Nat) : Bool := decide (0x30000000 ≤ a) && decide (a < 0x30000000 + nCores s.variant * 0x10000)

/-- Instructions may be fetched from an address (R260). -/
def fetchable (s : State) (n a : Nat) : Bool :=
  decide (a % 4 = 0) && (decide (a < 0x8000) || decide (0x10000000 ≤ a ∧ a ≤ 0x100FFFFF) || ownTcm n a || anyTcm s a)

/-- A user-mode fetch is allowed (R261). -/
def userFetch (n a : Nat) : Bool := decide (a < 0x8000) || decide (0x10000000 ≤ a ∧ a ≤ 0x100FFFFF) || ownTcm n a

/-! ### The watchdog (R267) -/

/-- The watchdog of core `n` counts: it is on and not held. -/
def wdogCounts (s : State) (n : Nat) : Bool :=
  s.on (CORE_WDOG_CFG_EN n) && !(s.core n).wdIdle && s.ready (0x48 + n) && (coreState s n == 1 || coreState s n == 2)
  && !(s.on (PG_CTRL_HALT_FREEZE (0x48 + n)) && coreHalted s)

/-- Ticks left in the present stage. -/
def wdogLeft (s : State) (n : Nat) : Nat :=
  let x := s.core n
  if wdogCounts s n then x.wdLeft - (s.tb - x.wdSince) else x.wdLeft

/-- The trial timer counts: a trial runs, no core is halted, and the hub is in RUN (R375). -/
def trialCounts (s : State) : Bool := s.on IMG_MAP_TRIAL && !coreHalted s && s.get BELLOWS_PWR_STAT_STATE == 0

/-- Ticks left of the trial. -/
def trialLeft (s : State) : Nat := if trialCounts s then s.img.left - (s.tb - s.img.since) else s.img.left

/-- Gather what the watchdogs and the trial timer have counted up to now; done before anything that holds or releases one. -/
def timersSync (s : State) : State :=
  let s1 := (List.range (nCores s.variant)).foldl (fun t n => t.setCore n { s.core n with wdLeft := wdogLeft s n, wdSince := s.tb }) s
  { s1 with img := { s1.img with left := trialLeft s, since := s.tb } }

/-- A change of TB by a load or a step moves no timer: what they have counted is gathered before it, and they count on from the
new value. -/
def acrossLoad (f : State → State) (s : State) : State :=
  let s1 := f (timersSync s)
  let s2 := (List.range (nCores s1.variant)).foldl (fun t n => t.setCore n { t.core n with wdSince := s1.tb }) s1
  { s2 with img := { s2.img with since := s1.tb } }

/-- Restart the watchdog at TIMEOUT, or at STAGE2. -/
def wdogRestart (n : Nat) (stage2 : Bool) (s : State) : State :=
  let t := if stage2 then s.get (CORE_WDOG_CFG_STAGE2 n) else s.get (CORE_WDOG_CFG_TIMEOUT n)
  (s.setCore n { s.core n with wdLeft := max 1 t * 65536, wdSince := s.tb, wdIdle := false }).set (CORE_WDOG_COUNT_STAGE2 n) (b2n stage2)

/-- A write of WDOG_KICK. -/
def wdogKick (n v : Nat) (s : State) : State := if v = 0x5EED0000 + n then wdogRestart n false s else s.fault (0x48 + n) 0

/-- A core takes a STATE; a halt of any core holds the linked counters and watchdogs that follow it. A core that comes to run meets a halt
asked for before at this its first boundary (R270). -/
def setCoreState (n st : Nat) (s : State) : State :=
  let x := s.core n
  if (st = 1 ∨ st = 2) ∧ x.haltDue then
    (timersSync (s.setCore n { x with haltDue := false, waiting := decide (st = 2) })).set (CORE_STAT_STATE n) 3
  else (timersSync s).set (CORE_STAT_STATE n) st

/-! ### Exceptions (R263, R264) -/

/-- A lockup: the core stops and is fenced. -/
def lockup (n code pc : Nat) (s : State) : State :=
  let s1 := ((setCoreState n 5 s).raise (CORE_CTRL_FENCE n)).raise (PG_STAT_FENCED (0x48 + n))
  let s2 := ((s1.set (CORE_FAULT_PC_PC n) pc).set (CORE_FAULT_CAUSE_CODE n) code).fault (0x48 + n) 2
  let s3 := bbRecord 0x0040 (pc * 2 ^ 32 + code * 2 ^ 4 + n) (pulse (596 + n) s2)
  if s3.on BBOX_CFG_F_LOCKUP then bbFreeze 3 s3 else s3

/-- Taking an exception: EPC, ESTATUS, ECAUSE and EADDR are written, MODE becomes supervisor, IE and REPACT clear, and the core goes to
VBASE + code × 0x10. An exception for which R263 names no address leaves a value in EADDR that the manual does not state (DESIGN CHOICE, log
entry 6). A vector outside the fetchable addresses is a lockup. -/
def takeException (n code : Nat) (epc : Word) (addr : Option Word) (s : State) : State :=
  let x := s.core n
  let (ea, s1) := match addr with
    | some a => (a, s)
    | none =>
      let (v, s') := s.draw
      (w32 v, s')
  let st := setFlag (setFlag (setFlag x.status 0 true) 4 false) 24 false
  let pc := x.vbase + w32 (code * 16)
  let x1 := { x with epc := epc, estatus := x.status, ecause := w32 code, eaddr := ea, status := st, pc := pc, vec := some code }
  let s2 := s1.setCore n x1
  if fetchable s2 n pc.toNat then s2 else lockup n code pc.toNat s2

/-- The return from an exception, where EPC is aligned (R264). -/
def returnException (n : Nat) (s : State) : State :=
  let x := s.core n
  s.setCore n { x with status := x.estatus, pc := x.epc, vec := none }

/-- FETCH_ERROR at the present PC; while the vector of an exception is fetched it is a lockup. -/
def fetchError (n : Nat) (addr : Word) (s : State) : State :=
  match (s.core n).vec with
  | some code => lockup n code (s.core n).pc.toNat s
  | none => takeException n 1 (s.core n).pc (some addr) s

/-- EVENT at an instruction boundary (R265). -/
def takeEvent (n : Nat) (s : State) : State := takeException n 10 (s.core n).pc none s

/-- EVENT is due: the line is high and IE = 1. -/
def eventDue (s : State) (n : Nat) : Bool := eventLine s n && (s.core n).flag 4

/-! ### Reset, fence, run (R266) -/

/-- A core reset with a cause; the core then runs if RUN = 1. -/
def coreReset (n cause : Nat) (s : State) : State :=
  let last := if cause = 1 ∧ coreState s n = 5 then 3 else cause
  let s1 := targetReset n (timersSync s)
  let x := s1.core n
  let y : Core := { pc := w32 (s1.get (CORE_START_PC_PC n) * 4), wdLeft := x.wdLeft, wdSince := x.wdSince, wdIdle := x.wdIdle, haltDue := x.haltDue }
  let s2 := s1.setCore n y
  let s3 := ((s2.inc (CORE_STAT_RESETS n)).set (CORE_STAT_LAST n) last).clear (CORE_CTRL_FENCE n)
  setCoreState n (if s3.on (CORE_CTRL_RUN n) then 1 else 0) (s3.clear (PG_STAT_FENCED (0x48 + n)))

/-- FENCE = 1: the core stops at once. -/
def coreFence (n : Nat) (s : State) : State :=
  let s1 := (s.raise (CORE_CTRL_FENCE n)).raise (PG_STAT_FENCED (0x48 + n))
  if coreState s1 n = 5 then s1 else setCoreState n 4 s1

/-- A core held in RESET starts at START_PC. -/
def coreBegin (n : Nat) (s : State) : State :=
  setCoreState n 1 (s.setCore n { s.core n with pc := w32 (s.get (CORE_START_PC_PC n) * 4) })

/-- After a write of CORE.CTRL, whose word was `old`; `run` is a 1 written to RUN, `rst` the RESET bit written. Clearing FENCE leaves the core
stopped until a core reset; a write of RUN = 1 starts a core held in RESET. -/
def coreCtrlWritten (n old : Nat) (run rst : Bool) (s : State) : State :=
  if nCores s.variant ≤ n then s
  else if rst then coreReset n 1 s
  else
    let s1 := if s.on (CORE_CTRL_FENCE n) && !bit old 1 then coreFence n s
      else if !s.on (CORE_CTRL_FENCE n) && bit old 1 then s.clear (PG_STAT_FENCED (0x48 + n)) else s
    if run && coreState s1 n == 0 then coreBegin n s1 else s1

/-- The CORE page becomes READY after a COLD or WARM reset, or a wake from DOZE: a core with RUN = 1 starts at START_PC. -/
def coreStart (n : Nat) (s : State) : State :=
  let x := s.core n
  let s1 := s.setCore n { pc := w32 (s.get (CORE_START_PC_PC n) * 4), wdLeft := x.wdLeft, wdSince := s.tb, wdIdle := x.wdIdle, haltDue := x.haltDue }
  let s2 := setCoreState n (if s1.on (CORE_CTRL_RUN n) then 1 else 0) s1
  if s2.on (CORE_WDOG_CFG_EN n) then wdogRestart n false s2 else s2

/-! ### Halt (R270) -/

/-- Halt a core at its next boundary: a running core, or one in WAIT. -/
def coreHalt (n : Nat) (s : State) : State :=
  if coreState s n = 1 ∨ coreState s n = 2 then
    setCoreState n 3 (s.setCore n { s.core n with waiting := decide (coreState s n = 2) })
  else s

/-- A halt is asked for: at once where the core has a boundary to take it at, else at its first one once it runs. -/
def haltAsked (n : Nat) (s : State) : State :=
  if coreState s n = 3 then s
  else if coreState s n = 1 ∨ coreState s n = 2 then coreHalt n s
  else s.setCore n { s.core n with haltDue := true }

/-- Resume a halted core; a halt still to come is withdrawn. -/
def coreResume (n : Nat) (s : State) : State :=
  let s1 := s.setCore n { s.core n with haltDue := false }
  if coreState s1 n = 3 then setCoreState n (if (s1.core n).waiting then 2 else 1) s1 else s1

/-- After a write of DBG.HALT that wrote 1 to the bits `ones`: each of them halts its core, and each bit that is 0 lets its core go on. -/
def haltWritten (ones : Nat) (s : State) : State :=
  (List.range (nCores s.variant)).foldl (fun s n =>
    if bit ones n then haltAsked n s else if bit (s.get DBG_HALT_CORE) n then s else coreResume n s) s

/-- A core halts itself: a breakpoint, or a break instruction while a debugger is attached; its HALT bit sets, so that clearing it
resumes the core. -/
def selfHalt (n : Nat) (s : State) : State := coreHalt n (s.raise ⟨DBG_HALT_CORE.addr, n, 1⟩)

/-- A breakpoint of a kind in `kinds` matches a word address on core `n`; LOCKED disables breakpoints (R270, R271). -/
def breakpoint (s : State) (n a : Nat) (kinds : List Nat) : Bool :=
  !s.on DBG_CTRL_LOCKED &&
  (List.range 4).any (fun k => kinds.contains (s.get (DBG_BP_CFG_KIND k)) && bit (s.get (DBG_BP_CFG_CORES k)) n
    && s.get (DBG_BP_ADDR_ADDR k) == a / 4 * 4)

/-! ### Commands -/

/-- `WDOG_WARN`: stage 1 has expired. -/
def wdogWarn (n : Nat) (s : State) : State :=
  if !wdogCounts s n || s.on (CORE_WDOG_COUNT_STAGE2 n) || decide (0 < wdogLeft s n) then s
  else pulse (592 + n) ((wdogRestart n true s).fault (0x48 + n) 1)
def execWdogWarn (n : Nat) (s : State) : Out := done s (wdogWarn n s)

/-- `WAIT_WAKE`: a core in WAIT resumes after the wait instruction. -/
def waitWake (n : Nat) (s : State) : State :=
  if corePowered s n && coreState s n == 2 && eventLine s n then setCoreState n 1 s else s
def execWaitWake (n : Nat) (s : State) : Out := done s (waitWake n s)

/-- `EVENT_EXCEPTION`: at an instruction boundary, or between two iterations of a repeat, whose prefix the PC then is. -/
def execEventException (n : Nat) (s : State) : Out := done s (if coreRuns s n && eventDue s n then takeEvent n s else s)


end Sys2Proof.Machine
end

