-- ==== Sys2Proof/Machine/Signature.lean ====
section
/-!
DEFINITION. Sys2Proof/Machine/Signature.lean: the checks that R371 names (spec/21_in_service_repair.md): SHA-256 and the ECDSA signature over the
curve P-256. The spec names both and states neither; their constants and steps are those of FIPS 180-4 and FIPS 186 (PRESUMED, log entry 37).
-/
namespace Sys2Proof.Machine

/-! ### SHA-256 -/

/-- The round constants: the fractions of the cube roots of the first 64 primes. -/
def shaK : List Nat :=
  [0x428a2f98, 0x71374491, 0xb5c0fbcf, 0xe9b5dba5, 0x3956c25b, 0x59f111f1, 0x923f82a4, 0xab1c5ed5,
   0xd807aa98, 0x12835b01, 0x243185be, 0x550c7dc3, 0x72be5d74, 0x80deb1fe, 0x9bdc06a7, 0xc19bf174,
   0xe49b69c1, 0xefbe4786, 0x0fc19dc6, 0x240ca1cc, 0x2de92c6f, 0x4a7484aa, 0x5cb0a9dc, 0x76f988da,
   0x983e5152, 0xa831c66d, 0xb00327c8, 0xbf597fc7, 0xc6e00bf3, 0xd5a79147, 0x06ca6351, 0x14292967]
  ++ [0x27b70a85, 0x2e1b2138, 0x4d2c6dfc, 0x53380d13, 0x650a7354, 0x766a0abb, 0x81c2c92e, 0x92722c85,
   0xa2bfe8a1, 0xa81a664b, 0xc24b8b70, 0xc76c51a3, 0xd192e819, 0xd6990624, 0xf40e3585, 0x106aa070,
   0x19a4c116, 0x1e376c08, 0x2748774c, 0x34b0bcb5, 0x391c0cb3, 0x4ed8aa4a, 0x5b9cca4f, 0x682e6ff3,
   0x748f82ee, 0x78a5636f, 0x84c87814, 0x8cc70208, 0x90befffa, 0xa4506ceb, 0xbef9a3f7, 0xc67178f2]

/-- The hash before the first block: the fractions of the square roots of the first 8 primes. -/
def shaInit : List Word :=
  [0x6a09e667, 0xbb67ae85, 0x3c6ef372, 0xa54ff53a, 0x510e527f, 0x9b05688c, 0x1f83d9ab, 0x5be0cd19]

/-- Three rotations or shifts of a word, added without carry. -/
def rot3 (x : Word) (a b c : Nat) : Word := x.rotateRight a ^^^ x.rotateRight b ^^^ x.rotateRight c
def rotShift (x : Word) (a b c : Nat) : Word := x.rotateRight a ^^^ x.rotateRight b ^^^ (x >>> c)

/-- `n` more words of the schedule, whose words so far stand newest first. -/
def shaSchedule : Nat → List Word → List Word
  | 0, ws => ws
  | n + 1, ws => shaSchedule n ((rotShift (ws.getD 1 0) 17 19 10 + ws.getD 6 0 + rotShift (ws.getD 14 0) 7 18 3 + ws.getD 15 0) :: ws)

/-- One round, of constant and schedule word `k`. -/
def shaRound (h : List Word) (k : Word) : List Word :=
  let at' (i : Nat) : Word := h.getD i 0
  let e := at' 4
  let a := at' 0
  let t1 := at' 7 + rot3 e 6 11 25 + ((e &&& at' 5) ^^^ (~~~e &&& at' 6)) + k
  let t2 := rot3 a 2 13 22 + ((a &&& at' 1) ^^^ (a &&& at' 2) ^^^ (at' 1 &&& at' 2))
  [t1 + t2, a, at' 1, at' 2, at' 3 + t1, e, at' 5, at' 6]

/-- One block of 16 words. -/
def shaBlock (h block : List Word) : List Word :=
  let ws := (shaSchedule 48 block.reverse).reverse
  let h1 := ((shaK.zip ws).map (fun k => w32 k.1 + k.2)).foldl shaRound h
  (h.zip h1).map (fun x => x.1 + x.2)

/-- A number of bytes, the first most significant. -/
def bigEndian (bytes : List Nat) : Nat := bytes.foldl (fun n b => 256 * n + b) 0

/-- `n` blocks of a message that is padded already. -/
def shaBlocks : Nat → List Nat → List Word → List Word
  | 0, _, h => h
  | n + 1, bytes, h =>
    shaBlocks n (bytes.drop 64) (shaBlock h ((List.range 16).map (fun i => w32 (bigEndian ((bytes.drop (4 * i)).take 4)))))

/-- SHA-256 of a list of bytes, as the 32 bytes of its eight words. -/
def sha256 (bytes : List Nat) : List Nat :=
  let len := bytes.length
  let zeros := 63 - (len + 8) % 64
  let tail := (List.range 8).map (fun i => 8 * len / 256 ^ (7 - i) % 256)
  let h := shaBlocks ((len + 72) / 64) (bytes ++ 0x80 :: List.replicate zeros 0 ++ tail) shaInit
  h.flatMap (fun w => [w.toNat / 2 ^ 24, w.toNat / 2 ^ 16 % 256, w.toNat / 2 ^ 8 % 256, w.toNat % 256])

/-! ### ECDSA P-256 -/

/-- The field, the coefficient b (a is -3), the base point and its order. -/
def p256 : Nat := 0xFFFFFFFF00000001000000000000000000000000FFFFFFFFFFFFFFFFFFFFFFFF
def p256B : Nat := 0x5AC635D8AA3A93E7B3EBBD55769886BC651D06B0CC53B0F63BCE3C3E27D2604B
def p256X : Nat := 0x6B17D1F2E12C4247F8BCE6E563A440F277037D812DEB33A0F4A13945D898C296
def p256Y : Nat := 0x4FE342E2FE1A7F9B8EE7EB4A7C0F9E162BCE33576B315ECECBB6406837BF51F5
def p256N : Nat := 0xFFFFFFFF00000000FFFFFFFFFFFFFFFFBCE6FAADA7179E84F3B9CAC2FC632551

/-- `x` to the power of the lowest `n` bytes of `k`, modulo `m`. -/
def powMod (m x : Nat) : Nat → Nat → Nat
  | 0, _ => 1 % m
  | n + 1, k => powMod m x n (k / 256) ^ 256 * x ^ (k % 256) % m

/-- The inverse modulo a prime. -/
def invMod (m x : Nat) : Nat := powMod m (x % m) 32 (m - 2)

/-- A point of the curve; none is the point at infinity. -/
abbrev CurvePoint := Option (Nat × Nat)

/-- The third point of the chord of slope `l` through the point `a`, the other of abscissa `x`, mirrored. -/
def chord (l x : Nat) (a : Nat × Nat) : CurvePoint :=
  let x3 := (l * l + 2 * p256 - a.1 - x) % p256
  some (x3, (l * (a.1 + p256 - x3) + p256 - a.2) % p256)

/-- The sum of two points. -/
def pointAdd (a b : CurvePoint) : CurvePoint := match a, b with
  | none, _ => b
  | _, none => a
  | some u, some v =>
    if u.1 ≠ v.1 then chord ((v.2 + p256 - u.2) * invMod p256 (v.1 + p256 - u.1) % p256) v.1 u
    else if (u.2 + v.2) % p256 = 0 then none
    else chord ((3 * u.1 * u.1 + p256 - 3) * invMod p256 (2 * u.2) % p256) u.1 u

/-- The lowest `n` bits of `k`, times a point. -/
def pointMul (a : CurvePoint) : Nat → Nat → CurvePoint
  | 0, _ => none
  | n + 1, k =>
    let d := pointMul a n (k / 2)
    pointAdd (pointAdd d d) (if bit k 0 then a else none)

/-- A point lies on the curve. -/
def onCurve (x y : Nat) : Bool :=
  decide (x < p256) && decide (y < p256) && y * y % p256 == (x * x * x + (p256 - 3) * x + p256B) % p256

/-- The signature (r, s) of a digest verifies under the public key (x, y). -/
def ecdsaOk (digest x y r s : Nat) : Bool :=
  onCurve x y && decide (0 < r) && decide (r < p256N) && decide (0 < s) && decide (s < p256N) &&
    (let w := invMod p256N s
     match pointAdd (pointMul (some (p256X, p256Y)) 256 (digest * w % p256N)) (pointMul (some (x, y)) 256 (r * w % p256N)) with
     | none => false
     | some q => q.1 % p256N == r)

end Sys2Proof.Machine
end

