-- ==== Sys2Proof/Machine/Images.lean ====
section
/-!
DEFINITION. Sys2Proof/Machine/Images.lean: firmware images, their banks, the swap and its trial (spec/21_in_service_repair.md,
R371 to R375).
-/
namespace Sys2Proof.Machine

/-- The physical base of a bank. -/
def bankBase (b : Nat) : Nat := 0x10000000 + b * 0x80000
/-- The bank at IMG_A, and the other one. -/
def runBank (s : State) : Nat := s.get IMG_MAP_RUN_BANK
def loadBank (s : State) : Nat := 1 - runBank s

/-- An image address as the bus sees it, in the physical banks: IMG_A shows the run bank, IMG_B the load bank (R371). -/
def imgPhys (s : State) (a : Nat) : Nat :=
  if runBank s = 0 then a else if a < 0x10080000 then a + 0x80000 else a - 0x80000

/-- Words of the header of the image in a bank (R371). -/
def imgWord (s : State) (b i : Nat) : Nat := s.memWord (bankBase b + 4 * i)
def imgVersion (s : State) (b : Nat) : Nat := imgWord s b 1
def imgBodyLen (s : State) (b : Nat) : Nat := imgWord s b 2
def imgEntry (s : State) (b : Nat) : Nat := imgWord s b 3

/-- `n` bytes of the image in a bank, from `o` on. -/
def imgBytes (s : State) (b o n : Nat) : List Nat := (List.range n).map (fun i => (s.byte (bankBase b + o + i)).toNat)

/-- The SHA-256 of the 64 key bytes equals the KEY_HASH slot, whose bytes stand in address order (DESIGN CHOICE, log entry 37). -/
def keyKnown (s : State) (b : Nat) : Bool :=
  let slot := imgWord s b 4 % 4
  sha256 (imgBytes s b 64 64) == (List.range 32).map (fun i => bits (s.get (IMG_KEY_HASH_WORD (8 * slot + i / 4))) (8 * (i % 4)) 8)

/-- The signature, the key's X and Y and its own r and s big-endian, verifies over the header and a body that a bank can hold. -/
def sigVerifies (s : State) (b : Nat) : Bool :=
  let n := 128 + imgBodyLen s b
  let num (o : Nat) : Nat := bigEndian (imgBytes s b o 32)
  decide (imgBodyLen s b ≤ 524096) && ecdsaOk (bigEndian (sha256 (imgBytes s b 0 n))) (num 64) (num 96) (num n) (num (n + 32))

/-- STAT.RESULT of a check of a bank that finds the key's hash and the signature so: the first of R371's conditions that fails. -/
def imgCheckWith (known verifies : Bool) (s : State) (b : Nat) : Nat :=
  if imgWord s b 0 ≠ 0x31474C4D then 2
  else if imgBodyLen s b % 16 ≠ 0 ∨ 524096 < imgBodyLen s b ∨ imgEntry s b % 4 ≠ 0 ∨ 128 + imgBodyLen s b ≤ imgEntry s b then 3
  else if !known || !bit (s.get IMG_KEY_SEAL_SEALED) (imgWord s b 4 % 4) then 4
  else if !verifies then 5
  else if imgVersion s b < s.get IMG_MIN_VERSION_VERSION then 6 else 1

/-- What the check of a bank gives. -/
def imgCheck (s : State) (b : Nat) : Nat := imgCheckWith (keyKnown s b) (sigVerifies s b) s b

/-- A check of a bank can have found the key's hash and the signature so. A command that says otherwise does not happen (log entry 37). -/
def imgFinds (known verifies : Bool) (s : State) (b : Nat) : Bool := imgCheckWith known verifies s b == imgCheck s b

/-- STAT.BUSY when no erase and no verification runs: a load, or idle. -/
def imgRest (s : State) : State := s.set IMG_STAT_BUSY (if s.img.staged.isEmpty then 0 else 2)

/-- CMD.ERASE. The bank reads erased from here on. -/
def imgErase (s : State) : State :=
  if s.get IMG_STAT_BUSY ≠ 0 then s
  else ((s.clearMem (bankBase (loadBank s)) (bankBase (loadBank s) + 0x80000)).set IMG_STAT_BUSY 1).clear IMG_MAP_LOAD_VALID

/-- A write of LOAD_DATA. -/
def imgLoad (v : Nat) (s : State) : State :=
  let s1 := s.clear IMG_MAP_LOAD_VALID
  if 64 ≤ s.img.staged.length then s1.fault 0x4C 0
  else
    let s2 := { s1 with img := { s1.img with staged := s1.img.staged ++ [v] } }
    if s2.get IMG_STAT_BUSY = 0 then s2.set IMG_STAT_BUSY 2 else s2

/-- The oldest staged word is programmed. A word that was not erased ends with a value that the manual does not state. -/
def loadWord (s : State) : State :=
  match s.img.staged with
  | [] => s
  | v :: r =>
    if s.get IMG_STAT_BUSY ≠ 2 then s
    else
      let a := bankBase (loadBank s) + 4 * s.get IMG_LOAD_ADDR_OFFSET
      let (w, s1) := if s.memWord a = 0xFFFFFFFF then (v, s) else s.draw
      let s2 := ((s1.setMemWord a (w % 2 ^ 32)).incWrap IMG_LOAD_ADDR_OFFSET).clear IMG_MAP_LOAD_VALID
      imgRest { s2 with img := { s2.img with staged := r } }

/-- CMD.VERIFY. -/
def imgVerify (s : State) : State := if s.get IMG_STAT_BUSY ≠ 0 then s else s.set IMG_STAT_BUSY 3

/-- An erase or a verification ends. -/
def imgDone (s : State) : State :=
  match s.get IMG_STAT_BUSY with
  | 1 => pulse 564 (imgRest s)
  | 3 =>
    let r := imgCheck s (loadBank s)
    let s1 := s.set IMG_STAT_RESULT r
    pulse 564 (imgRest (if r = 1 then s1.raise IMG_MAP_LOAD_VALID else s1))
  | _ => s

/-- Entry to WATCH or DOZE, or a reset, ends what runs (R373). -/
def imgAbort (s : State) : State :=
  let b := s.get IMG_STAT_BUSY
  if b = 0 then s
  else
    let s1 := ((s.set IMG_STAT_RESULT 7).set IMG_STAT_BUSY 0).clear IMG_MAP_LOAD_VALID
    let s2 := { s1 with img := { s1.img with staged := [] } }
    if b = 2 then s2 else pulse 564 s2

/-- A core keeps its PC in an image: not FENCED, RESET or WAIT (R374). -/
def coreInImage (s : State) : Bool :=
  (List.range (nCores s.variant)).any (fun n =>
    let st := coreState s n
    let pc := (s.core n).pc.toNat
    st != 0 && st != 2 && st != 4 && decide (0x10000000 ≤ pc ∧ pc ≤ 0x100FFFFF))

/-- The banks are exchanged. -/
def exchangeBanks (s : State) : State :=
  let b := loadBank s
  (s.set IMG_MAP_RUN_BANK b).set IMG_RUN_VERSION_VERSION (imgVersion s b)

/-- An admitted CMD.SWAP (R374). -/
def imgSwap (s : State) : State :=
  let no (r : Nat) : State := s.set IMG_STAT_SWAP_RESULT r
  if !s.on IMG_MAP_LOAD_VALID then no 2
  else if coreInImage s then no 3
  else if s.get IMG_STAT_BUSY = 1 ∨ s.get IMG_STAT_BUSY = 3 ∨ s.on BELLOWS_PWR_STAT_BUSY then no 4
  else if s.on IMG_MAP_TRIAL then no 5
  else
    let s1 := ((exchangeBanks s).raise IMG_MAP_TRIAL).set IMG_STAT_SWAP_RESULT 1
    let s2 := { s1 with img := { s1.img with left := max 1 (s.get IMG_CFG_CONFIRM_TO) * 131072000, since := s.tb } }
    bbRecord 0x0071 (s2.get IMG_RUN_VERSION_VERSION) (pulse 565 s2)

/-- CMD.CONFIRM (R375). -/
def imgConfirm (s : State) : State :=
  if !s.on IMG_MAP_TRIAL then s
  else
    let s1 := (s.clear IMG_MAP_TRIAL).set IMG_BOOT_PREF (runBank s)
    let s2 := if s.on IMG_CFG_RAISE_MIN then
        s1.set IMG_MIN_VERSION_VERSION (max (s1.get IMG_MIN_VERSION_VERSION) (s1.get IMG_RUN_VERSION_VERSION)) else s1
    pulse 566 (commitRequest 0x4C s2)

/-- The trial timer expires (R375). -/
def trialExpire (s : State) : State :=
  if !s.on IMG_MAP_TRIAL || trialLeft s != 0 then s
  else
    let ver := s.get IMG_RUN_VERSION_VERSION
    let cs := List.range (nCores s.variant)
    let s1 := exchangeBanks (cs.foldl (fun s n => coreFence n s) s)
    let s2 := cs.foldl (fun s n => coreReset n 1 ((s.set (CORE_START_PC_PC n) 0).set (CORE_CTRL_RUN n) (b2n (n == 0)))) s1
    let s3 := bbRecord 0x0070 ver (pulse 567 ((s2.clear IMG_MAP_TRIAL).fault 0x4C 1))
    if s3.on BBOX_CFG_F_FALLBACK then bbFreeze 6 s3 else s3

/-- The boot ROM on C0 starts the image of a bank. -/
def startImage (b last : Nat) (s : State) : State :=
  let s1 := ((s.set IMG_MAP_RUN_BANK b).set IMG_RUN_VERSION_VERSION (imgVersion s b)).set IMG_BOOT_LAST last
  let x := s1.core 0
  s1.setCore 0 { x with pc := w32 (0x10000000 + imgEntry s b), status := setFlag x.status 0 true }

/-- The boot ROM's check ends (R372). -/
def bootCheck (s : State) : State :=
  if coreState s 0 ≠ 1 ∨ 0x8000 ≤ (s.core 0).pc.toNat ∨ !s.ready 0x4C then s
  else
    let ok (b : Nat) : Bool := imgCheck s b == 1
    let p := s.get IMG_BOOT_PREF
    if bit (s.get SYS_STRAPS_LEVEL) 1 then setCoreState 0 2 (s.set IMG_BOOT_LAST 4)
    else if ok p then startImage p 1 s
    else if ok (1 - p) then startImage (1 - p) 2 s
    else setCoreState 0 2 (s.set IMG_BOOT_LAST 3)

/-- A write of MIN_VERSION: a lower value is discarded. -/
def minVersionWritten (v : Nat) (s : State) : State :=
  if s.get IMG_MIN_VERSION_VERSION ≤ v then s.set IMG_MIN_VERSION_VERSION v else s

/-- After an admitted write of word 7 of a KEY_HASH slot: the slot is sealed. -/
def sealSlot (k : Nat) (s : State) : State := s.set IMG_KEY_SEAL_SEALED (s.get IMG_KEY_SEAL_SEALED ||| 2 ^ k)

/-- IMG becomes READY: a restored slot whose word 7 is not 0 had been sealed. -/
def imgReady (s : State) : State :=
  (List.range 4).foldl (fun s k => if s.get (IMG_KEY_HASH_WORD (8 * k + 7)) = 0 then s else sealSlot k s) s

/-! ### Commands -/

/-- `LOAD_WORD_PROGRAMMED`. -/
def execLoadWordProgrammed (s : State) : Out := done s (loadWord s)

/-- `IMG_DONE`: of a verification, what it found of the key's hash and of the signature. -/
def execImgDone (hash sig : Bool) (s : State) : Out :=
  done s (if s.get IMG_STAT_BUSY = 3 ∧ !imgFinds hash sig s (loadBank s) then s else imgDone s)

/-- `TRIAL_EXPIRE`. -/
def execTrialExpire (s : State) : Out := done s (trialExpire s)

/-- `BOOT_CHECK`: with what the check of bank 0 and that of bank 1 found. The boot ROM looks at the bank PREF, at the other one only if that fails,
and at none with BOOT_HOLD (R372). -/
def execBootCheck (hash0 sig0 hash1 sig1 : Bool) (s : State) : Out :=
  let p := s.get IMG_BOOT_PREF
  let finds (b : Nat) : Bool := if b = 0 then imgFinds hash0 sig0 s 0 else imgFinds hash1 sig1 s 1
  done s (if bit (s.get SYS_STRAPS_LEVEL) 1 || (finds p && (imgCheck s p == 1 || finds (1 - p))) then bootCheck s else s)

end Sys2Proof.Machine
end

