-- ==== Sys2Proof/Machine/Repair.lean ====
section
/-!
DEFINITION. Sys2Proof/Machine/Repair.lean: the checks of the Anvil slices, failover, the audit's outcome, the return of a slice and
draining (spec/21_in_service_repair.md, R360 to R368).
-/
namespace Sys2Proof.Machine

/-- A slice's ROLE: 0 ACTIVE, 1 SPARE, 2 FENCED. -/
def sliceRole (s : State) (x : Nat) : Nat := s.get (ANV_SL_STAT_ROLE x)
/-- The slice is present and its page READY. -/
def sliceHere (s : State) (x : Nat) : Bool := pagePresent s.variant (0x18 + x) && s.ready (0x18 + x)
/-- A slice takes a ROLE; source 523 follows. -/
def setRole (x r : Nat) (s : State) : State := sample 523 (s.set (ANV_SL_STAT_ROLE x) r)
/-- The spare that stands. -/
def spareSlice (s : State) : Option Nat := (List.range 3).find? (fun x => sliceHere s x && sliceRole s x == 1)
/-- The hub is in RUN: in WATCH the spare is off (R362). -/
def inRun (s : State) : Bool := s.get BELLOWS_PWR_STAT_STATE == 0

/-- The channels of a slice that are admitted. -/
def sliceChans (s : State) (x : Nat) : List Nat :=
  (s.chans.filter (fun p => chActive s p.1 && s.get (SCHED_CH8_ON_SLICE p.1) == x)).map (fun p => p.1)

/-- A channel begins to move to slice `t`. -/
def migrate (t c : Nat) (s : State) : State :=
  let st := chLogical s c
  ((s.setChan c { s.chan c with former := st }).set (SCHED_CH8_STATE c) 6).set (SCHED_CH8_ON_SLICE c) t

/-- A channel has been adopted: its former STATE returns, and a SYNC that waited is taken (R364, R368). -/
def adopt (c : Nat) (lost : Nat) (s : State) : State :=
  if chState s c ≠ 6 then s
  else
    let x := s.chan c
    let s1 := (s.set (SCHED_CH8_STATE c) x.former).setChan c { x with former := 0, syncLater := none, lostOut := min 2 lost }
    match x.syncLater with
    | some t => syncChannel c t s1
    | none => s1

/-- The spare is fenced, or an active slice is declared failed, with a cause (R360, R363, R364, R367). -/
def sliceFail (x cause : Nat) (s : State) : State :=
  let role := sliceRole s x
  let s0 := s.set (ANV_SL_STAT_CAUSE x) cause
  if role = 2 then s0
  else
    let s1 := (setRole x 2 s0).set (ANV_SL_STAT_TEST x) 0
    let cs := sliceChans s1 x
    let dest := if role ≠ 0 then none
      else match s1.repair.target with
        | some t => if t = x then none else some t
        | none => if inRun s1 then spareSlice s1 else none
    let s2 := pulse 520 { s1 with repair := { target := dest, drain := none } }
    let n := match dest with
      | some _ => cs.length
      | none => 0
    let s3 := bbRecord 0x0060 (x + cause * 2 ^ 8 + n * 2 ^ 16) s2
    let s4 := if s3.on BBOX_CFG_F_SLICE then bbFreeze 5 s3 else s3
    match dest with
    | some t =>
      let s5 := cs.foldl (fun s c => migrate t c s) (setRole t 0 s4)
      shed t (sliceLimit s5) 256 s5
    | none => readmitShed (shedAll s4)

/-- The shadow audit runs (R362): on, below the throttle stage, in RUN, with a spare. -/
def auditRuns (s : State) : Bool :=
  s.on SCHED_AUDIT_CFG_EN && decide (s.get THERM_STAT_STAGE < 2) && inRun s && (spareSlice s).isSome

/-- The comparison for a channel fails (R363): what the two known-answer tests show, and whether two of the three states agree. -/
def auditMismatch (c : Nat) (xPass sparePass agree : Bool) (s : State) : State :=
  let x := s.get (SCHED_CH8_ON_SLICE c)
  match spareSlice s with
  | none => s
  | some sp =>
    if !auditRuns s || chState s c != 2 || !sliceUp s x || (s.chan c).fade.isSome || (s.chan c).retune.isSome || (recalOf s c).isSome then s
    else
      let row := if !xPass then 1 else if !sparePass then 2 else 3
      let s1 := (s.setChan c { s.chan c with gapNext := true }).inc SCHED_AUDIT_STAT_MISMATCHES
      let s2 := pulse 522 (s1.fault (0x18 + x) 3)
      let s3 := bbRecord 0x0062 (x + c * 2 ^ 8 + row * 2 ^ 16) s2
      let s4 := if xPass then s3 else s3.fault (0x18 + x) 1
      let s5 := if sparePass then s4 else s4.fault (0x18 + sp) 1
      if !xPass then
        (let s6 := if sparePass then s5 else sliceFail sp 2 s5
        sliceFail x 3 s6)
      else if !sparePass then sliceFail sp 2 s5
      else if agree then s5 else restartMiss c (blockEdge s c) s5

/-- SL_CMD of slice `x` is written with the three bits. -/
def sliceCmd (x : Nat) (test unf drain : Bool) (s : State) : State :=
  let s1 := if test && sliceRole s x == 2 then s.set (ANV_SL_STAT_TEST x) 1 else s
  let s2 := if unf && sliceRole s1 x == 2 && s1.get (ANV_SL_STAT_TEST x) == 2 then setRole x 1 s1 else s1
  if drain && sliceRole s2 x == 0 && inRun s2 && (spareSlice s2).isSome && s2.repair.target.isNone && s2.repair.drain.isNone
  then { s2 with repair := { s2.repair with drain := some x } } else s2

/-- Every channel of the drained slice has moved to the spare (R366). -/
def drainDone (s : State) : State :=
  match s.repair.drain, spareSlice s with
  | some x, some t =>
    let s1 := (sliceChans s x).foldl (fun s c => s.set (SCHED_CH8_ON_SLICE c) t) s
    let s2 := setRole x 1 (s1.set (ANV_SL_STAT_ROLE t) 0)
    pulse 525 { s2 with repair := { s2.repair with drain := none } }
  | _, _ => s

/-- The spare has adopted every channel; `lost` names, once for each, the outputs that the failed slice held (R364, R365). -/
def failoverDone (lost : List Nat) (s : State) : State :=
  match s.repair.target with
  | none => s
  | some _ =>
    let s1 := (s.chans.map (fun p => p.1)).foldl (fun s c => adopt c (lost.count c) s) s
    pulse 521 { s1 with repair := { s1.repair with target := none } }

/-- A double-bit error in the state of a channel (R361). -/
def eccUncorr (c : Nat) (s : State) : State :=
  let x := s.get (SCHED_CH8_ON_SLICE c)
  if !chActive s c || 3 ≤ x then s
  else
    let s1 := bbRecord 0x0061 (x + c * 2 ^ 8) (pulse 524 ((s.fault (0x18 + x) 2).inc (ANV_ECC_CNT_UNCORR x)))
    restartMiss c (blockEdge s c) s1

/-! ### Commands -/

/-- `RESIDUE`: a residue check of slice `x` fails. -/
def execResidue (x : Nat) (s : State) : Out :=
  done s (if sliceHere s x && sliceRole s x != 2 then sliceFail x 1 (s.fault (0x18 + x) 0) else s)

/-- `KAT`: the known-answer test of slice `x` runs, in RUN. -/
def execKat (x : Nat) (pass : Bool) (s : State) : Out :=
  done s (if sliceHere s x && inRun s && !pass then sliceFail x 2 (s.fault (0x18 + x) 1) else s)

/-- `ECC_UNCORR`. -/
def execEccUncorr (c : Nat) (s : State) : Out := done s (eccUncorr c s)

/-- `AUDIT_MISMATCH`. -/
def execAuditMismatch (c : Nat) (xPass sparePass agree : Bool) (s : State) : Out := done s (auditMismatch c xPass sparePass agree s)

/-- `FAILOVER_DONE`. -/
def execFailoverDone (lost : List Nat) (s : State) : Out := done s (failoverDone lost s)

/-- `SELF_TEST_DONE`: the self-test of slice `x` ends. -/
def execSelfTestDone (x : Nat) (pass : Bool) (s : State) : Out :=
  done s (if sliceHere s x && s.get (ANV_SL_STAT_TEST x) == 1 then s.set (ANV_SL_STAT_TEST x) (if pass then 2 else 3) else s)

/-- `DRAIN_DONE`. -/
def execDrainDone (s : State) : Out := done s (drainDone s)

end Sys2Proof.Machine
end

