-- ==== Sys2Proof/Machine/FrontEnd.lean ====
section
/-!
DEFINITION. Sys2Proof/Machine/FrontEnd.lean: the analog front end beside Anvil (spec/05_analog_front_end.md, R67 to R84;
spec/21_in_service_repair.md, R377): overloads, references, excitation, stuck streams, and the zero-gap recalibration of an
input by a spare modulator.
-/
namespace Sys2Proof.Machine

/-! ### Inputs -/

/-- The enabled channels that take their input from a source (R84). -/
def boundChans (s : State) (type num : Nat) : List Nat :=
  (s.chans.map (fun p => p.1)).filter (fun c => chState s c != 0 && s.get (SCHED_CH0_SRC_TYPE c) == type && s.get (SCHED_CH0_SRC_NUM c) == num)

/-- The running channels bound to a source (R79). -/
def runningOn (s : State) (type num : Nat) : List Nat := (boundChans s type num).filter (fun c => chState s c == 2)

/-- The recalibration of an input that is not in IDLE. -/
def inputRecal (s : State) (n : Nat) : Option Nat :=
  (List.range 4).find? (fun k => (s.recal k).input == n && s.get (AFE_COM_SM_STAT_STATE k) != 0)

/-- In WATCH only the inputs and streams of WATCH-marked channels run (R84). -/
def watchRuns (s : State) (type num : Nat) : Bool :=
  s.get BELLOWS_PWR_STAT_STATE != 1 || (boundChans s type num).any (fun c => s.on (SCHED_CH0_WATCH c))

/-- An input is present and its modulator is powered and clocked. -/
def inputRuns (s : State) (n : Nat) : Bool :=
  decide (n < nInputs s.variant) && s.runs (8 + n / 8) && s.on (AFE_IN_CFG_ENABLE (n / 8) (n % 8)) && !s.busStopped && watchRuns s 1 n

/-- A channel's retune has a standby filter on a source. -/
def standbyOn (s : State) (c type num : Nat) : Bool :=
  (s.chan c).retune.isSome && (standbyCfg s c).srcType == type && (standbyCfg s c).srcNum == num

/-- The next bit of every channel on a source, and of every standby filter on it, is one of an overload. -/
def clipNext (type num : Nat) (s : State) : State :=
  let s1 := (boundChans s type num).foldl (fun s c => s.setChan c { s.chan c with clipBit := true }) s
  ((s.chans.map (fun p => p.1)).filter (fun c => standbyOn s c type num)).foldl (fun s c =>
    s.setChan c { s.chan c with retune := (s.chan c).retune.map (fun t => { t with clipBit := true }) }) s1

/-- An overload of input `n`'s own modulator (R67, R69, R83): in CAL_ZERO and CAL_POS it makes the recalibration fail. -/
def overload (n : Nat) (s : State) : State :=
  if !inputRuns s n || refGone s 1 n then s
  else
    let s1 := pulse (112 + n) (clipNext 1 n (s.fault (8 + n / 8) (n % 8)))
    match inputRecal s1 n with
    | some k =>
      if s1.get (AFE_COM_SM_STAT_STATE k) = 3 ∨ s1.get (AFE_COM_SM_STAT_STATE k) = 4 then s1.setRecal k { s1.recal k with failCal := true }
      else s1
    | none => s1

/-- 4,096 consecutive ones while the burnout currents are on (R68). -/
def openInput (n : Nat) (s : State) : State :=
  if !inputRuns s n || !s.on (AFE_IN_CFG_BURNOUT (n / 8) (n % 8)) then s
  else pulse (112 + n) (s.fault (8 + n / 8) (8 + n % 8))

/-- REF_FAULT is set while an input runs whose selected reference is not available (R69). -/
def refCheck (s : State) : State :=
  if (List.range 64).any (fun n => inputRuns s n && refGone s 1 n) then sample 181 (s.fault 0x10 0) else s

/-- A reference falls below half the lower limit of its range, or the internal reference is off (R69). -/
def refFault (r : Nat) (s : State) : State :=
  refCheck (if r = 0 ∨ s.badRefs.contains r then s else { s with badRefs := s.badRefs ++ [r] })

/-- A reference returns (R69). -/
def referenceReturns (r : Nat) (s : State) : State := { s with badRefs := s.badRefs.filter (fun x => x != r) }

/-- Excitation works (R84: not in DOZE). -/
def excitationRuns (s : State) : Bool := s.runs 0x10 && !s.busStopped

/-- An excitation output that drives is latched off by its current limit until VEXC_OC is cleared, and is no reference meanwhile (R69, R70). -/
def excitationOff (k : Nat) (s : State) : State :=
  if excitationRuns s && vexcDrives s k then refCheck (sample 181 (s.fault 0x10 (4 + k))) else s

/-- A current source that is on is out of compliance; it goes on driving (R71). -/
def compliance (j : Nat) (s : State) : State :=
  if excitationRuns s && s.on ⟨AFE_COM_IEXC_CTRL_EN0.addr, 4 * j + 3, 1⟩ then sample 181 (s.fault 0x10 (8 + j)) else s

/-! ### PDM (R76) -/

/-- A stream is watched: it is enabled or bound. -/
def streamWatched (s : State) (t : Nat) : Bool :=
  decide (t < 2 * nPdmPins s.variant) && s.runs 0x11 && !s.busStopped && watchRuns s 2 t && (bit (s.get PDM_STREAM_EN_EN) t || !(boundChans s 2 t).isEmpty)

/-- A stream has kept its level for STUCK_LEN × 1,024 bits; the level is that of the last bit its channels have taken. -/
def pdmStuck (t : Nat) (s : State) : State :=
  let len := s.get PDM_STUCK_CFG_LEN
  if len = 0 ∨ !streamWatched s t then s
  else
    let mark (s : State) (c : Nat) : State :=
      let x := s.chan c
      let level := decide (0 < (x.line.headD { x := -1 }).x)
      s.setChan c { x with stuck := some (x.edge - (len * 1024 : Nat), level, none), stuckAt := x.edge - 1 }
    pulse (184 + t / 2) ((boundChans s 2 t).foldl mark (s.raise ⟨PDM_STUCK_STUCK.addr, t, 1⟩))

/-! ### Recalibration (R79 to R83) -/

/-- K of the channel that spare `k` serves. -/
def recalK (s : State) (k : Nat) : Nat := settleCount s (chCfg s (s.recal k).chan)

/-- The primary's filter restarts from zero on the channel's grid at the next block boundary (R80, R83). -/
def primaryRestart (k : Nat) (s : State) : State :=
  let c := (s.recal k).chan
  s.setChan c { s.chan c with clearAt := some (blockEdge s c) }

/-- The refusal of a start of spare `k` on input `n`, or 0. -/
def startRefusal (s : State) (k n : Nat) : Nat :=
  let cs := runningOn s 1 n
  if nInputs s.variant ≤ n ∨ !s.on (AFE_IN_CFG_ENABLE (n / 8) (n % 8)) ∨ cs.isEmpty then 2
  else if s.get (AFE_COM_SM_STAT_STATE k) ≠ 0 then 3
  else if !(cs.all (fun c => fits s (s.get (SCHED_CH8_ON_SLICE c)) (s.get (SCHED_CH9_LOAD c)))) then 4
  else if 1 < cs.length then 5 else 0

/-- A start that R79 does not refuse enters FILL: the shadow starts from zero on the channel's grid at the next block boundary. -/
def recalStart (k n : Nat) (s : State) : State :=
  let c := (runningOn s 1 n).headD 0
  let x := s.chan c
  let kk := settleCount s (chCfg s c)
  let rt := x.retune.map (fun t => { t with sflt := some (t.flt.clear t.settle) })
  let s1 := s.setChan c { x with shadow := some (x.flt.clear kk), shadowAt := some (blockEdge s c), spareLine := [], retune := rt }
  ((s1.setRecal k { chan := c, input := n }).set (AFE_COM_SM_STAT_STATE k) 1).set (AFE_COM_SEAM_OUT_SEAM k) 0x80000000

/-- SM_CTRLk.START = 1 (R79). -/
def smStart (k : Nat) (s : State) : State :=
  let n := 16 * k + s.get (AFE_COM_SM_CTRL_TARGET k)
  let r := startRefusal s k n
  if r ≠ 0 then s.set (AFE_COM_SM_STAT_RESULT k) r else recalStart k n s

/-- The average of `n` values in 2^−31 FS, in 2^−23 FS. The manual states no rounding: an exact quotient is kept, and between two
neighbours a draw decides (DESIGN CHOICE, log entry 6). -/
def average (sum : Int) (n : Nat) (s : State) : Int × State :=
  let d : Int := (n : Int) * 256
  if sum % d = 0 then (sum / d, s)
  else
    let (v, s1) := s.draw
    (sum / d + (v % 2 : Nat), s1)

/-- GAIN of R81; a quotient that its 32 bits do not hold, or of zero, is stated by no rule (DESIGN CHOICE, log entry 6). -/
def calGain (mZ mP : Int) (s : State) : Int × State :=
  let d := mP - mZ
  let q := (2 ^ 45 + d) / (2 * d)
  if d = 0 ∨ q < 0 ∨ (2 : Int) ^ 32 ≤ q then
    let (v, s1) := s.draw
    ((v % 2 ^ 32 : Nat), s1)
  else (q, s)

/-- The start of REFILL (R81): OFS and GAIN are computed, kept for reading, and written to the input unless they lie outside
their limits or the primary overloaded. -/
def refill (k : Nat) (s : State) : State :=
  let r := s.recal k
  let (g, s1) := calGain r.mZ r.mP s
  let d := r.mP - r.mZ
  let q := (2 ^ 45 + d) / (2 * d)
  let inGain := decide (d ≠ 0) && decide (0x380000 ≤ q ∧ q ≤ 0x480000)
  let ok := !r.failCal && inGain && decide (r.mZ.natAbs ≤ 2 ^ 20)
  let s2 := (s1.setS (AFE_COM_CAL_OFS_OFS k) r.mZ).setS (AFE_COM_CAL_GAIN_GAIN k) g
  let i := r.input / 8
  let n := r.input % 8
  let s3 := if ok then
      ((s2.setS (AFE_CORR_OFS_OFS i n) r.mZ).setS (AFE_CORR_GAIN_GAIN i n) g).set (AFE_CAL_TB_TB i n) (s.tb / 2 ^ 24)
    else s2
  s3.setRecal k { s3.recal k with failCal := !ok, posDone := true, count := 0, sum := 0 }

/-- A recalibration whose present state has counted its outputs moves on (R80). -/
def smStateAdvance (k : Nat) (s : State) : State :=
  let r := s.recal k
  let kk := recalK s k
  let ov := max 1 (s.get (AFE_COM_SM_CTRL_OVERLAP k))
  let cal := max 1 (s.get (AFE_COM_SM_CTRL_CAL_OUTPUTS k))
  let enter (st : Nat) (s : State) : State := (s.setRecal k { s.recal k with count := 0, sum := 0 }).set (AFE_COM_SM_STAT_STATE k) st
  match s.get (AFE_COM_SM_STAT_STATE k) with
  | 1 => if r.count < kk then s else enter 2 s
  | 2 =>
    if r.count < ov then s
    else
      let (m, s1) := average r.sum ov s
      let s2 := enter 3 (s1.setS (AFE_COM_SEAM_IN_SEAM k) m)
      let s3 := s2.setRecal k { s2.recal k with delivering := true }
      primaryRestart k (s3.setChan r.chan { s3.chan r.chan with seamNext := true })
  | 3 =>
    if r.count < kk + cal then s
    else
      let (m, s1) := average r.sum cal s
      primaryRestart k (enter 4 (s1.setRecal k { r with mZ := m }))
  | 4 =>
    if r.count < kk + cal then s
    else
      let (m, s1) := average r.sum cal s
      primaryRestart k (enter 5 (refill k (s1.setRecal k { r with mP := m })))
  | 5 => if r.count < kk then s else enter 6 s
  | 6 =>
    if r.count < ov then s
    else
      let (m, s1) := average r.sum ov s
      recalEnd k (if r.failCal then 9 else 1) (s1.setS (AFE_COM_SEAM_OUT_SEAM k) m)
  | 7 => if r.count < kk then s else recalEnd k r.result s
  | _ => s

/-- ABORT, or entry to WATCH (R83). -/
def smAbort (k : Nat) (s : State) : State :=
  let st := s.get (AFE_COM_SM_STAT_STATE k)
  if st = 1 ∨ st = 2 then recalEnd k 6 s
  else if 3 ≤ st ∧ st ≤ 6 then
    primaryRestart k ((s.setRecal k { s.recal k with count := 0, sum := 0, result := 6 }).set (AFE_COM_SM_STAT_STATE k) 7)
  else s

/-- The spare is lost, with RESULT `result` (R83): while it delivers, the primary restarts and its first K outputs carry GAP and
SETTLING. -/
def spareLost (k result : Nat) (s : State) : State :=
  let st := s.get (AFE_COM_SM_STAT_STATE k)
  if st = 0 then s
  else if st = 1 ∨ st = 2 then recalEnd k result s
  else
    let c := (s.recal k).chan
    let kk := recalK s k
    let s1 := primaryRestart k s
    recalEnd k result (s1.setChan c { s1.chan c with gapSettle := kk })

/-- The spare overloads or fails (R83). -/
def smFail (k : Nat) (s : State) : State :=
  if s.get (AFE_COM_SM_STAT_STATE k) = 0 then s else (spareLost k 8 s).fault 0x10 (16 + k)

/-- The scheduled start of spare `k` at an instant of its compare channel (R377). -/
def smScheduled (k : Nat) (s : State) : State :=
  let skip := s.inc (AFE_COM_SM_SCHED_STAT_SKIPPED k)
  if s.get (AFE_COM_SM_STAT_STATE k) ≠ 0 then skip
  else
    let last := s.get (AFE_COM_SM_SCHED_STAT_LAST k)
    let order := (List.range 16).map (fun i => (last + 1 + i) % 16)
    match order.find? (fun i => bit (s.get (AFE_COM_SM_SCHED_MASK k)) i && startRefusal s k (16 * k + i) == 0) with
    | none => skip
    | some i => (recalStart k (16 * k + i) (s.set (AFE_COM_SM_SCHED_STAT_LAST k) i)).inc (AFE_COM_SM_SCHED_STAT_RUNS k)

/-- The scheduled starts of compare channel `m` (R377). -/
def smsAtMatch (m : Nat) (s : State) : State :=
  if !s.runs 0x10 then s
  else (List.range (nSpares s.variant)).foldl (fun s k =>
    if s.on (AFE_COM_SM_SCHED_EN k) && s.get (AFE_COM_SM_SCHED_CMP k) == m then smScheduled k s else s) s

/-- Every recalibration aborts at entry to WATCH or DOZE (R83, R352). -/
def smsAbort (s : State) : State := (List.range 4).foldl (fun s k => smAbort k s) s

/-- A write admitted by PG_KEY changed GAIN, LP, CHOP, CHOP_DIV or REF_SEL of input `n`, whose word was `old` (R84): the bound
channels restart by a SYNC at the next block boundary. -/
def inputWritten (n old : Nat) (s : State) : State :=
  let new := (s.word (AFE_IN_CFG_ENABLE (n / 8) (n % 8)).addr).toNat
  let s1 := if new / 4 % 2 ^ 11 = old / 4 % 2 ^ 11 then s
    else ((boundChans s 1 n).filter (fun c => chState s c == 2)).foldl (fun s c => syncEdge c ((edgeFrom s (chCfg s c) s.tb + 31) / 32 * 32) none s) s
  refCheck s1

/-! ### Commands -/

/-- `OVERLOAD`. -/
def execOverload (n : Nat) (s : State) : Out := done s (overload n s)

/-- `OPEN`. -/
def execOpenInput (n : Nat) (s : State) : Out := done s (openInput n s)

/-- `REF_FAULT`: reference `r`, numbered as REF_SEL, is no longer available. -/
def execRefFault (r : Nat) (s : State) : Out := done s (refFault r s)

/-- `REFERENCE_RETURNS`. -/
def execReferenceReturns (r : Nat) (s : State) : Out := done s (referenceReturns r s)

/-- `VEXC_OC`. -/
def execVexcOc (k : Nat) (s : State) : Out := done s (excitationOff k s)

/-- `IEXC_CMPL`. -/
def execIexcCmpl (j : Nat) (s : State) : Out := done s (compliance j s)

/-- `PDM_STUCK`. -/
def execPdmStuck (t : Nat) (s : State) : Out := done s (pdmStuck t s)

/-- `SM_STATE_ADVANCE`. -/
def execSmStateAdvance (k : Nat) (s : State) : Out := done s (smStateAdvance k s)

/-- `SM_FAIL`. -/
def execSmFail (k : Nat) (s : State) : Out := done s (smFail k s)

end Sys2Proof.Machine
end

