-- ==== Sys2Proof/Machine/RingLink.lean ====
section
/-!
DEFINITION. Sys2Proof/Machine/RingLink.lean: what a ring port sends and when (spec/18_niong_ring.md, R307, R308, R311, R314): its frame in progress,
its transit buffer and the frames of this hub that wait. Port 0 is E, port 1 is W.
-/
namespace Sys2Proof.Machine

def State.ringPort (s : State) (p : Nat) : RingPort := SMap.get (fun _ => {}) s.ring.ports p
def State.setRingPort (s : State) (p : Nat) (x : RingPort) : State :=
  { s with ring := { s.ring with ports := SMap.put (fun _ => {}) s.ring.ports p x } }

/-- At least `k` of Clock.age have passed since. -/
def passedAge (s : State) (since : Option Nat) (k : Nat) : Bool := match since with
  | some a => decide (a + k ≤ s.clk.age)
  | none => true

/-- The millisecond of TB. -/
def tbMs (s : State) : Nat := s.tb / 131072

/-- LEN of a frame's payload (R313). -/
def bodyLen : FrameBody → Nat
  | .data d => d.bytes
  | .beacon _ => 40
  | .pdelayReq => 0
  | .pdelayResp _ _ => 20
  | .enum _ => 12
  | .regReq w _ n _ _ => if w then 4 + 4 * n else 4
  | .regResp _ _ ws => 4 + 4 * ws.length
  | .ack _ => 0

/-- How long a frame holds its port, with SOF, header, CRC, EOF and one IDLE, in 1/25 PLL cycle: a symbol is 3.90625 ns, 10.24 PLL cycles
(R307, R308, R311). -/
def frameTime (f : Frame) : Nat := (bodyLen f.body + 22) * 256

/-- The order in which a port transmits (R314). -/
def Sending.rank (x : Sending) : Nat :=
  if x.frame.body.type = 1 ∨ x.frame.body.type = 2 ∨ x.frame.body.type = 3 ∨ x.frame.body.type = 4 ∨ x.frame.body.type = 7 then
    (if x.transit then 0 else 1)
  else if x.transit then 2
  else if x.frame.body.type = 5 ∨ x.frame.body.type = 6 then 3
  else 4

/-- The frame that leaves next: of the lowest rank the one that came first. -/
def nextFrame (ws : List Sending) : Option Sending :=
  ws.foldl (fun b x => match b with
    | some y => if x.rank < y.rank then some x else b
    | none => some x) none

/-- Now, in 1/25 PLL cycle. -/
def linkNow (s : State) : Nat := s.clk.age * 25

/-- The frame in progress has left and none waits. -/
def linkFree (s : State) (p : Nat) : Bool := (s.ringPort p).wait.isEmpty && decide ((s.ringPort p).busy ≤ linkNow s)

/-- The frames that wait begin, each when the one before it has left; a frame in progress is never interrupted. -/
def linkRun : Nat → Nat → State → State
  | 0, _, s => s
  | k + 1, p, s =>
    let x := s.ringPort p
    if linkNow s < x.busy then s
    else match nextFrame x.wait with
      | none => s.setRingPort p { x with now := none }
      | some y =>
        linkRun k p (s.setRingPort p { x with wait := x.wait.erase y, now := some y.frame, busy := x.busy + frameTime y.frame })

/-- A port takes a frame to send; where it is free the frame begins at once. More than the two frames for which the transit buffer has room come
together only where frames arrive faster than a link carries them, and then all of them wait (DESIGN CHOICE, log entry 32). -/
def linkTakes (p : Nat) (transit : Bool) (f : Frame) (s : State) : State :=
  let x := s.ringPort p
  if linkFree s p then s.setRingPort p { x with now := some f, busy := linkNow s + frameTime f }
  else s.setRingPort p { x with wait := x.wait ++ [{ transit := transit, frame := f }] }

/-- Time passes on both ports. -/
def linksTime (s : State) : State :=
  (s.ring.ports.map (fun c => c.1)).foldl (fun t p => linkRun ((t.ringPort p).wait.length + 1) p t) s

end Sys2Proof.Machine
end

