-- ==== Sys2Proof/Machine/Counters.lean ====
section
/-!
DEFINITION. Sys2Proof/Machine/Counters.lean: the linked counters (spec/04_compare_channels_and_linked_counters.md, R53 to R62).
-/
namespace Sys2Proof.Machine

/-! ### Pairs (R57) -/

/-- Counter `n` is half of a chained pair; an even counter joins with the next odd one. -/
def lcChained (s : State) (n : Nat) : Bool := s.on (LC_CFG_CHAIN (n / 2 * 2))
/-- The counter that settings are taken from: the even one of a pair. -/
def lcBase (s : State) (n : Nat) : Nat := if lcChained s n then n / 2 * 2 else n
/-- Width of the count in bits. -/
def lcWidth (s : State) (n : Nat) : Nat := if lcChained s n then 64 else 32
/-- COUNT, MATCH and CAP of a counter or pair named by its base. -/
def lcValue (s : State) (b : Nat) (f : Nat → Fld) : Nat := s.get (f b) + (if lcChained s b then s.get (f (b + 1)) * 2 ^ 32 else 0)
def lcSetValue (b v : Nat) (f : Nat → Fld) (s : State) : State :=
  let s1 := s.set (f b) v
  if lcChained s b then s1.set (f (b + 1)) (v / 2 ^ 32) else s1

def lcRunBit (n : Nat) : Fld := ⟨LC_RUN_RUN.addr, n, 1⟩
/-- Start, stop act on both halves of a pair. -/
def lcSetRun (b : Nat) (r : Bool) (s : State) : State :=
  let s1 := s.set (lcRunBit b) (b2n r)
  if lcChained s b then s1.set (lcRunBit (b + 1)) (b2n r) else s1

/-! ### Whether a counter advances (R53, R56, R61, R62) -/

/-- MODE as it acts: 5 to 7, and a counter that is its own master, act as FREE. -/
def lcMode (s : State) (b : Nat) : Nat :=
  let m := s.get (LC_CFG_MODE b)
  if 5 ≤ m ∨ lcBase s (s.get (LC_CFG_MASTER b)) = b then 0 else m

/-- The counter runs: RUN, ENABLE and the gate, and it is not frozen; in DOZE only under R61. -/
def lcRunning (s : State) (b : Nat) : Bool :=
  s.on (lcRunBit b) && s.runs 0x04
  && !(lcMode s b == 1 && !s.on (lcRunBit (lcBase s (s.get (LC_CFG_MASTER b)))))
  && !(s.on (LC_CFG_FREEZE_ON_HALT b) && coreHalted s)
  && (!s.busStopped || (s.on (LC_CFG_DOZE_RUN b) && (s.get (LC_CFG_SRC b) == 1 || s.get (LC_CFG_SRC b) == 4)))

/-- SEL names an instance that is present (R53). -/
def lcSelPresent (s : State) (b : Nat) : Bool :=
  let x := s.get (LC_CFG_SEL b)
  match s.get (LC_CFG_SRC b) with
  | 2 => sourcePresent s.variant x
  | 3 => decide (x < 3 * nPorts s.variant)
  | 4 => decide (x < nMonitors s.variant)
  | _ => true

/-! ### Capture (R60) -/

/-- A capture with the instant that stamps its sample: CAP, FULL, OVERRUN and the sample of a bound channel. -/
def lcCapture (b stamp : Nat) (s : State) : State :=
  let old := lcValue s b LC_CAP_CAP
  let new := lcValue s b LC_COUNT_COUNT
  let s1 := if s.on (LC_STAT_FULL b) then pulse (64 + b) (s.raise (LC_STAT_OVERRUN b)) else s
  let s2 := (lcSetValue b new LC_CAP_CAP s1).raise (LC_STAT_FULL b)
  let v := if s2.on (LC_CFG_CAP_DELTA b) then (new + 2 ^ 64 - old) % 2 ^ lcWidth s2 b else new
  sourceSample 4 b (sx 32 v) (stamp * 2 ^ 32) {} s2

/-! ### Match and overflow (R54, R55) -/

/-- Send a message to a counter, named by either half of a pair: it acts in the next TB-domain cycle (R55). -/
def lcSend (n : Nat) (m : LcMsg) (s : State) : State :=
  let b := lcBase s n
  s.setLc b { s.lc b with inbox := (s.lc b).inbox ++ [m] }

/-- Messages to the slaves of a counter: at a match, and at an overflow. -/
def lcToSlaves (b : Nat) (matched : Bool) (s : State) : State :=
  (List.range 16).foldl (fun s n =>
    if lcBase s n = n ∧ lcMode s n ≠ 0 ∧ lcBase s (s.get (LC_CFG_MASTER n)) = b then
      match lcMode s n with
      | 2 => if matched then lcSend n .resetCapture s else s
      | 3 => lcSend n .clock s
      | 4 => if matched then lcSend n .start s else s
      | _ => s
    else s) s

/-- The actions of a match other than M_EVENT and M_RESET, and its signals to slaves: all act in the next cycle, those on the counter itself
too (R55). -/
def lcMatchRest (b : Nat) (s : State) : State :=
  let link := s.get (LC_ACT_LINK b)
  let s1 := if s.on (LC_ACT_M_STOP b) then lcSend b .stop s else s
  let s2 := if s1.on (LC_ACT_M_CAPTURE b) then lcSend b (.capture none) s1 else s1
  let s3 := if s2.on (LC_ACT_M_START_LINK b) then lcSend link .start s2 else s2
  let s4 := if s3.on (LC_ACT_M_RESET_LINK b) then lcSend link .reset s3 else s3
  lcToSlaves b true (if s4.on (LC_ACT_M_STOP_LINK b) then lcSend link .stop s4 else s4)

/-- The actions of an overflow other than O_EVENT, and its signals to slaves. -/
def lcOverRest (b : Nat) (s : State) : State :=
  let link := s.get (LC_ACT_LINK b)
  let s1 := if s.on (LC_ACT_O_STOP b) then lcSend b .stop s else s
  let s2 := if s1.on (LC_ACT_O_START_LINK b) then lcSend link .start s1 else s1
  let s3 := if s2.on (LC_ACT_O_RESET_LINK b) then lcSend link .reset s2 else s2
  lcToSlaves b false (if s3.on (LC_ACT_O_STOP_LINK b) then lcSend link .stop s3 else s3)

/-- MATCH lies in (old, old + d], modulo the width. -/
def lcMatches (s : State) (b d : Nat) : Bool :=
  let w := 2 ^ lcWidth s b
  let m := lcValue s b LC_MATCH_MATCH
  let dist := (m + w - lcValue s b LC_COUNT_COUNT) % w
  decide (m ≠ 0) && decide (0 < (if dist = 0 then w else dist)) && decide ((if dist = 0 then w else dist) ≤ d)

/-- The update wraps past the top. -/
def lcOverflows (s : State) (b d : Nat) : Bool := decide (2 ^ lcWidth s b ≤ lcValue s b LC_COUNT_COUNT + d)

/-- An update of COUNT by `d`. -/
def lcAdvance (b d : Nat) (s : State) : State :=
  let w := 2 ^ lcWidth s b
  let old := lcValue s b LC_COUNT_COUNT
  let m := lcValue s b LC_MATCH_MATCH
  let hit := lcMatches s b d
  let tooLong := lcOverflows s b d
  let excess := d - (let x := (m + w - old) % w
                     if x = 0 then w else x)
  let reset := hit && s.on (LC_ACT_M_RESET b)
  let s1 := lcSetValue b (if reset then excess % m else (old + d) % w) LC_COUNT_COUNT s
  let s2 := if reset && decide (m ≤ excess) then s1.raise (LC_STAT_SKIP b) else s1
  let s3 := if hit then
      let t := s2.raise (LC_STAT_MATCHED b)
      let t1 := if t.on (LC_ACT_M_EVENT b) then pulse (64 + b) t else t
      if t1.busStopped then t1.setLc b { t1.lc b with lateMatch := (t1.lc b).lateMatch + 1 } else lcMatchRest b t1
    else s2
  if tooLong then
    let t := s3.raise (LC_STAT_OVERFLOWED b)
    let t1 := if t.on (LC_ACT_O_EVENT b) then pulse (64 + b) t else t
    if t1.busStopped then t1.setLc b { t1.lc b with lateOver := (t1.lc b).lateOver + 1 } else lcOverRest b t1
  else s3

/-- The advance that `k` ticks, assertions or edges give in one update, with the state of prescaler and EDGE_LOST (R53). -/
def lcDelta (b k : Nat) (s : State) : Nat × State :=
  match s.get (LC_CFG_SRC b) with
  | 1 =>
    let d := s.get (LC_PRESC_DIV b) + 1
    let t := (s.lc b).presc + k
    (t / d, s.setLc b { s.lc b with presc := t % d })
  | 2 | 3 | 4 => (min 1 k, if 1 < k then s.raise (LC_STAT_EDGE_LOST b) else s)
  | _ => (0, s)

/-! ### One TB-domain cycle (R53, R55) -/

/-- The advance of a cycle: what the source gives, `step` being the TB step and `x` the counter as the cycle found it; in CLOCK mode what the
master sent. -/
def lcGives (b step : Nat) (x : Lc) (s : State) : Nat × State :=
  if lcMode s b = 3 then ((x.inbox.filter (fun m => m == .clock)).length, s)
  else if !lcSelPresent s b then (0, s)
  else lcDelta b (if s.get (LC_CFG_SRC b) = 1 then step else x.edges) s

/-- Step 4 of a cycle: a counter that runs advances. -/
def lcCount (b step : Nat) (x : Lc) (s : State) : State :=
  if !lcRunning s b then s
  else
    let (d, s1) := lcGives b step x s
    if d = 0 then s1 else lcAdvance b d s1

/-- Steps 1 to 3 of a cycle: stop, reset to 0, which in RESET mode captures the value before it, and start. -/
def lcCommand (b : Nat) (ms : List LcMsg) (s : State) : State :=
  let s1 := if ms.contains .stop then lcSetRun b false s else s
  let s2 := if ms.contains .resetCapture then lcCapture b s1.tb s1 else s1
  let s3 := if ms.contains .reset || ms.contains .resetCapture then lcSetValue b 0 LC_COUNT_COUNT s2 else s2
  if ms.contains .start && !ms.contains .stop then lcSetRun b true s3 else s3

/-- Step 5 of a cycle: the captures. -/
def lcCaptures (b : Nat) (ms : List LcMsg) (s : State) : State :=
  ms.foldl (fun t m => match m with
    | .capture stamp => lcCapture b (stamp.getD t.tb) t
    | _ => t) s

/-- Do `f` for every counter or pair that has something to do in this cycle: the counter as the cycle found it is its last argument. -/
def lcEach (was : List (Nat × Lc)) (f : Nat → Lc → State → State) (s : State) : State :=
  (List.range 16).foldl (fun t n => if lcBase t n = n then f n (SMap.get (fun _ => {}) was n) t else t) s

/-- A cycle of the linked counters, whose TB step is `step`: every counter takes what reached it since the last cycle and what its source
gave, in the order of R55; what the cycle sends acts in the next. In DOZE what was sent is held, and only the counters of R61 advance. -/
def lcsCycle (step : Nat) (s : State) : State :=
  let was := s.lcs
  let s0 := (List.range 16).foldl (fun t n => t.setLc n { t.lc n with edges := 0, inbox := if t.busStopped then (t.lc n).inbox else [] }) s
  if s0.busStopped then lcEach was (fun n x t => lcCount n step { x with inbox := [] } t) s0
  else lcEach was (fun n x t => lcCaptures n x.inbox t) (lcEach was (fun n x t => lcCount n step x t) (lcEach was (fun n x t => lcCommand n x.inbox t) s0))

/-- A match of a compare channel captures the counters that follow it (R60). -/
def lcsAtMatch (m t : Nat) (s : State) : State :=
  (List.range 16).foldl (fun s n =>
    if lcBase s n = n ∧ s.on (LC_ACT_CAP_EN n) ∧ s.get (LC_ACT_CAP_CMP n) = m then lcSend n (.capture (some t)) s else s) s

/-- Do `f` as often as counted. -/
def times (f : State → State) : Nat → State → State
  | 0, s => s
  | k + 1, s => times f k (f s)

/-- At the wake the actions that DOZE matches and overflows left are sent, for the first TB update to perform (R61). -/
def lcsWake (s : State) : State :=
  (List.range 16).foldl (fun s n =>
    let x := s.lc n
    let s1 := s.setLc n { x with lateMatch := 0, lateOver := 0 }
    times (lcOverRest n) x.lateOver (times (lcMatchRest n) x.lateMatch s1)) s

/-! ### Snapshot, reads and writes (R57 to R60) -/

/-- A write of LC.SNAP with GO. -/
def lcSnap (n : Nat) (s : State) : State :=
  let b := lcBase s n
  let v := lcValue s b LC_COUNT_COUNT
  (s.set LC_SNAP_LO_COUNT v).set LC_SNAP_HI_COUNT (v / 2 ^ 32)

def State.lcShadow (s : State) (m : Nat) : LcShadow := SMap.get (fun _ => {}) s.lcShadows m
def State.setLcShadow (s : State) (m : Nat) (x : LcShadow) : State := { s with lcShadows := SMap.put (fun _ => {}) s.lcShadows m x }

/-- A read of COUNT or CAP of counter `n` by master `m`: the word returned and what the read does. -/
def lcRead (cap : Bool) (m n : Nat) (s : State) : Word × State :=
  let f := if cap then LC_CAP_CAP else LC_COUNT_COUNT
  let live := w32 (s.get (f n))
  let b := n / 2 * 2
  if !lcChained s n then (live, (if cap then s.clear (LC_STAT_FULL n) else s).setLcShadow m {})
  else if n = b then
    (live, (if cap then s.clear (LC_STAT_FULL n) else s).setLcShadow m { of := some (cap, n), hi := w32 (s.get (f (n + 1))) })
  else if (s.lcShadow m).of = some (cap, b) then ((s.lcShadow m).hi, s.setLcShadow m {})
  else (live, (s.raise (LC_STAT_TORN_RISK b)).setLcShadow m {})

/-- After a write of CFGn: a slave that names itself sets SELF_MASTER (R56); MODE and MASTER of the odd half of a pair are ignored (R57). -/
def lcCfgWritten (n : Nat) (s : State) : State :=
  let md := s.get (LC_CFG_MODE n)
  if lcBase s n = n ∧ 1 ≤ md ∧ md ≤ 4 ∧ lcBase s (s.get (LC_CFG_MASTER n)) = lcBase s n then s.fault 0x04 0 else s

end Sys2Proof.Machine
end

