-- ==== Sys2Proof/Machine/Ports.lean ====
section
/-!
DEFINITION. Sys2Proof/Machine/Ports.lean: the sensor ports (spec/09_sensor_ports.md, R142 to R163) and the part of a poll
program's operations that ends on a port (spec/10_port_sequencers_and_attendance.md, R168 to R171, R178).
-/
namespace Sys2Proof.Machine

def State.port (s : State) (p : Nat) : PortX := SMap.get (fun _ => {}) s.ports p
def State.setPort (s : State) (p : Nat) (x : PortX) : State := { s with ports := SMap.put (fun _ => {}) s.ports p x }
def State.ctx (s : State) (n : Nat) : Ctx := SMap.get (fun _ => {}) s.ctxs n
def State.setCtx (s : State) (n : Nat) (x : Ctx) : State := { s with ctxs := SMap.put (fun _ => {}) s.ctxs n x }

/-- The page of a port. -/
def portPage (p : Nat) : Nat := 0x20 + p

/-- MODE as it acts: 8 to 15 act as 0 (R143). -/
def portMode (s : State) (p : Nat) : Nat := let m := s.get (PORT_MODE_MODE p); if 8 ≤ m then 0 else m
/-- UART, SDI-12, NMEA and MODBUS modes. -/
def charMode (m : Nat) : Bool := m == 1 || m == 2 || m == 5 || m == 6

/-- The port is present, enabled and clocked. -/
def portLive (s : State) (p : Nat) : Bool := decide (p < nPorts s.variant) && s.isUp (portPage p) && !s.busStopped

/-- HALT_FREEZE holds the port at its next character or word boundary (R142). -/
def portHeld (s : State) (p : Nat) : Bool := s.frozen (portPage p)

/-- A format field as it acts: one rewritten while the port was active acts from the start of the next operation (R163). -/
def State.pget (s : State) (p : Nat) (f : Fld) : Nat := match (s.port p).old.find? (fun o => o.1 == f.addr) with
  | some o => bits o.2.toNat f.lo f.w
  | none => s.get f
def State.pon (s : State) (p : Nat) (f : Fld) : Bool := s.pget p f != 0

/-- The fields of the present registers act: an operation starts. -/
def portLatch (p : Nat) (s : State) : State := s.setPort p { s.port p with old := [] }

/-- Before a write to a format register of an active port: its old word still acts (R163). -/
def portKeep (p a : Nat) (s : State) : State :=
  if (s.port p).old.any (fun o => o.1 == a) then s else s.setPort p { s.port p with old := (a, s.word a) :: (s.port p).old }

/-- BAUD as it acts (R146). -/
def baud (s : State) (p : Nat) : Nat := if portMode s p = 2 then 1200 else max 300 (min 10000000 (s.pget p (PORT_RATE_BAUD p)))

/-- STAT.WATCH_PAUSED (R160). -/
def watchPaused (s : State) (p : Nat) : Bool := s.clksrc == 1 && charMode (portMode s p) && decide (2560000 < baud s p)

/-- A pair of MODE and PHY that is valid on port `p` (R143). -/
def modeValid (p mode phy : Nat) : Bool :=
  let m := if 8 ≤ mode then 0 else mode
  if m = 2 then (phy == 2 && decide (p < 8)) || phy == 3
  else if m = 1 ∨ m = 5 ∨ m = 6 then decide (phy < 2)
  else phy == 0

/-- The port has the direct SDI-12 line (R152). -/
def sdiDirect (s : State) (p : Nat) : Bool := portMode s p == 2 && s.get (PORT_MODE_PHY p) == 2

/-- The charge pump runs. -/
def pumpRuns (s : State) : Bool := !s.busStopped && (List.range 8).any (fun p => sdiDirect s p)

/-- PLL cycles of `k` µs. -/
def usCycles (k : Nat) : Nat := ceilDiv (k * 262144) 100

/-- A poll operation uses the port. -/
def portBusy (s : State) (p : Nat) : Bool := match (s.ctx p).op with
  | .none => (s.port p).sending
  | .wait _ => (s.port p).sending
  | _ => true

/-- STAT.ACTIVE (R163): an operation, an automatic read, or characters that a stopped send still transmits. -/
def portActive (s : State) (p : Nat) : Bool := portBusy s p || (s.port p).auto.isSome

/-- STAT.DRIVING: DE, DIR or the SDI-12 driver is on, during a send and, with DE and DIR, for DE.LAG after it (R149). -/
def portDriving (s : State) (p : Nat) : Bool :=
  charMode (portMode s p) && decide (1 ≤ s.get (PORT_MODE_PHY p)) && (((s.port p).sending && (s.port p).started) || decide (s.clk.age < (s.port p).deTo))

/-- An eighth of a bit in PLL cycles, `k` times (R146). -/
def eighths (s : State) (p k : Nat) : Nat := k * 2621440000 / (8 * baud s p)

/-- DE and DIR are driven with DE.LEAD and DE.LAG, the direct SDI-12 line and RS-232 without them (R149). -/
def deTimed (s : State) (p : Nat) : Bool := s.get (PORT_MODE_PHY p) % 2 == 1
def deLead (s : State) (p : Nat) : Nat := if deTimed s p then eighths s p (s.pget p (PORT_DE_LEAD p)) else 0
def deLag (s : State) (p : Nat) : Nat := if deTimed s p then eighths s p (s.pget p (PORT_DE_LAG p)) else 0

/-- RX_LEVEL. -/
def rxLevel (s : State) (p : Nat) : Nat :=
  ((s.port p).rx.filter (fun i => match i with
    | .char _ _ _ => true
    | .frame _ _ => false)).length

/-- An error flag of the port; its event source follows (R161). -/
def portErr (p : Nat) (f : Fld) (s : State) : State := sample (200 + p) (s.raise f)

/-! ### The end of an operation (R171) -/

/-- ST of a line operation by rank (R171). -/
def stOf (f : OpFlags) : Nat :=
  if f.link then 10 else if f.busy then 9 else if f.nack then 4 else if f.overrun then 8 else if f.check then 2 else if f.frame then 3 else 0

/-- A context goes back to RUNNING with a status. -/
def opDone (n st : Nat) (s : State) : State :=
  let s1 := s.setCtx n { s.ctx n with op := .none, flags := {} }
  (s1.set (SEQ_CTX_STAT_ST n) st).set (SEQ_CTX_STAT_STATE n) 1

/-- Add to what the operation of a context has met. -/
def opFlag (n : Nat) (f : OpFlags → OpFlags) (s : State) : State :=
  match (s.ctx n).op with
  | .none => s
  | _ => s.setCtx n { s.ctx n with flags := f (s.ctx n).flags }

/-- The port's send is over. -/
def sendOver (p : Nat) (s : State) : State :=
  let x := s.port p
  s.setPort p { x with sending := false, tx := [], brk := none, started := false, run := 0, lastAct := some s.clk.age, awaitResp := true,
                       eoc := some s.clk.age, deTo := s.clk.age + deLag s p }

/-- Latch a capture point into STAMP (R178). -/
def latchStamp (n cap : Nat) (s : State) : State := s.setCtx n { s.ctx n with stamp := cap, stampValid := true }

/-- The SDI-12 CRC of the characters before it, as its three characters (R153). -/
def sdiCrc (cs : List Nat) : List Nat :=
  let c := crc16 0 cs
  [0x40 ||| (c / 4096), 0x40 ||| (c / 64 % 64), 0x40 ||| (c % 64)]

/-- A reply ends in CR LF. -/
def crLf (cs : List Nat) : Bool := cs.drop (cs.length - 2) == [13, 10]

/-- A CRC reply passes: its three characters before CR LF. -/
def sdiCrcOk (cs : List Nat) : Bool :=
  let b := cs.take (cs.length - 2)
  b.drop (b.length - 3) == sdiCrc (b.take (b.length - 3)) && decide (3 ≤ b.length)

/-- A RECV ends, by its END condition, by its timer or by the port (R170, R171). The CRC of a reply that has no CR LF is not checked (R153), and
TIMEOUT, which R171 ranks nowhere, gives way to every condition that it ranks before OK (DESIGN CHOICE, log entry 23). -/
def recvEnd (n : Nat) (timeout : Bool) (s0 : State) : State :=
  let s := s0.setPort n { s0.port n with started := false, run := 0 }
  match (s.ctx n).op with
  | .recv r =>
    let crcBad := r.crc && portMode s n == 2 && crLf r.chars && !(s.ctx n).flags.link && !sdiCrcOk r.chars
    let s1 := if crcBad then portErr n (PORT_ERR_SDI_CRC_GAP n) (opFlag n (fun f => { f with check := true }) s) else s
    let f := (s1.ctx n).flags
    let s2 := if portMode s1 n = 2 ∧ (f.check ∨ f.frame) then s1.inc (PORT_ERR_CNT_FRAMES_FAILED n) else s1
    let st := if timeout && stOf f == 0 then 1 else stOf f
    let rr := if r.entered || r.answered then 1 else if r.silent || (st == 1 && r.got == 0 && (s2.port n).acc.isEmpty) then 2 else 0
    let s3 := if r.stamp then (match r.first with
        | some c => latchStamp n c s2
        | none => s2) else s2
    opDone n st (s3.set (SEQ_CTX_STAT_RR n) rr)
  | _ => s0

/-- The START of an I2C RECV occurred at an instant that no command gives: a draw takes its place (log entry 6). -/
def drawStart (n : Nat) (r : Recv) (s : State) : State :=
  let (v, s1) := s.draw
  s1.setCtx n { s1.ctx n with op := .recv { r with first := some (v % 2 ^ 96) } }

/-- A bus RECV is cut: whether its START had occurred by then is open, and a draw decides (R178, DESIGN CHOICE, log entry 23). -/
def recvCut (n : Nat) (r : Recv) (s : State) : State :=
  if portMode s n = 3 ∧ r.stamp ∧ r.first.isNone then
    let (v, s1) := s.draw
    recvEnd n false (if bit v 0 then drawStart n r s1 else s1)
  else recvEnd n false s

/-- The operation of a context ends at once, with what it has met. -/
def opAbort (n : Nat) (f : OpFlags → OpFlags) (s : State) : State :=
  let s1 := opFlag n f s
  match (s1.ctx n).op with
  | .recv r => recvCut n r s1
  | .send _ _ _ =>
    let s2 := if portMode s1 n = 3 then s1.set (SEQ_CTX_STAT_RR n) 1 else s1
    opDone n (stOf (s2.ctx n).flags) (sendOver n s2)
  | .brk => opDone n (stOf (s1.ctx n).flags) (sendOver n s1)
  | _ => s1

/-! ### Characters into a reply (R170) -/

/-- Put bytes into the reply buffer; those beyond the 256th are discarded and set OVERFLOW. -/
def bufAdd (n : Nat) (bs : List Nat) (s : State) : State :=
  let x := s.ctx n
  let room := 256 - x.buf.length
  let s1 := s.setCtx n { x with buf := x.buf ++ bs.take room }
  if room < bs.length then opFlag n (fun f => { f with overrun := true }) s1 else s1

/-- Store the record of a RECV. -/
def setRecv (n : Nat) (r : Recv) (s : State) : State := s.setCtx n { s.ctx n with op := .recv r }

/-- END = 1 in a framing mode (R170). -/
def byFrame (s : State) (n : Nat) (r : Recv) : Bool := r.ends == 1 && (portMode s n == 5 || portMode s n == 6)

/-- A RECV takes one character. -/
def recvChar (n : Nat) (r : Recv) (v : Nat) (bad : Bool) (cap : Nat) (s : State) : State :=
  let s1 := bufAdd n [v % 256] s
  let s2 := if bad then opFlag n (fun f => { f with frame := true }) s1 else s1
  let ended := !byFrame s n r && (if r.ends = 2 then decide (r.count ≤ r.got + 1) else v % 256 == r.term)
  setRecv n { r with got := r.got + 1, first := some (r.first.getD cap), met := ended, chars := r.chars ++ [v % 256],
                     entered := r.entered || decide ((s.ctx n).buf.length < 256) } s2

/-- A RECV takes items of the FIFO until its END condition holds; characters of a frame in progress go to the port's own list until the frame
ends, and the end of a frame whose characters earlier operations took all delivers nothing. -/
def recvItems (n : Nat) : List RxItem → State → List RxItem × State
  | [], s => ([], s)
  | i :: rest, s =>
    match (s.ctx n).op with
    | .recv r =>
      if r.met then (i :: rest, s)
      else match i with
        | .char v bad cap =>
          if byFrame s n r then recvItems n rest (s.setPort n { s.port n with acc := (s.port n).acc ++ [.char v bad cap] })
          else recvItems n rest (recvChar n r v bad cap s)
        | .frame check gap =>
          if byFrame s n r && !(s.port n).acc.isEmpty then
            let cs := (s.port n).acc
            let take (u : State) (c : RxItem) : State := match c, (u.ctx n).op with
              | .char v bad cap, .recv q => recvChar n q v bad cap u
              | _, _ => u
            let s1 := cs.foldl take (s.setPort n { s.port n with acc := [] })
            let s2 := opFlag n (fun f => { f with check := f.check || check, frame := f.frame || gap }) s1
            match (s2.ctx n).op with
            | .recv q => recvItems n rest (setRecv n { q with met := true, answered := true } s2)
            | _ => (rest, s2)
          else recvItems n rest s
    | _ => (i :: rest, s)

/-- Let a waiting RECV take what the FIFO holds. -/
def recvDrain (n : Nat) (s : State) : State :=
  let (rest, s1) := recvItems n (s.port n).rx (s.setPort n { s.port n with rx := [] })
  s1.setPort n { s1.port n with rx := rest }

/-- An item enters the receive FIFO; a character that finds 32 there is discarded (R148). -/
def rxPush (p : Nat) (i : RxItem) (s : State) : State :=
  let lost := (match i with
    | .char _ _ _ => true
    | .frame _ _ => false) && decide (32 ≤ rxLevel s p)
  if lost then
    opFlag p (fun f => { f with overrun := true }) ((portErr p (PORT_ERR_RX_OVERRUN p) s).inc (PORT_ERR_CNT_LOST p))
  else recvDrain p (s.setPort p { s.port p with rx := (s.port p).rx ++ [i] })

/-- The characters of the frame in progress leave the FIFO. -/
def dropFrame (p : Nat) (s : State) : State :=
  let x := s.port p
  let keep := (x.rx.reverse.dropWhile (fun i => match i with
    | .char _ _ _ => true
    | .frame _ _ => false)).reverse
  s.setPort p { x with rx := keep, acc := [], chars := [], gap := false, last := none }

/-- A sentence or frame is delivered, failed or not. -/
def deliverFrame (p : Nat) (check gap : Bool) (s : State) : State :=
  let s1 := if check || gap then s.inc (PORT_ERR_CNT_FRAMES_FAILED p) else s
  rxPush p (.frame check gap) (s1.setPort p { s1.port p with chars := [], gap := false, last := none })

/-! ### Framing (R154, R155) -/

/-- The value of a hexadecimal digit. -/
def hexVal (c : Nat) : Option Nat :=
  if 48 ≤ c ∧ c ≤ 57 then some (c - 48) else if 65 ≤ c ∧ c ≤ 70 then some (c - 55) else if 97 ≤ c ∧ c ≤ 102 then some (c - 87) else none
/-- An upper-case hexadecimal digit. -/
def hexDigit (d : Nat) : Nat := if d < 10 then 48 + d else 55 + d
/-- XOR of characters. -/
def xorAll (cs : List Nat) : Nat := cs.foldl (fun a c => a ^^^ c) 0

/-- The checksum of a sentence: none without "*"; else whether it matches. -/
def nmeaCheck (cs : List Nat) : Option Bool :=
  let body := cs.drop 1
  let head := body.takeWhile (fun c => c != 42)
  match body.drop head.length with
  | [] => none
  | _ :: tail => match tail.map hexVal with
    | some h :: some l :: _ => some (16 * h + l == xorAll head)
    | _ => some false

/-- LF ends a sentence. -/
def nmeaEnd (p : Nat) (s : State) : State :=
  let cs := (s.port p).chars
  if 82 < cs.length then dropFrame p (portErr p (PORT_ERR_NMEA_LONG p) s)
  else match nmeaCheck cs with
    | none => deliverFrame p (s.pon p (PORT_FRAME_NMEA_REQ p)) false (portErr p (PORT_ERR_NMEA_NOCKSUM p) s)
    | some true => deliverFrame p false false s
    | some false => deliverFrame p true false (portErr p (PORT_ERR_NMEA_CKSUM p) s)

/-- A character in NMEA mode. -/
def nmeaChar (p v : Nat) (bad : Bool) (cap : Nat) (s : State) : State :=
  let startC := v == 36 || v == 33
  let inside := !(s.port p).chars.isEmpty
  if !startC && !inside then s
  else
    let s1 := if startC && inside then dropFrame p (portErr p (PORT_ERR_NMEA_LONG p) s) else s
    let s2 := rxPush p (.char v bad cap) (s1.setPort p { s1.port p with chars := (s1.port p).chars ++ [v] })
    if v = 10 then nmeaEnd p s2 else s2

/-- Bits of a character: start, data, parity, stop (R145). -/
def dataBits (s : State) (p : Nat) : Nat :=
  if portMode s p = 2 then 7 else let d := s.pget p (PORT_FRAME_DATA p); if 5 ≤ d ∧ d ≤ 9 then d else 8
def parityMode (s : State) (p : Nat) : Nat := if portMode s p = 2 then 1 else let v := s.pget p (PORT_FRAME_PARITY p); if 5 ≤ v then 0 else v
def charBits (s : State) (p : Nat) : Nat :=
  1 + dataBits s p + b2n (parityMode s p != 0) + (if s.pon p (PORT_FRAME_STOP2 p) && portMode s p != 2 then 2 else 1)

/-- A character in PLL cycles. -/
def charCycles (s : State) (p : Nat) : Nat := charBits s p * 2621440000 / baud s p

/-- T3.5 in PLL cycles (R155). -/
def t35 (s : State) (p : Nat) : Nat := if baud s p ≤ 19200 then ceilDiv (7 * charBits s p * 2621440000) (2 * baud s p) else usCycles 1750

/-- The line has been idle for `k` PLL cycles: since its last activity, or since the port took its mode. -/
def lineIdle (s : State) (p k : Nat) : Bool := match (s.port p).lastAct with
  | some a => decide (a + k ≤ s.clk.age)
  | none => true

/-- A time of `k` half characters in 2^−32 ticks, at least the fixed value above 19,200 Bd (R155). -/
def mbTime (s : State) (p halves us : Nat) : Nat :=
  if baud s p ≤ 19200 then halves * charBits s p * 131072000 * 2 ^ 32 / (2 * baud s p) else us * 131072 * 2 ^ 32 / 1000

/-- A character in Modbus mode, with the gap before it. -/
def mbChar (p v : Nat) (bad : Bool) (cap : Nat) (s : State) : State :=
  let x := s.port p
  let g := match x.last with
    | some e => decide (mbTime s p 3 750 < cap - e)
    | none => false
  let s1 := if g then portErr p (PORT_ERR_MB_GAP p) s else s
  let e := cap + charBits s p * 131072000 * 2 ^ 32 / baud s p
  rxPush p (.char v bad cap) (s1.setPort p { x with chars := x.chars ++ [v % 256], gap := x.gap || g, last := some e })

/-- `MODBUS_FRAME_END`: T3.5 of idle line. -/
def modbusFrameEnd (p : Nat) (s : State) : State :=
  let x := s.port p
  if !portLive s p || portMode s p != 6 || x.chars.isEmpty || !lineIdle s p (t35 s p) then s
  else if 256 < x.chars.length then dropFrame p (portErr p (PORT_ERR_MB_LONG p) s)
  else
    let bad := crc16 0xFFFF x.chars != 0
    deliverFrame p bad x.gap (if bad then portErr p (PORT_ERR_MB_CRC p) s else s)

/-! ### The receiver (R147, R149) -/

/-- The parity bit is wrong. -/
def parityBad (s : State) (p : Nat) (c : RxChar) : Bool :=
  let ones := popCount c.data (dataBits s p)
  match parityMode s p with
  | 1 => decide ((ones + b2n c.par) % 2 = 1)
  | 2 => decide ((ones + b2n c.par) % 2 = 0)
  | 3 => !c.par
  | 4 => c.par
  | _ => false

/-- Every bit reads spacing. -/
def allSpacing (s : State) (p : Nat) (c : RxChar) : Bool :=
  c.data % 2 ^ dataBits s p == 0 && !c.stop && (parityMode s p == 0 || !c.par)

/-- The port completes a character or word of `k` PLL cycles that ends now: one begun before HALT_FREEZE held it (R142), or before a WATCH
clock paused it (R160). -/
def portTakes (s : State) (p k : Nat) : Bool :=
  (!portHeld s p || decide (s.clk.halted < k)) && (!watchPaused s p || s.clk.slow.any (fun t => decide (t < k)))

/-- A character that ends now began while DE, DIR or the SDI-12 driver was on (R149). -/
def underDrive (s : State) (p : Nat) : Bool :=
  portDriving s p || (charMode (portMode s p) && decide (1 ≤ s.get (PORT_MODE_PHY p)) && decide (s.clk.age < (s.port p).deTo + charCycles s p)
    && decide (0 < (s.port p).deTo))

/-- A character ends at a receiver. -/
def charReceived (p : Nat) (c : RxChar) (s : State) : State :=
  let v := c.data % 2 ^ dataBits s p
  if !portLive s p || !charMode (portMode s p) || !portTakes s p (charCycles s p) || !c.start then s
  else if underDrive s p then
    if !s.on (PORT_MODE_ECHO p) then s
    else match (s.port p).echo with
      | [] => s
      | e :: r =>
        let s1 := s.setPort p { s.port p with echo := r }
        if e % 2 ^ dataBits s p = v then s1 else opAbort p (fun f => { f with link := true }) (portErr p (PORT_ERR_COLLISION p) s1)
  else
    let s0 := s.setPort p { s.port p with lastAct := some s.clk.age }
    let s1 := if c.noise then portErr p (PORT_ERR_NOISE p) s0 else s0
    if allSpacing s p c then portErr p (PORT_ERR_BREAK_DET p) s1
    else
      let bad := parityBad s p c || !c.stop
      let s2 := if bad then portErr p (PORT_ERR_FRAMING_PARITY p) s1 else s1
      match portMode s p with
      | 5 => nmeaChar p v bad c.cap s2
      | 6 => mbChar p v bad c.cap s2
      | _ => rxPush p (.char v bad c.cap) s2

/-! ### Port events on an operation (R151, R152, R156) -/

/-- A RECV waits on the port. -/
def recvOf (s : State) (n : Nat) : Option Recv := match (s.ctx n).op with
  | .recv r => some r
  | _ => none

/-- RESP_WAIT has passed since the end of the last SDI-12 command. -/
def respWaited (s : State) (p : Nat) : Bool := match (s.port p).eoc with
  | some e => decide (e + usCycles (s.pget p (PORT_SDI12_RSP_RESP_WAIT p)) ≤ s.clk.age)
  | none => true

/-- The response wait of SDI-12 expires: the first RECV after a send with nothing received. -/
def sdiRespWait (p : Nat) (s : State) : State :=
  match recvOf s p with
  | some r => if portLive s p && portMode s p == 2 && r.resp && r.got == 0 && respWaited s p then recvEnd p true s else s
  | none => s

/-- A gap of more than 1.66 ms inside a reply. -/
def sdiGap (p : Nat) (s : State) : State :=
  match recvOf s p with
  | some r =>
    if portLive s p && portMode s p == 2 && decide (0 < r.got) && !r.met && lineIdle s p (usCycles 1660 + 1) then
      recvEnd p false (opFlag p (fun f => { f with frame := true }) (portErr p (PORT_ERR_SDI_CRC_GAP p) s))
    else s
  | none => s

/-- An I2C operation is in progress on the port. -/
def i2cBusy (s : State) (p : Nat) : Bool := portMode s p == 3 && portBusy s p

/-- SCL held longer than STRETCH_TO. -/
def i2cStretchTo (p : Nat) (s : State) : State :=
  if portLive s p && i2cBusy s p && s.pget p (PORT_I2C_STRETCH_TO p) != 0 then
    let s1 := (portErr p (PORT_ERR_I2C_STRETCH_TO p) s).inc (PORT_ERR_CNT_FRAMES_FAILED p)
    match (s1.ctx p).op with
    | .recv r => opAbort p (fun f => { f with link := true }) (if r.first.isNone then drawStart p r s1 else s1)
    | .send _ _ _ => opAbort p (fun f => { f with link := true }) s1
    | _ => sendOver p s1
  else s

/-- The ports of R152. -/
def directPorts (s : State) : List Nat := (List.range 8).filter (fun p => sdiDirect s p)

/-- The pump is ready. -/
def pumpReady (s : State) : State := if pumpRuns s then { s with pumpOk := true } else s

/-- The pump falls below 4.5 V. -/
def pumpFailed (s : State) : State :=
  if pumpRuns s then
    (directPorts s).foldl (fun u p =>
      let u1 := u.fault (portPage p) 1
      if (u1.port p).sending then opAbort p (fun f => { f with link := true }) (sendOver p u1) else u1) { s with pumpOk := false }
  else s

/-- The effect of a wire's end on an I2C transfer: its flag, and what the operation has met. -/
def lineEnd (p : Nat) (e : LineEnd) (s : State) : State :=
  let fail (f : Fld) (g : OpFlags → OpFlags) : State := opFlag p g ((portErr p f s).inc (PORT_ERR_CNT_FRAMES_FAILED p))
  match e with
  | .ok => s
  | .addrNack => fail (PORT_ERR_I2C_NACK p) (fun f => { f with nack := true })
  | .dataNack => fail (PORT_ERR_I2C_NACK p) (fun f => { f with nack := true })
  | .arb => fail (PORT_ERR_I2C_ARB p) (fun f => { f with nack := true })
  | .stuck => fail (PORT_ERR_I2C_STUCK p) (fun f => { f with link := true })

/-! ### SPI (R157 to R159) -/

/-- Bits of a word; bytes that hold them. -/
def spiBits (s : State) (p : Nat) : Nat := max 3 (s.pget p (PORT_SPI_BITS_M1 p)) + 1
def spiBytes (s : State) (p : Nat) : Nat := ceilDiv (spiBits s p) 8

/-- The chip-select pin that a four-wire port names, or none for a three-pin port. -/
def csOf (s : State) (p : Nat) : Option (Nat × Nat) :=
  if s.on (PORT_SPI_WIRES p) then some (s.get (PORT_SPI_CS_PORT p), s.get (PORT_SPI_CS_PIN p)) else none

/-- The named pin can select: a present port in MODE 7. -/
def csValid (s : State) (p : Nat) : Bool := match csOf s p with
  | none => true
  | some (q, k) => decide (q < nPorts s.variant) && decide (k < 3) && portMode s q == 7

/-- A port has a transfer or an automatic read. -/
def spiFraming (s : State) (p : Nat) : Bool := portMode s p == 4 && (portBusy s p || (s.port p).auto.isSome)

/-- PLL cycles between SER edges: 32 in the PLL state, 128 on the reference (R160). -/
def serStep (s : State) : Int := if s.clksrc = 0 then 32 else 128

/-- The first SER edge at or after a TB value, as a PLL cycle. -/
def serEdge (s : State) (t : Nat) : Int :=
  let a := s.anchors.head?.getD (lineNow s)
  let c := a.plc + ceilDivInt ((t : Int) * 2 ^ 32 * 20 - a.tbf20) a.rate
  ceilDivInt c (serStep s) * serStep s

/-- SCK periods of a word with CS_N low: CS_SETUP, the bits and CS_HOLD. -/
def spiLow (s : State) (p : Nat) : Nat := max 2 (s.pget p (PORT_SPI_CS_SETUP p)) + spiBits s p + max 1 (s.pget p (PORT_SPI_CS_HOLD p))

/-- SER cycles of `n` SCK periods. -/
def sckSer (s : State) (p n : Nat) : Nat := n * 2 * (s.pget p (PORT_SPI_DIV p) + 1)

/-- SER cycles of a frame: with CS_IDLE. -/
def spiFrameSer (s : State) (p : Nat) : Nat := sckSer s p (spiLow s p + max 2 (s.pget p (PORT_SPI_CS_IDLE p)))

/-- PLL cycles of a frame. -/
def spiFrame (s : State) (p : Nat) : Int := spiFrameSer s p * serStep s

/-- A port asserts CS_N now: within a word of a transfer, whose words follow back to back (DESIGN CHOICE, log entry 23), or of an automatic
read. -/
def csLow (s : State) (p : Nat) : Bool :=
  let x := s.port p
  let low := sckSer s p (spiLow s p) * serStep s
  portMode s p == 4 && portLive s p &&
    ((x.started && decide (x.run < x.words * (spiFrame s p).toNat) && decide ((x.run : Int) % spiFrame s p < low))
      || x.auto.any (fun a => a.cur.any (fun t => decide (t ≤ (s.clk.plc : Int)) && decide ((s.clk.plc : Int) < t + low))))

/-- Ports that assert a pin that another port asserts too (R158). -/
def csClash (s : State) : List Nat :=
  let low := ((s.ports.map (fun q => q.1)).filter (fun p => (csOf s p).isSome && csLow s p))
  low.filter (fun p => low.any (fun q => q != p && csOf s q == csOf s p))

/-- Both set CS_CONFLICT, and their operations end LINK (R158, R171). -/
def csCheck (s : State) : State :=
  (csClash s).foldl (fun u q => opAbort q (fun f => { f with link := true }) (portErr q (PORT_ERR_CS_CONFLICT q) u)) s

/-- Start an automatic read at S. A start while one runs, or in another mode, does nothing. -/
def autoStart (p t : Nat) (s : State) : State :=
  if !portLive s p || portMode s p != 4 || (s.port p).auto.isSome then s
  else if !csValid s p then portErr p (PORT_ERR_SPI_CS_INVALID p) s
  else
    let s1 := portLatch p (opAbort p (fun f => { f with busy := true }) s)
    s1.setPort p { s1.port p with auto := some { s := t } }

/-- Where word `k` of an automatic read starts, and that it is late: on its grid, or when the previous frame ends. Back to back is a period
shorter than the frame at SER's full rate; a period that only the WATCH frame outlasts makes words late (R159, R160). -/
def autoWordStart (s : State) (p : Nat) (a : AutoRead) : Int × Bool :=
  let per := s.get (PORT_SPI_PERIOD_TICKS p)
  let back := decide (per * 20 < spiFrameSer s p * 32)
  let grid := serEdge s (a.s + (if back then 0 else a.k * per))
  if grid < a.free then (a.free, !back) else (grid, false)

/-- The next word of an automatic read begins once its instant has come; it sets SPI_LATE if it is late. A port that is held waits. -/
def autoBegin (p : Nat) (s : State) : State :=
  match (s.port p).auto with
  | none => s
  | some a =>
    if a.cur.isSome then s
    else if portHeld s p then s.setPort p { s.port p with auto := some { a with free := max a.free (s.clk.plc : Int) } }
    else
      let (t, late) := autoWordStart s p a
      if (s.clk.plc : Int) < t then s
      else
        let s1 := if late then portErr p (PORT_ERR_SPI_LATE p) s else s
        s1.setPort p { s1.port p with auto := some { a with cur := some t } }

/-- STOP: the read ends after the word in flight (R159). -/
def autoStop (p : Nat) (s : State) : State := match (s.port p).auto with
  | none => s
  | some a => s.setPort p { s.port p with auto := if a.cur.isSome then some { a with stopping := true } else none }

/-- Ports that start at a match of compare channel `m`. -/
def autosAtMatch (m t : Nat) (s : State) : State :=
  (List.range 24).foldl (fun s p =>
    if s.on (PORT_SPI_AUTO_CMP_EN p) && s.get (PORT_SPI_AUTO_AUTO_CMP p) == m then autoStart p t s else s) s

/-- The channel takes samples of port `p`: bound to it and RUNNING. -/
def boundTo (s : State) (c p : Nat) : Bool :=
  s.get (SCHED_CH0_SRC_TYPE c) == 3 && s.get (SCHED_CH0_SRC_NUM c) == p && chState s c == 2

/-- `SPI_AUTO_WORD`: a word of an automatic read (R159), the one in flight or, where none has begun, the next. -/
def autoWord (p : Nat) (w : Nat) (s : State) : State :=
  match (s.port p).auto with
  | none => s
  | some a =>
    if !portLive s p || (portHeld s p && a.cur.isNone) then s
    else
      let (t, s1) := match a.cur with
        | some t => (t, s)
        | none => let (t, late) := autoWordStart s p a
                  (t, if late then portErr p (PORT_ERR_SPI_LATE p) s else s)
      let next : AutoRead := { a with k := a.k + 1, free := t + spiFrame s p, cur := none }
      let s2 := s1.setPort p { s1.port p with auto := if a.stopping then none else some next }
      let c := s2.get (PORT_SPI_AUTO_CHANNEL p)
      let v := w % 2 ^ spiBits s2 p
      let x : Int := if s2.on (PORT_SPI_AUTO_SIGNED p) then sx (spiBits s2 p) v else sx 32 v
      if boundTo s2 c p then sampleArrival c (3, p) x (line20 s2 t / 20).toNat {} s2
      else (portErr p (PORT_ERR_SRC_MISMATCH p) s2).inc (PORT_ERR_CNT_LOST p)

/-! ### Endings of a port (R158, R160, R162, R163) -/

/-- The activity of a port ends: transfers with a link error, the automatic read, the FIFOs. -/
def portStop (p : Nat) (s : State) : State :=
  (opAbort p (fun f => { f with link := true }) s).setPort p {}

/-- The reference takes over the SER domain: the operations of a port that WATCH pauses end BUSY (R160, R185). -/
def portsPause (s : State) : State :=
  (s.ctxs.map (fun q => q.1)).foldl (fun u p => if watchPaused u p then opAbort p (fun f => { f with busy := true }) u else u) s

/-- The ports whose transfers use port `p` as chip select end with SPI_CS_INVALID. -/
def csGone (p : Nat) (s : State) : State :=
  if portMode s p ≠ 7 then s
  else (List.range (nPorts s.variant)).foldl (fun u q =>
    if spiFraming u q && ((csOf u q).map (fun c => c.1 == p)).getD false then portStop q (portErr q (PORT_ERR_SPI_CS_INVALID q) u)
    else u) s

/-- A PAGE reset of a port, before its fields take their Reset values. -/
def portReset (p : Nat) (s : State) : State := csGone p (portStop p s)

/-- Entry to DOZE: every port is off. -/
def portsDoze (s : State) : State :=
  { (List.range 24).foldl (fun u p => portStop p u) s with pumpOk := false }

/-- After a write of PORT.MODE that changed it: the pump follows. -/
def portModeWritten (s : State) : State := if pumpRuns s then s else { s with pumpOk := false }

/-! ### Commands -/

/-- `CHAR_RECEIVED`. -/
def execCharReceived (p : Nat) (c : RxChar) (s : State) : Out := done s (charReceived p c s)

/-- `NMEA_SENTENCE`: the LF that ends a sentence. -/
def execNmeaSentence (p : Nat) (c : RxChar) (s : State) : Out :=
  done s (if portMode s p = 5 ∧ c.data % 2 ^ dataBits s p = 10 then charReceived p c s else s)

/-- `MODBUS_FRAME_END`. -/
def execModbusFrameEnd (p : Nat) (s : State) : Out := done s (modbusFrameEnd p s)

/-- `I2C_STRETCH_TO`. -/
def execI2cStretchTo (p : Nat) (s : State) : Out := done s (i2cStretchTo p s)

/-- `SDI_RESP_WAIT`. -/
def execSdiRespWait (p : Nat) (s : State) : Out := done s (sdiRespWait p s)

/-- `SDI_GAP`. -/
def execSdiGap (p : Nat) (s : State) : Out := done s (sdiGap p s)

/-- `PUMP_OK`. -/
def execPumpOk (s : State) : Out := done s (pumpReady s)

/-- `PUMP_FAULT`. -/
def execPumpFault (s : State) : Out := done s (pumpFailed s)

/-- `SPI_AUTO_WORD`: the operand is the word received. -/
def execSpiAutoWord (p : Nat) (w : Word) (s : State) : Out := done s (autoWord p w.toNat s)

end Sys2Proof.Machine
end

