-- ==== Sys2Proof/Machine/Sequencer.lean ====
section
/-!
DEFINITION. Sys2Proof/Machine/Sequencer.lean: the protocol engine, its sixteen operations and the attendance table
(spec/10_port_sequencers_and_attendance.md, R164 to R186).
-/
namespace Sys2Proof.Machine

/-- The engine issues turns (R185). -/
def seqLive (s : State) (n : Nat) : Bool :=
  decide (n < nPorts s.variant) && s.runs 0x38 && !s.busStopped

/-- STATE: 0 IDLE, 1 RUNNING, 2 WAITING, 3 HALTED. -/
def ctxState (s : State) (n : Nat) : Nat := s.get (SEQ_CTX_STAT_STATE n)

/-- SEQ.RUNNING. -/
def seqRunning (s : State) : Nat :=
  ((List.range 24).map (fun n => if ctxState s n = 1 ∨ ctxState s n = 2 then 2 ^ n else 0)).sum

/-- Registers V0 and V1. -/
def vReg (n r : Nat) : Fld := if r % 2 = 0 then SEQ_CTX_V0_V n else SEQ_CTX_V1_V n

/-- An event flag of a context; its source follows (R184). -/
def ctxEvt (n : Nat) (f : Fld) (s : State) : State := sample (224 + n) (s.raise f)

/-! ### Start and stop (R165, R185) -/

/-- A start at nominal instant `t`; HALT_FREEZE holds turns and timers (R185), not starts. -/
def seqStart (n t : Nat) (s : State) : State :=
  if !(decide (n < nPorts s.variant) && s.isUp 0x38 && !s.busStopped) then s
  else if ctxState s n = 1 ∨ ctxState s n = 2 then ctxEvt n (SEQ_CTX_EVT_START_MISSED n) (s.inc (SEQ_CTX_EVT_MISSED n))
  else
    let s1 := s.setCtx n { startTb := t, stamp := (s.ctx n).stamp, base := s.get (SEQ_CTX_REGION_BASE n), limit := s.get (SEQ_CTX_REGION_LIMIT n) }
    let s2 := ((s1.set (SEQ_CTX_STAT_ST n) 0).set (SEQ_CTX_STAT_RR n) 0).set (SEQ_CTX_STAT_A n) 0
    let s3 := ((s2.set (vReg n 0) 0).set (vReg n 1) 0).set (SEQ_CTX_STAT_FAULT_KIND n) 0
    sample 251 ((s3.set (SEQ_CTX_STAT_PC n) (s3.get (SEQ_CTX_ENTRY_ENTRY n))).set (SEQ_CTX_STAT_STATE n) 1)

/-- A context returns to IDLE and its stage is discarded. -/
def ctxIdle (n : Nat) (s : State) : State :=
  sample 251 ((s.setCtx n { s.ctx n with op := .none, flags := {}, stage := [] }).set (SEQ_CTX_STAT_STATE n) 0)

/-- Starts at a match of compare channel `m` (R165). -/
def seqsAtMatch (m t : Nat) (s : State) : State :=
  (List.range 24).foldl (fun s n =>
    if s.on (SEQ_CTX_CFG_CMP_EN n) && s.get (SEQ_CTX_CFG_START_CMP n) == m then seqStart n t s else s) s

/-- Entry to DOZE: each running operation ends LINK, a WAIT too, and each context goes IDLE, a halted one too (R185). -/
def seqsDoze (s : State) : State :=
  (List.range 24).foldl (fun u n =>
    if ctxState u n = 0 then u
    else match (u.ctx n).op with
      | .wait _ => ctxIdle n (u.set (SEQ_CTX_STAT_ST n) 10)
      | _ => ctxIdle n (opAbort n (fun f => { f with link := true }) u)) s

/-- READY after a COLD or WARM reset: AUTO_START. -/
def seqsReady (s : State) : State :=
  (List.range 24).foldl (fun u n => if u.on (SEQ_CTX_CFG_AUTO_START n) then seqStart n u.tb u else u) s

/-! ### Fetch (R167) -/

/-- A program address lies in a context's region, as of its start (R186), and in program memory. -/
def inRegion (s : State) (n pc : Nat) : Bool := decide ((s.ctx n).base ≤ pc) && decide (pc ≤ (s.ctx n).limit) && decide (pc < 12288)

/-- A program word. -/
def progWord (s : State) (a : Nat) : Nat := if a < 12288 then s.get (SEQ_PROG_WORD a) else 0

/-- A context halts with a FAULT_KIND. -/
def ctxFault (n kind : Nat) (s : State) : State :=
  let s1 := ((s.set (SEQ_CTX_STAT_ST n) 14).set (SEQ_CTX_STAT_STATE n) 3).set (SEQ_CTX_STAT_FAULT_KIND n) kind
  let s2 := (s1.setCtx n { s1.ctx n with op := .none, flags := {}, stage := [] }).fault 0x38 n
  sample 251 (ctxEvt n (SEQ_CTX_EVT_FAULT n) s2)

/-- PC moves on by `k` words. -/
def ctxAdvance (n k : Nat) (s : State) : State := s.set (SEQ_CTX_STAT_PC n) (s.get (SEQ_CTX_STAT_PC n) + k)

/-- One turn of a RUNNING context that fetches opcode `op` inside its region: `f` is given the word and its address. -/
def turn (n op : Nat) (f : Nat → Nat → State → State) (s : State) : State :=
  let pc := s.get (SEQ_CTX_STAT_PC n)
  if seqLive s n && ctxState s n == 1 && inRegion s n pc && progWord s pc / 2 ^ 26 == op then f (progWord s pc) pc s else s

/-- A jump, whose target must lie in the region. -/
def ctxJump (n target : Nat) (s : State) : State :=
  if inRegion s n target then s.set (SEQ_CTX_STAT_PC n) target else ctxFault n 2 s

/-- The bytes of a literal after the word at `pc`. -/
def literal (s : State) (pc len : Nat) : List Nat :=
  (List.range len).map (fun i => progWord s (pc + 1 + i / 4) / 2 ^ (8 * (i % 4)) % 256)

/-- The turn of an operation whose fetch is undefined, out of its region, or fails its parity. -/
def undefinedOp (n : Nat) (parity : Bool) (s : State) : State :=
  let pc := s.get (SEQ_CTX_STAT_PC n)
  if !seqLive s n || ctxState s n != 1 then s
  else if !inRegion s n pc then ctxFault n 2 s
  else if parity then ctxFault n 3 s
  else if 0x10 ≤ progWord s pc / 2 ^ 26 then ctxFault n 1 s else s

/-! ### Line operations (R168 to R170) -/

/-- Set ST. -/
def setSt (n st : Nat) (s : State) : State := s.set (SEQ_CTX_STAT_ST n) st

/-- Whether a line operation can be issued on the port: it is in no mode, or busy (R171). -/
def lineBar (s : State) (n : Nat) : Option Nat :=
  if portMode s n = 0 ∨ !s.isUp (portPage n) then some 10
  else if (s.port n).auto.isSome ∨ watchPaused s n then some 9
  else none

/-- The address character of SDI-12 (R168). -/
def sdiAddr (a : Nat) : Nat := if a < 10 then 48 + a else if a < 36 then 55 + a else 61 + a

/-- The first byte with ADR = 1. -/
def addrByte (s : State) (n b : Nat) : Nat :=
  let a := s.get (SEQ_CTX_STAT_A n)
  let base := s.get (SEQ_CTX_CFG_ADR_BASE n)
  match portMode s n with
  | 2 => sdiAddr a
  | 3 => (a + base) % 128 * 2 + b % 2
  | 4 => b
  | _ => (a + base) % 256

/-- The characters that leave for a literal: the substituted address, the SDI-12 seventh bit, the checksum or CRC. -/
def sendBytes (s : State) (n : Nat) (adr : Bool) (bs : List Nat) : List Nat :=
  let b1 := match bs with
    | b :: r => (if adr then addrByte s n b else b) :: r
    | [] => []
  match portMode s n with
  | 2 => b1.map (fun b => b % 128)
  | 5 => if s.pon n (PORT_FRAME_NMEA_TXCK n) then
      let x := xorAll (b1.drop 1)
      b1 ++ [42, hexDigit (x / 16 % 16), hexDigit (x % 16), 13, 10] else b1
  | 6 => if s.pon n (PORT_FRAME_MB_TXCRC n) then
      let c := crc16 0xFFFF b1
      b1 ++ [c % 256, c / 256] else b1
  | _ => b1

/-- BREAK and MARK of SDI-12 as they act, in µs (R151). -/
def sdiBreak (s : State) (n : Nat) : Nat × Nat :=
  (max 12000 (s.pget n (PORT_SDI12_BRK_BREAK n)), max 8333 (s.pget n (PORT_SDI12_BRK_MARK n)))

/-- The line has been marking for more than REBREAK since its last activity, or since the port took its mode where it has had none. -/
def rebreak (s : State) (n : Nat) : Bool := decide (((s.port n).lastAct.getD 0) + usCycles (s.pget n (PORT_SDI12_RSP_REBREAK n) * 10) < s.clk.age)

/-- A stopped program's send still transmits on the port, so that no line operation can be issued yet (R185): the turn does nothing (DESIGN
CHOICE, log entry 24). -/
def lineTaken (s : State) (n : Nat) : Bool := (s.port n).sending

/-- A send that is due may begin on the line: the port is not held, the pump is ready (R152), a retried SDI-12 command has had its response
wait (R175), and a Modbus line is idle for T3.5 by the first start bit, DE.LEAD after the beginning (R155). -/
def canBegin (s : State) (n : Nat) : Bool :=
  !portHeld s n && !(sdiDirect s n && !s.pumpOk) && decide ((s.port n).holdTo ≤ s.clk.age)
    && (portMode s n != 6 || lineIdle s n (t35 s n - deLead s n))

/-- An I2C or SPI RECV waits on the port. -/
def recvOnBus (s : State) (n : Nat) : Bool := (portMode s n == 3 || portMode s n == 4) && (recvOf s n).isSome

/-- Its beginning. -/
def sendBegin (n : Nat) (s : State) : State :=
  if !(s.port n).started && canBegin s n then s.setPort n { s.port n with started := true, run := 0 } else s

/-- PLL cycles before the first character: DE.LEAD, and the break and its marking, in µs on an SDI-12 line. -/
def sendLead (s : State) (n : Nat) : Nat :=
  deLead s n + (match (s.port n).brk with
    | some (b, m) => if portMode s n = 2 then usCycles (b + m) else (b + m) * 2621440000 / baud s n
    | none => 0)

/-- PLL cycles of one character, SPI word, or I2C byte of nine bits at the mode's rate (R145, R156, R157). -/
def sendUnit (s : State) (n : Nat) : Nat :=
  match portMode s n with
  | 3 => 9 * 2621440000 / (match s.pget n (PORT_I2C_SPEED n) with
      | 1 => 400000
      | 2 => 1000000
      | _ => 100000)
  | 4 => (spiFrame s n).toNat
  | _ => charCycles s n

/-- The next boundary of characters or words at or after `k` cycles of a send. -/
def boundaryAfter (s : State) (n k : Nat) : Nat :=
  let l := sendLead s n
  if k ≤ l then l else l + ceilDiv (k - l) (max 1 (sendUnit s n)) * max 1 (sendUnit s n)

/-- A send that has begun goes on for `d` PLL cycles, under HALT_FREEZE to its next boundary only (R142). -/
def sendRun (n d : Nat) (s : State) : State :=
  let x := s.port n
  if !x.started then s
  else
    let k := x.run + d
    s.setPort n { x with run := if portHeld s n then min k (max x.run (boundaryAfter s n x.run)) else k }

/-- TX_LEVEL (R148): the engine keeps the FIFO of 32 full from the send's bytes, and a character leaves it as it begins on the line. -/
def txLevel (s : State) (n : Nat) : Nat :=
  let x := s.port n
  let l := sendLead s n
  let unit := max 1 (sendUnit s n)
  let per := if portMode s n = 4 then spiBytes s n else 1
  let gone := if x.started && decide (l ≤ x.run) then ((x.run - l) / unit + 1) * per else 0
  min 32 (x.tx.length - gone)

/-- The levels of SPTnA to SPTnC (R143): those of the pins that the port drives with a known level; the other bits come from `d`. -/
def pinLevels (s : State) (n d : Nat) : Nat :=
  let m := portMode s n
  let phy := s.get (PORT_MODE_PHY n)
  let pick (k : Nat) (v : Option Bool) : Nat := b2n (v.getD (bit d k)) * 2 ^ k
  let cs (k : Nat) : Option Bool := some (!(s.ports.any (fun q => csOf s q.1 == some (n, k) && csLow s q.1)))
  let quiet := !(s.port n).sending
  if !portLive s n then d % 8
  else if m = 7 then pick 0 (cs 0) + pick 1 (cs 1) + pick 2 (cs 2)
  else if m = 4 then
    pick 0 (if csLow s n then none else some (s.pon n (PORT_SPI_CPOL n))) + pick 1 none + pick 2 (if s.on (PORT_SPI_WIRES n) then none else some (!csLow s n))
  else if m = 2 ∧ phy = 3 then pick 0 (if quiet then some false else none) + pick 1 none + pick 2 (some (portDriving s n))
  else if m = 1 ∨ m = 5 ∨ m = 6 then
    pick 0 (if quiet then some (!s.on (PORT_MODE_INV n)) else none) + pick 1 none + pick 2 (if phy = 1 then some (portDriving s n) else none)
  else d % 8

/-- A context waits for an operation. -/
def ctxWait (n : Nat) (o : CtxOp) (s : State) : State := (s.setCtx n { s.ctx n with op := o, flags := {} }).set (SEQ_CTX_STAT_STATE n) 2

/-- PLL cycles of a WAIT word: COUNT µs or ms. -/
def waitCycles (w : Nat) : Nat := if bit w 25 then w % 2 ^ 24 * 2621440 else usCycles (w % 2 ^ 24)

/-- WAIT. -/
def doWait (n w : Nat) (s : State) : State := ctxAdvance n 1 (ctxWait n (.wait (waitCycles w)) s)

/-- The end of a WAIT, at a turn once its time has passed. -/
def waitDone (n : Nat) (s : State) : State :=
  match (s.ctx n).op with
  | .wait 0 => if seqLive s n then opDone n (s.get (SEQ_CTX_STAT_ST n)) s else s
  | _ => s

/-- SEND. -/
def doSend (n w pc : Nat) (s : State) : State :=
  let len := w % 256
  let m := portMode s n
  let adr := bit w 24
  let next (u : State) : State := ctxAdvance n (1 + ceilDiv len 4) u
  if lineTaken s n then s
  else if len = 0 ∨ m = 7 ∨ (m = 2 ∧ adr ∧ 62 ≤ s.get (SEQ_CTX_STAT_A n)) ∨ (m = 4 ∧ len % spiBytes (portLatch n s) n ≠ 0) then ctxFault n 1 s
  else match lineBar s n with
    | some st => next (setSt n st (if m = 3 then s.set (SEQ_CTX_STAT_RR n) 1 else s))
    | none =>
      if m = 4 ∧ !csValid s n then next (setSt n 10 (portErr n (PORT_ERR_SPI_CS_INVALID n) s))
      else
        let s0 := portLatch n s
        let bs := sendBytes s0 n adr (literal s0 pc len)
        let x := s0.port n
        let hold := match x.eoc with
          | some e => if m = 2 && (s0.ctx n).retried then e + usCycles (s0.pget n (PORT_SDI12_RSP_RESP_WAIT n)) else 0
          | none => 0
        let s1 := (s0.setPort n
          { x with tx := bs, echo := if s0.on (PORT_MODE_ECHO n) then bs else [], sending := true, started := false, run := 0, holdTo := hold,
                   words := if m = 4 then len / spiBytes s0 n else 0,
                   brk := if m = 2 && rebreak s0 n then some (sdiBreak s0 n) else none }).setCtx n { s0.ctx n with retried := false }
        csCheck (sendBegin n (next (ctxWait n (.send (bit w 25) (bit w 22) (bit w 23)) s1)))

/-- The words received on SPI as bytes, most significant first. -/
def spiRxBytes (s : State) (n : Nat) (ws : List Word) : List Nat :=
  ws.flatMap (fun w => ((List.range (spiBytes s n)).map (fun i => w.toNat % 2 ^ spiBits s n / 2 ^ (8 * i) % 256)).reverse)

/-- `SEND_DONE`: the transmission ends on the wire with `e`; `cap` is TB:FRAC of its capture point (R150, R178). -/
def sendDone (n cap : Nat) (e : LineEnd) (rx : List Word) (s : State) : State :=
  if !portLive s n || !(s.port n).sending || !(s.port n).started || !portTakes s n (sendUnit s n) then s
  else match (s.ctx n).op with
    | .send stamp capt noStop =>
      let m := portMode s n
      let s1 := if m = 3 then lineEnd n e s else s
      let s2 := sendOver n s1
      let s3 := s2.setPort n { s2.port n with noStop := noStop && m == 3 }
      let s4 := if stamp && (m != 3 || (e != .stuck && e != .arb)) && !(s3.ctx n).flags.link then latchStamp n cap s3 else s3
      let s5 := if m = 4 ∧ capt then bufAdd n (spiRxBytes s4 n rx) s4 else s4
      let s6 := if m = 3 then s5.set (SEQ_CTX_STAT_RR n) (if e = .addrNack then 2 else 1) else s5
      opDone n (stOf (s6.ctx n).flags) s6
    | .brk => s
    | _ => sendOver n (if portMode s n = 3 then lineEnd n e s else s)

/-- BREAK. -/
def doBreak (n w : Nat) (s : State) : State :=
  let m := portMode s n
  if lineTaken s n then s
  else if m = 3 ∨ m = 4 ∨ m = 7 then ctxFault n 1 s
  else match lineBar s n with
    | some st => ctxAdvance n 1 (setSt n st s)
    | none =>
      let s0 := portLatch n s
      let b := if m = 2 then sdiBreak s0 n else (max 13 (w % 256), 1)
      sendBegin n (ctxAdvance n 1 (ctxWait n .brk (s0.setPort n
        { s0.port n with tx := [], brk := some b, sending := true, started := false, run := 0, holdTo := 0 })))

/-- The line's break and marking are over. -/
def breakOver (n : Nat) (s : State) : State :=
  s.setPort n { s.port n with brk := none, sending := false, started := false, run := 0, lastAct := some s.clk.age, deTo := s.clk.age + deLag s n }

/-- `BREAK_DONE`; a break whose program was stopped completes on the line (R185). -/
def breakDone (n : Nat) (s : State) : State :=
  let x := s.port n
  if !portLive s n || !x.started || !portTakes s n (sendLead s n) then s
  else match (s.ctx n).op with
    | .brk => opDone n (stOf (s.ctx n).flags) (breakOver n s)
    | _ => if x.sending && x.tx.isEmpty && x.brk.isSome then breakOver n s else s

/-- RECV. -/
def doRecv (n w pc : Nat) (s : State) : State :=
  let w1 := progWord s (pc + 1)
  let ends := bits w 24 2
  let m := portMode s n
  let count := bits w1 24 8
  let bus := m == 3 || m == 4
  let adr := bit w 20
  if lineTaken s n then s
  else if ends = 3 ∨ (bus ∧ ends ≠ 2) ∨ (ends = 2 ∧ count = 0) ∨ m = 7 then ctxFault n 1 s
  else
    let x := s.ctx n
    let s0 := if bit w 19 then s else s.setCtx n { x with buf := [], cur := 0 }
    let s1 := ctxAdvance n 2 (if (lineBar s0 n).isNone then portLatch n s0 else s0)
    match lineBar s1 n with
    | some st => (setSt n st s1).set (SEQ_CTX_STAT_RR n) 0
    | none =>
      if m = 4 ∧ !csValid s1 n then (setSt n 10 (portErr n (PORT_ERR_SPI_CS_INVALID n) s1)).set (SEQ_CTX_STAT_RR n) 0
      else
        let total := bits w1 0 24 + (if bit w 21 then 1000 * s1.get (vReg n 1) else 0)
        let r : Recv := { ends := ends, term := bits w 8 8, count := count, stamp := bit w 23, crc := bit w 22,
                          left := if total = 0 then none else some (total * 2621440), resp := m == 2 && (s1.port n).awaitResp }
        let tx := if m = 3 then [if adr then addrByte s1 n (bits w 8 8) else bits w 8 8] else []
        let s2 := s1.setPort n { s1.port n with awaitResp := false, tx := tx, noStop := false, started := bus && !portHeld s1 n, run := 0,
                                                words := if m = 4 then count else 0, brk := none }
        let s3 := ctxWait n (.recv r) s2
        if bus then csCheck s3 else recvDrain n s3

/-- `RECV_DONE`: a character RECV completes once its END condition holds; an I2C or SPI transfer ends on the wire with `e` and
the words received, `cap` being TB:FRAC of its START. -/
def recvDone (n cap : Nat) (e : LineEnd) (rx : List Word) (s : State) : State :=
  match (s.ctx n).op with
  | .recv r =>
    let m := portMode s n
    if !seqLive s n || !portLive s n || ((m = 3 ∨ m = 4) ∧ !portTakes s n (sendUnit s n)) then s
    else
      let enters := decide ((s.ctx n).buf.length < 256)
      if m = 3 then
        let s1 := lineEnd n e s
        let bs := if e = .ok ∨ e = .arb then (rx.map (fun w => w.toNat % 256)).take r.count else []
        let ack := match e with
          | .addrNack | .stuck => false
          | .arb => !bs.isEmpty
          | _ => true
        let r1 : Recv := { r with got := r.got + bs.length, first := if e = .stuck then none else some cap, answered := ack,
                                  silent := e == .addrNack, entered := enters && !bs.isEmpty }
        recvEnd n false (bufAdd n bs (setRecv n r1 s1))
      else if m = 4 then
        let bs := spiRxBytes s n (rx.take r.count)
        recvEnd n false (bufAdd n bs (setRecv n { r with got := r.got + bs.length, entered := enters && !bs.isEmpty } s))
      else if r.met then recvEnd n false s else s
  | _ => s

/-- `RECV_TIMEOUT`. -/
def recvTimeout (n : Nat) (s : State) : State :=
  match (s.ctx n).op with
  | .recv r => if seqLive s n && r.left == some 0 && !r.met then recvEnd n true s else s
  | _ => s

/-! ### The buffer: MATCH, CUR, PARSE (R172, R173) -/

/-- A literal matches the front of a list. -/
def matchAt (wild : Bool) : List Nat → List Nat → Bool
  | [], _ => true
  | l :: ls, b :: bs => ((wild && l == 0) || l == b) && matchAt wild ls bs
  | _ :: _, [] => false

/-- The offset of the first occurrence. -/
def findLit (wild : Bool) (lit : List Nat) : List Nat → Nat → Option Nat
  | [], i => if matchAt wild lit [] then some i else none
  | b :: bs, i => if matchAt wild lit (b :: bs) then some i else findLit wild lit bs (i + 1)

/-- MATCH. -/
def doMatch (n w pc : Nat) (s : State) : State :=
  let len := w % 256
  if len = 0 then ctxFault n 1 s
  else
    let x := s.ctx n
    let lit := literal s pc len
    let rest := x.buf.drop x.cur
    let hit := if bit w 25 then findLit (bit w 24) lit rest 0 else if matchAt (bit w 24) lit rest then some 0 else none
    let s1 := match hit with
      | some i => setSt n 0 (s.setCtx n { x with cur := x.cur + i + len })
      | none => setSt n 5 s
    ctxAdvance n (1 + ceilDiv len 4) s1

/-- CUR. -/
def doCur (n w : Nat) (s : State) : State :=
  let x := s.ctx n
  let imm := sx 16 (bits w 0 16)
  let len : Int := x.buf.length
  if bits w 24 2 = 3 then ctxFault n 1 s
  else
    let t : Int := match bits w 24 2 with
      | 0 => imm
      | 1 => x.cur + imm
      | _ => len
    let c := if t < 0 then 0 else if len < t then len else t
    ctxAdvance n 1 (setSt n (if c = t then 0 else 7) (s.setCtx n { x with cur := c.toNat }))

def isDigit (c : Nat) : Bool := decide (48 ≤ c) && decide (c ≤ 57)
def isBlank (c : Nat) : Bool := c == 32 || c == 9

/-- Characters skipped before the field. -/
def sepLen (sep : Nat) (cs : List Nat) : Nat := match sep with
  | 1 => if cs.headD 0 = 44 then 1 else 0
  | 2 => (cs.takeWhile isBlank).length
  | 3 => (cs.takeWhile (fun c => isBlank c || c == 44)).length
  | _ => 0

/-- The number of decimal digits. -/
def decVal (ds : List Nat) : Nat := ds.foldl (fun a d => 10 * a + (d - 48)) 0

/-- What a field gives: the characters it takes, whether it has digits, and its value before saturation. -/
structure Field where
  len : Nat
  found : Bool
  value : Int

/-- A decimal field, with a fraction when `frac` (R173): value × 10^S, rounded half away from zero. -/
def decField (frac : Bool) (sc : Nat) (cs : List Nat) : Field :=
  let sg := if cs.headD 0 = 43 ∨ cs.headD 0 = 45 then 1 else 0
  let ip := (cs.drop sg).takeWhile isDigit
  let after := cs.drop (sg + ip.length)
  let fp := if frac && after.headD 0 == 46 then (after.drop 1).takeWhile isDigit else []
  let len := sg + ip.length + (if fp.isEmpty then 0 else 1 + fp.length)
  let mag := decVal (ip ++ fp) * 10 ^ sc
  let v := (2 * mag + 10 ^ fp.length) / (2 * 10 ^ fp.length)
  { len := len, found := !(ip.isEmpty && fp.isEmpty), value := if cs.headD 0 = 45 then -(v : Int) else v }

/-- A hexadecimal field. -/
def hexField (cs : List Nat) : Field :=
  let hs := cs.takeWhile (fun c => (hexVal c).isSome)
  { len := hs.length, found := !hs.isEmpty, value := (hs.foldl (fun a c => 16 * a + (hexVal c).getD 0) 0 : Nat) }

/-- A field of raw bytes. -/
def byteField (big signed' : Bool) (width : Nat) (cs : List Nat) : Field :=
  if cs.length < width then { len := 0, found := false, value := 0 }
  else
    let bs := cs.take width
    let v := leNat (if big then bs.reverse else bs)
    { len := width, found := true, value := if signed' then sx (8 * width) v else v }

/-- The field a PARSE word reads; a hexadecimal value wider than 32 bits is stated by no rule, and a draw takes its place. -/
def parseField (w : Nat) (cs : List Nat) (s : State) : Field × Bool × State :=
  let width := bits w 16 4
  let text := if width = 0 then cs else cs.take width
  match bits w 23 3 with
  | 0 | 1 =>
    let f := if bits w 23 3 = 0 then decField false 0 text else decField true (min 9 (bits w 12 4)) text
    ({ f with value := satS 32 f.value }, satS 32 f.value != f.value, s)
  | 2 =>
    let f := hexField text
    if 2 ^ 32 ≤ f.value then
      let (v, s1) := s.draw
      ({ f with value := (v % 2 ^ 32 : Nat) }, false, s1)
    else (f, false, s)
  | 3 => (byteField true (bit w 12) width cs, false, s)
  | _ => (byteField false (bit w 12) width cs, false, s)

/-- PARSE. -/
def doParse (n w : Nat) (s : State) : State :=
  let fmt := bits w 23 3
  let width := bits w 16 4
  if 5 ≤ fmt ∨ (3 ≤ fmt ∧ (width = 0 ∨ 4 < width)) then ctxFault n 1 s
  else
    let x := s.ctx n
    let cs := x.buf.drop x.cur
    let k := sepLen (bits w 20 2) cs
    let (f, range, s0) := parseField w (cs.drop k) s
    let s1 := ctxAdvance n 1 s0
    if !f.found then setSt n 6 (s1.setCtx n { x with cur := x.cur + k })
    else
      let x1 := { x with cur := x.cur + k + f.len }
      let st := if range then 7 else 0
      if bit w 22 then setSt n st ((s1.setCtx n x1).set (vReg n (w % 2)) (ux 32 f.value))
      else if 16 ≤ x.stage.length then setSt n 12 (s1.setCtx n x1)
      else setSt n st (s1.setCtx n { x1 with stage := x1.stage ++ [(w % 256, sx 32 (ux 32 f.value), range)] })

/-! ### EMIT (R174) -/

/-- EMIT. -/
def doEmit (n w : Nat) (s : State) : State :=
  let src := bits w 24 2
  if src = 3 then ctxFault n 1 s
  else
    let x := s.ctx n
    let stamp := match src with
      | 0 => if x.stampValid then x.stamp else x.startTb * 2 ^ 32
      | 1 => x.startTb * 2 ^ 32
      | _ => s.tb * 2 ^ 32
    let s1 := x.stage.foldl (fun u e =>
      if boundTo u e.1 n then sampleArrival e.1 (3, n) e.2.1 stamp { clip := e.2.2 } u
      else portErr n (PORT_ERR_SRC_MISMATCH n) u) s
    ctxAdvance n 1 (s1.setCtx n { s1.ctx n with stage := [] })

/-! ### Flow (R175 to R177) -/

/-- RETRY. -/
def doRetry (n w : Nat) (s : State) : State :=
  let x := s.ctx n
  if x.rc < bits w 22 4 then ctxJump n (bits w 0 14) (s.setCtx n { x with rc := x.rc + 1, retried := portMode s n == 2 })
  else ctxAdvance n 1 (s.setCtx n { x with rc := 0 })

/-- The attendance entry of a port and address. -/
def attEntry (p a : Nat) : Nat := 64 * p + a

/-- BR. -/
def doBr (n w : Nat) (s : State) : State :=
  let cond := bits w 22 4
  let arg := bits w 16 6
  if 8 ≤ cond then ctxFault n 1 s
  else
    let v := vReg n (arg % 2)
    let s1 := if cond = 5 then s.set v (s.get v + 2 ^ 32 - 1) else s
    let st := s.get (SEQ_CTX_STAT_ST n)
    let hit := match cond with
      | 0 => true
      | 1 => st == arg % 16
      | 2 => st != arg % 16
      | 3 => s.on (flagBit arg)
      | 4 => !s.on (flagBit arg)
      | 5 => s1.get v != 0
      | 6 => s.get (SEQ_CTX_STAT_RR n) == arg % 4
      | _ => s.on (ATT_ENT0_PRESENT (attEntry n (s.get (SEQ_CTX_STAT_A n))))
    if hit then ctxJump n (bits w 0 14) s1 else ctxAdvance n 1 s1

/-- ADDR. -/
def doAddr (n w : Nat) (s : State) : State :=
  let arg := bits w 0 6
  let sel := bits w 22 2
  let x := s.ctx n
  match bits w 24 2 with
  | 0 => ctxAdvance n 1 (setSt n 0 ((s.setCtx n { x with visited := false }).set (SEQ_CTX_STAT_A n) arg))
  | 1 =>
    if sel = 3 then ctxFault n 1 s
    else
      let a0 := s.get (SEQ_CTX_STAT_A n)
      let lo := if x.visited then a0 + 1 else a0
      let hi := if portMode s n = 2 then min arg 61 else arg
      let ok (a : Nat) : Bool := decide (lo ≤ a) && decide (a ≤ hi) && (match sel with
        | 1 => s.on (ATT_ENT0_PRESENT (attEntry n a))
        | 2 => !s.on (ATT_ENT0_PRESENT (attEntry n a))
        | _ => true)
      match (List.range 64).find? ok with
      | some a => ctxAdvance n 1 (setSt n 0 ((s.setCtx n { x with visited := true }).set (SEQ_CTX_STAT_A n) a))
      | none => ctxAdvance n 1 (setSt n 11 s)
  | _ => ctxFault n 1 s

/-- SETV. -/
def doSetv (n w : Nat) (s : State) : State :=
  let v := vReg n (bits w 16 1)
  let imm := sx 16 (bits w 0 16)
  ctxAdvance n 1 (match bits w 24 2 with
    | 0 => s.setS v imm
    | 1 => s.setS v (s.get v + imm)
    | 2 => s.set v (s.get (SEQ_CTX_STAT_A n))
    | _ => s.set (SEQ_CTX_STAT_A n) (s.get v))

/-- SIGNAL. -/
def doSignal (n w : Nat) (s : State) : State :=
  match bits w 24 2 with
  | 0 => ctxAdvance n 1 (s.raise (flagBit (w % 32)))
  | 1 => ctxAdvance n 1 (s.clear (flagBit (w % 32)))
  | 2 => ctxAdvance n 1 (ctxEvt n (SEQ_CTX_EVT_SIGNAL n) (s.set (SEQ_CTX_EVT_CODE n) (w % 256)))
  | _ => ctxFault n 1 s

/-- RAW. -/
def doRaw (n : Nat) (s : State) : State :=
  let s0 := ctxAdvance n 1 s
  if !s.on SEQ_QUEUES_RAW_EN then s0
  else
    let x := s.ctx n
    let head := (Config.rawHeader n (s.get (SEQ_CTX_STAT_A n)) (s.get (SEQ_CTX_STAT_ST n)) x.buf.length).toNat
    let t := x.stamp / 2 ^ 32
    let ws := (List.range (ceilDiv x.buf.length 4)).map (fun i => leNat ((x.buf.drop (4 * i)).take 4))
    setSt n 0 (wholePacket (s.get SEQ_QUEUES_RAW_QUEUE) (s.get SEQ_QUEUES_RAW_LANE) (.port n) 6 0
      ([head, t % 2 ^ 32, t / 2 ^ 32 % 2 ^ 32] ++ ws) (12 + x.buf.length) s0).2

/-- END. -/
def doEnd (n : Nat) (s : State) : State := ctxIdle n (ctxEvt n (SEQ_CTX_EVT_DONE n) s)

/-! ### Attendance (R179 to R183) -/

/-- A JOIN (1), LEAVE (2) or REPLACED (3) of an address (R182). -/
def attEvent (p a kind : Nat) (s : State) : State :=
  let s1 := match kind with
    | 1 => sample 248 ((s.raise ATT_EVT_JOIN).inc ATT_COUNTS_JOINS)
    | 2 => sample 249 ((s.raise ATT_EVT_LEAVE).inc ATT_COUNTS_LEAVES)
    | _ => sample 250 (s.raise ATT_EVT_REPLACED)
  let s2 := ((s1.set ATT_LAST_KIND kind).set ATT_LAST_PORT p).set ATT_LAST_ADDR a
  if !s2.on SEQ_QUEUES_ATT_EN then s2
  else
    let (r, s3) := wholePacket (s2.get SEQ_QUEUES_ATT_QUEUE) (s2.get SEQ_QUEUES_ATT_LANE) (.port p) 4 0
      [s2.tb % 2 ^ 32, s2.tb / 2 ^ 32, kind * 2 ^ 24 + p * 2 ^ 16 + a, s2.get (ATT_ENT2_HASH (attEntry p a))] 16 s2
    match r with
    | .ok => s3
    | _ => sample 252 (s3.raise ATT_EVT_PKT_LOST)

/-- The identity bytes: from CUR to the end without trailing CR and LF. -/
def identity (x : Ctx) : List Nat := ((x.buf.drop x.cur).reverse.dropWhile (fun c => c == 13 || c == 10)).reverse

/-- ATTEND. -/
def doAttend (n w : Nat) (s : State) : State :=
  let a := s.get (SEQ_CTX_STAT_A n)
  let e := attEntry n a
  let s0 := ctxAdvance n 1 s
  let seen := s.tb / 2 ^ 24 % 2 ^ 32
  match s.get (SEQ_CTX_STAT_RR n) with
  | 1 =>
    let s1 := ((s0.set (ATT_ENT0_MISSES e) 0).set (ATT_ENT1_LAST_SEEN e) seen).raise (ATT_ENT0_KNOWN e)
    let join := !s.on (ATT_ENT0_PRESENT e)
    let s2 := if join then ((s1.raise (ATT_ENT0_PRESENT e)).set (ATT_ENT3_FIRST_SEEN e) seen).inc (ATT_ENT0_JOINS e) else s1
    let h := crc32 (identity (s.ctx n))
    let hash := bit w 25
    let repl := hash && s.on (ATT_ENT0_HASH_VALID e) && s.get (ATT_ENT2_HASH e) != h
    let s3 := if hash then (s2.raise (ATT_ENT0_HASH_VALID e)).set (ATT_ENT2_HASH e) h else s2
    let s4 := if join then attEvent n a 1 s3 else s3
    if repl then attEvent n a 3 s4 else s4
  | 2 =>
    let s1 := s0.inc (ATT_ENT0_MISSES e)
    if s.on (ATT_ENT0_PRESENT e) && decide (max 1 (s.get (SEQ_CTX_CFG_LEAVE_MISSES n)) ≤ s1.get (ATT_ENT0_MISSES e)) then
      attEvent n a 2 (s1.clear (ATT_ENT0_PRESENT e))
    else s1
  | _ => s0

/-- A write of ATT.CLEAR (R183). -/
def attClear (p : Nat) (s : State) : State :=
  if nPorts s.variant ≤ p then s
  else (List.range 256).foldl (fun u i => u.setWord ((ATT_ENT0_PRESENT (64 * p)).addr + 4 * i) 0) s

/-! ### Time on the lines -/

/-- The timer of a context's WAIT or RECV goes on for `d` PLL cycles, unless HALT_FREEZE holds the engine (R185). -/
def ctxTick (n d : Nat) (s : State) : State :=
  if s.frozen 0x38 then s
  else match (s.ctx n).op with
    | .wait k => s.setCtx n { s.ctx n with op := .wait (k - d) }
    | .recv r => s.setCtx n { s.ctx n with op := .recv { r with left := r.left.map (fun k => k - d) } }
    | _ => s

/-- A port's send or transfer goes on for `d` PLL cycles, or begins; a word of its automatic read may begin. -/
def portTick (p d : Nat) (s : State) : State :=
  let x := s.port p
  let s1 := if x.started then sendRun p d s else if x.sending || recvOnBus s p then sendBegin p s else s
  autoBegin p s1

/-- `d` PLL cycles pass for every port and context. -/
def linesTick (d : Nat) (s : State) : State :=
  let s0 : State := { s with clk := { s.clk with halted := if coreHalted s then s.clk.halted + d else 0 } }
  let s1 := (s0.ports.map (fun p => p.1)).foldl (fun u p => portTick p d u) s0
  csCheck ((s1.ctxs.map (fun n => n.1)).foldl (fun u n => ctxTick n d u) s1)

/-! ### Commands -/

/-- `END`. -/
def execOpEnd (n : Nat) (s : State) : Out := done s (turn n 0x00 (fun _ _ => doEnd n) s)
/-- `SEND`. -/
def execOpSend (n : Nat) (s : State) : Out := done s (turn n 0x01 (doSend n) s)
/-- `SEND_DONE`. -/
def execSendDone (n cap : Nat) (e : LineEnd) (rx : List Word) (s : State) : Out := done s (sendDone n cap e rx s)
/-- `BREAK`. -/
def execOpBreak (n : Nat) (s : State) : Out := done s (turn n 0x02 (fun w _ => doBreak n w) s)
/-- `BREAK_DONE`. -/
def execBreakDone (n : Nat) (s : State) : Out := done s (breakDone n s)
/-- `WAIT`. -/
def execOpWait (n : Nat) (s : State) : Out := done s (turn n 0x03 (fun w _ => doWait n w) s)
/-- `WAIT_DONE`: COUNT µs or ms have passed since the WAIT. -/
def execWaitDone (n : Nat) (s : State) : Out := done s (waitDone n s)
/-- `RECV`. -/
def execOpRecv (n : Nat) (s : State) : Out := done s (turn n 0x04 (doRecv n) s)
/-- `RECV_DONE`. -/
def execRecvDone (n cap : Nat) (e : LineEnd) (rx : List Word) (s : State) : Out := done s (recvDone n cap e rx s)
/-- `RECV_TIMEOUT`. -/
def execRecvTimeout (n : Nat) (s : State) : Out := done s (recvTimeout n s)
/-- `MATCH`. -/
def execOpMatch (n : Nat) (s : State) : Out := done s (turn n 0x05 (doMatch n) s)
/-- `PARSE`. -/
def execOpParse (n : Nat) (s : State) : Out := done s (turn n 0x06 (fun w _ => doParse n w) s)
/-- `EMIT`. -/
def execOpEmit (n : Nat) (s : State) : Out := done s (turn n 0x07 (fun w _ => doEmit n w) s)
/-- `RETRY`. -/
def execOpRetry (n : Nat) (s : State) : Out := done s (turn n 0x08 (fun w _ => doRetry n w) s)
/-- `BR`. -/
def execOpBr (n : Nat) (s : State) : Out := done s (turn n 0x09 (fun w _ => doBr n w) s)
/-- `ADDR`. -/
def execOpAddr (n : Nat) (s : State) : Out := done s (turn n 0x0A (fun w _ => doAddr n w) s)
/-- `ATTEND`. -/
def execOpAttend (n : Nat) (s : State) : Out := done s (turn n 0x0B (fun w _ => doAttend n w) s)
/-- `SETV`. -/
def execOpSetv (n : Nat) (s : State) : Out := done s (turn n 0x0C (fun w _ => doSetv n w) s)
/-- `SIGNAL`. -/
def execOpSignal (n : Nat) (s : State) : Out := done s (turn n 0x0D (fun w _ => doSignal n w) s)
/-- `CUR`. -/
def execOpCur (n : Nat) (s : State) : Out := done s (turn n 0x0E (fun w _ => doCur n w) s)
/-- `RAW`. -/
def execOpRaw (n : Nat) (s : State) : Out := done s (turn n 0x0F (fun _ _ => doRaw n) s)
/-- `UNDEFINED_OPCODE`: the turn whose fetch fails; `parity` is a parity error in the word. -/
def execUndefinedOpcode (n : Nat) (parity : Bool) (s : State) : Out := done s (undefinedOp n parity s)

end Sys2Proof.Machine
end

