-- ==== Sys2Proof/Machine/Compare.lean ====
section
/-!
DEFINITION. Sys2Proof/Machine/Compare.lean: the compare channels (spec/04_compare_channels_and_linked_counters.md, R48 to R52,
R416): matches and what they start, advances, commits, aligned arming, and keyed loads of TB (R46).
-/
namespace Sys2Proof.Machine

def State.cmp (s : State) (n : Nat) : CmpX := SMap.get (fun _ => {}) s.cmps n
def State.setCmp (s : State) (n : Nat) (x : CmpX) : State := { s with cmps := SMap.put (fun _ => {}) s.cmps n x }

/-- The compare value in force. -/
def cmpValue (s : State) (n : Nat) : Nat := s.get (CMP_CMP_LO_CMP n) + s.get (CMP_CMP_HI_CMP n) * 2 ^ 32
def setCmpValue (n v : Nat) (s : State) : State := (s.set (CMP_CMP_LO_CMP n) v).set (CMP_CMP_HI_CMP n) (v / 2 ^ 32)
def cmpPeriod (s : State) (n : Nat) : Nat := s.get (CMP_PER_LO_PER n) + s.get (CMP_PER_HI_PER n) * 2 ^ 32
def cmpPhase (s : State) (n : Nat) : Nat := s.get (CMP_PHASE_LO_PHASE n) + s.get (CMP_PHASE_HI_PHASE n) * 2 ^ 32

/-- A channel is periodic: PERIODIC = 1 and PERIOD is not 0 (R49). -/
def cmpPeriodic (s : State) (n : Nat) : Bool := s.on (CMP_CTRL_PERIODIC n) && cmpPeriod s n != 0

/-- The strobe of channel `m` with nominal instant `t` reaches its consumers (R48, R60, R96, R132, R159, R165, R377). -/
def cmpStrobe (m t : Nat) (s : State) : State :=
  let s1 := pulse m (s.set ⟨CMP_HIT_LO_HIT.addr + 4 * (m / 32), m % 32, 1⟩ 1)
  if s.busStopped then s1
  else seqsAtMatch m t (smsAtMatch m (syncAt m t (autosAtMatch m t (pgsAtMatch m t (lcsAtMatch m t s1)))))

/-- The channel would match at this update: armed, nothing pending, and TB has reached or passed CMP. -/
def cmpDue (s : State) (n : Nat) : Bool :=
  s.on (CMP_CTRL_ARM n) && (s.cmp n).adv.isNone && (s.cmp n).align.isNone && decide (cmpValue s n ≤ s.tb)

/-- A match (R48, R49). -/
def cmpMatch (n : Nat) (s : State) : State :=
  if !s.ready 0x03 || !cmpDue s n then s
  else
    let v := cmpValue s n
    let x := s.cmp n
    let s1 := (s.setCmp n { x with late := false }).when x.late (fun s => s.raise (CMP_STAT_LATE n))
    if cmpPeriodic s n then
      let p := cmpPeriod s n
      let k := (s.tb - v) / p
      let s2 := s1.when (decide (0 < k)) (fun s => (s.addSat (CMP_STAT_SKIPPED n) k).raise (CMP_STAT_SKIP n))
      let s3 := (s2.setCmp n { x with late := false, adv := some ((v + (k + 1) * p) % 2 ^ 64) }).raise (CMP_STAT_PENDING n)
      cmpStrobe n (v + k * p) s3
    else cmpStrobe n v (s1.clear (CMP_CTRL_ARM n))

/-- The end of an advance (R49). -/
def cmpAdvanceDone (n : Nat) (s : State) : State :=
  match (s.cmp n).adv with
  | none => s
  | some v => (setCmpValue n v (s.setCmp n { s.cmp n with adv := none })).clear (CMP_STAT_PENDING n)

/-- The end of an aligned arming (R51). -/
def cmpAlignDone (n : Nat) (s : State) : State :=
  match (s.cmp n).align with
  | none => s
  | some v => (setCmpValue n v (s.setCmp n { s.cmp n with align := none })).clear (CMP_STAT_PENDING n)

/-- CMP of R51: the smallest value above TB + 256 on the PHASE grid. -/
def alignTarget (s : State) (n tb : Nat) : Nat :=
  let x : Int := (tb : Int) + 257
  ux 64 (x + ((cmpPhase s n : Int) - x) % (cmpPeriod s n : Int))

/-- Start an aligned arming from a TB. -/
def startAlign (n tb : Nat) (s : State) : State :=
  (s.setCmp n { s.cmp n with adv := none, align := some (alignTarget s n tb), late := false }).raise (CMP_STAT_PENDING n)

/-- ARM went from 0 to 1 (R50, R51). -/
def cmpArmed (n : Nat) (s : State) : State :=
  if s.on (CMP_CTRL_ALIGN n) && cmpPeriod s n != 0 then startAlign n s.tb s
  else s.setCmp n { s.cmp n with late := (s.cmp n).adv.isNone && decide (cmpValue s n ≤ s.tb) }

/-- A write of CMP_HI commits the pair (R50): a pending arming or advance is cancelled. The low word is the last one written, however long ago,
and 0 where none has been written since the reset (DESIGN CHOICE, log entry 16; so too for PERIOD and PHASE). -/
def cmpCommit (n hi : Nat) (s : State) : State :=
  let v := (s.cmp n).lo.toNat + hi * 2 ^ 32
  let s1 := s.setCmp n { s.cmp n with adv := none, align := none, late := decide (v ≤ s.tb) }
  (setCmpValue n v s1).clear (CMP_STAT_PENDING n)

/-- A write of PER_HI, of PHASE_HI. -/
def perCommit (n hi : Nat) (s : State) : State := (s.set (CMP_PER_LO_PER n) (s.cmp n).perLo.toNat).set (CMP_PER_HI_PER n) hi
def phaseCommit (n hi : Nat) (s : State) : State := (s.set (CMP_PHASE_LO_PHASE n) (s.cmp n).phaseLo.toNat).set (CMP_PHASE_HI_PHASE n) hi

/-- After a write of ARM bits: `old` and `new` are the 64 ARM bits; all channels that are newly armed use the same TB. -/
def armsWritten (old new : Nat) (s : State) : State :=
  (List.range 64).foldl (fun s n =>
    if bit new n == bit old n then s
    else if bit new n then cmpArmed n (s.raise (CMP_CTRL_ARM n)) else s.clear (CMP_CTRL_ARM n)) s

/-- READY after a COLD reset: restored channels arm on their grid, or come up disarmed (R51). -/
def cmpsReady (s : State) : State :=
  (List.range 64).foldl (fun s n =>
    if !s.on (CMP_CTRL_ARM n) then s
    else if s.on (CMP_CTRL_ALIGN n) && cmpPeriod s n != 0 then startAlign n s.tb s else s.clear (CMP_CTRL_ARM n)) s

/-- A keyed load moves TB from `t` to `load` (R52). -/
def cmpLoad (n t load : Nat) (s : State) : State :=
  match s.get (CMP_CTRL_LOADMODE n) with
  | 1 =>
    let mv (v : Nat) : Nat := ux 64 ((v : Int) + load - t)
    setCmpValue n (mv (cmpValue s n)) (s.setCmp n { s.cmp n with adv := (s.cmp n).adv.map mv, align := (s.cmp n).align.map mv })
  | 2 => if cmpPeriod s n = 0 then s else startAlign n load s
  | _ => s

/-- A load of TB at its update, after the update's normal step (R46, R52), with its black-box code. The jump is no advance of TB: the crystal
measurement does not count it (R44). -/
def loadTb (load code : Nat) (s : State) : State :=
  let t := s.tb
  let s0 := bbRecord code load s
  let s1 := { s0 with tbf := load * 2 ^ 32, clk := { s0.clk with winStart := ux 64 ((s.clk.winStart : Int) + load - t) }, timeBase := { s.timeBase with loadPending := false, ringStep := none } }
  let s2 := pushAnchor (20 * (load * 2 ^ 32 : Nat)) (2 ^ 32 + s.trim) s1
  let s3 := (List.range 64).foldl (fun s n => cmpLoad n t load s) s2
  pulse 614 (tbUnlock (s3.raise TB_STAT_STEPPED))

/-- The keyed load of R46. -/
def tbLoadNow (s : State) : State := loadTb (s.get TB_LOAD_LO_TB + s.get TB_LOAD_HI_TB * 2 ^ 32) 0x0012 s

/-- TLOCK clears (R323). -/
def ringUnlock (s : State) : State :=
  let s1 := { s with ring := { s.ring with within := 0, beyond := 0 } }
  if s.on RING_STAT_TLOCK then pulse 618 (s1.clear RING_STAT_TLOCK) else s1

/-- The load of R322. -/
def ringLoadNow (d : Int) (s : State) : State := ringUnlock (pulse 619 (loadTb (ux 64 ((s.tb : Int) - d)) 0x0013 s))

/-- A load waits for the next TB update. -/
def loadDue (s : State) : Bool := s.timeBase.loadPending || s.timeBase.ringStep.isSome

/-- The TB step of the next update (R34). -/
def tbStep (s : State) : Nat := ((tbAdvance s).tb + 2 ^ 64 - s.tb) % 2 ^ 64

/-- One TB update (R34): the linked counters have their cycle with its normal step (R53, R55), and a pending load follows (R46, R322). -/
def tbUpdate (s : State) : State :=
  let a := tbAdvance s
  let s1 := actionIdle (linksTime (linesTick (a.clk.age - s.clk.age) (lcsCycle (tbStep s) (if s.clksrc = 2 then aonEdge a else a))))
  if s.clksrc = 3 then s
  else if s1.timeBase.loadPending then tbLoadNow s1
  else match s1.timeBase.ringStep with
    | some d => ringLoadNow d s1
    | none => s1

/-- One update of TB, with any load that waits for it. -/
def updateNow (s : State) : State := if loadDue s then acrossLoad tbUpdate s else tbUpdate s

/-! ### The TB update as the linked counters see it (R53 to R55) -/

/-- `r` rising and `f` falling edges at the pin that counter `n` follows with SRC = 3, since the last update (R53). -/
def lcPinEdges (n : Nat) (k : PinEdges) (s : State) : State :=
  let b := lcBase s n
  let e := s.get (LC_CFG_EDGE b)
  if s.get (LC_CFG_SRC b) = 3 then
    s.setLc b { s.lc b with edges := (s.lc b).edges + (if edgeTakes true e then k.rises else 0) + (if edgeTakes false e then k.falls else 0) }
  else s

/-- The update in which counter `n` counts what its source gave: TB ticks, assertions and monitor edges have reached it as they happened, pin
edges come with the command. -/
def lcCountEvent (n : Nat) (k : PinEdges) (s : State) : State := updateNow (lcPinEdges n k s)

/-- Such an update, where it sets the flag: else nothing happens. -/
def lcUpdateWith (flag : Nat → Fld) (n : Nat) (k : PinEdges) (s : State) : State :=
  let g := flag (lcBase s n)
  if (lcCountEvent n k (s.clear g)).on g then lcCountEvent n k s else s

/-- The update in which what was sent to counter `n` reaches it. -/
def lcLink (n : Nat) (s : State) : State := if (s.lc (lcBase s n)).inbox.isEmpty || s.busStopped then s else updateNow s

/-! ### Commands -/

/-- `LC_COUNT_EVENT`: the TB update in which counter `n` takes what its source gave, the edges `k` of its pin among it. -/
def execLcCountEvent (n : Nat) (k : PinEdges) (s : State) : Out := done s (lcCountEvent n k s)

/-- `LC_MATCH`: such an update that moves COUNT past MATCH. -/
def execLcMatch (n : Nat) (k : PinEdges) (s : State) : Out := done s (lcUpdateWith LC_STAT_MATCHED n k s)

/-- `LC_OVERFLOW`: such an update that wraps COUNT. -/
def execLcOverflow (n : Nat) (k : PinEdges) (s : State) : Out := done s (lcUpdateWith LC_STAT_OVERFLOWED n k s)

/-- `LC_LINK_ACTION`. -/
def execLcLinkAction (n : Nat) (s : State) : Out := done s (lcLink n s)


/-- `CMP_MATCH`. -/
def execCmpMatch (n : Nat) (s : State) : Out := done s (cmpMatch n s)

/-- `CMP_ADVANCE_DONE`. -/
def execCmpAdvanceDone (n : Nat) (s : State) : Out := done s (cmpAdvanceDone n s)

/-- `CMP_ALIGN_DONE`. -/
def execCmpAlignDone (n : Nat) (s : State) : Out := done s (cmpAlignDone n s)

end Sys2Proof.Machine
end

