-- ==== Sys2Proof/Machine/RingFrame.lean ====
section
/-!
DEFINITION. Sys2Proof/Machine/RingFrame.lean: a ring frame as the bytes between SOF and EOF (spec/18_niong_ring.md, R311, R313, R320, R321,
R327). The commands carry frames decoded; `frameBytes` is what a port sends, `frameOf` what a port makes of what it receives.
-/
namespace Sys2Proof.Machine

/-- The low `k` bytes of a number, most significant first. -/
def beBytes : Nat → Nat → List Nat
  | 0, _ => []
  | k + 1, n => n / 256 ^ k % 256 :: beBytes k n

/-- ARG of a frame (R313, R327). A BEACON's is 0 (DESIGN CHOICE, log entry 32: R320 gives it none). -/
def bodyArg : FrameBody → Nat
  | .data d => b2n d.first * 2 ^ 31 + b2n d.last * 2 ^ 30 + b2n d.poison * 2 ^ 29 + b2n d.ack * 2 ^ 28 + d.lane * 2 ^ 26
      + b2n d.pktTrunc * 2 ^ 25 + b2n d.pktPoison * 2 ^ 24 + d.queue
  | .enum e => e.kind
  | .regReq w tag n _ _ => b2n w * 2 ^ 31 + (n - 1) * 2 ^ 24 + tag
  | .regResp tag _ _ => tag
  | .ack q => q
  | _ => 0

/-- The payload of a frame: words from memory least significant byte first, every other field most significant byte first, and response code k in
bits [2k + 1:2k] of its word (DESIGN CHOICE, log entry 32, where R311 and R313 do not say). -/
def bodyBytes : FrameBody → List Nat
  | .data d => (d.words.flatMap wordBytes).take d.bytes
  | .beacon b => beBytes 10 b.origin ++ beBytes 6 (ux 48 b.corr) ++ [b.hops, b.head, b.prio, 0] ++ beBytes 8 b.uid ++ beBytes 8 b.map ++ beBytes 4 b.gen
  | .pdelayReq => []
  | .pdelayResp t2 t3 => beBytes 10 t2 ++ beBytes 10 t3
  | .enum e => beBytes 8 e.uid ++ [match e.want with
      | some w => 128 + w
      | none => 0, e.number, e.hopsE, e.hopsW]
  | .regReq _ _ _ a ws => beBytes 4 a ++ ws.flatMap wordBytes
  | .regResp _ cs ws => beBytes 4 (cs.foldr (fun c n => c + 4 * n) 0) ++ ws.flatMap wordBytes
  | .ack _ => []

/-- The 12-byte header (R311). -/
def frameHeader (f : Frame) : List Nat :=
  [f.body.type * 16 + f.wraps * 4, f.dst, f.src, f.ttl] ++ beBytes 2 f.seq ++ beBytes 2 (bodyBytes f.body).length ++ beBytes 4 (bodyArg f.body)

/-- What stands between SOF and EOF: header, payload and their CRC, least significant byte first. -/
def frameBytes (f : Frame) : List Nat :=
  let b := frameHeader f ++ bodyBytes f.body
  b ++ wordBytes (crc32 b)

/-- The words that bytes fill, least significant byte first, the last one filled up with zeros. -/
def wordsOf : List Nat → List Nat
  | [] => []
  | [a] => [leNat [a]]
  | [a, b] => [leNat [a, b]]
  | [a, b, c] => [leNat [a, b, c]]
  | a :: b :: c :: d :: r => leNat [a, b, c, d] :: wordsOf r

/-- What a payload of a TYPE carries; the types that R313 drops carry nothing. -/
def bodyOf (type arg : Nat) (ps : List Nat) : Option FrameBody :=
  let part (i k : Nat) : Nat := beNat ((ps.drop i).take k)
  match type with
  | 0 => some (.data { first := bit arg 31, last := bit arg 30, poison := bit arg 29, ack := bit arg 28, lane := bits arg 26 2, pktTrunc := bit arg 25,
                       pktPoison := bit arg 24, queue := bits arg 0 9, bytes := ps.length, words := wordsOf ps })
  | 1 => some (.beacon { origin := part 0 10, corr := sx 48 (part 10 6), hops := part 16 1, head := part 17 1, prio := part 18 1 % 16,
                         uid := part 20 8, map := part 28 8, gen := part 36 4 })
  | 2 => some .pdelayReq
  | 3 => some (.pdelayResp (part 0 10) (part 10 10))
  | 4 => some (.enum { kind := bits arg 0 4, uid := part 0 8, want := if bit (part 8 1) 7 then some (part 8 1 % 128) else none,
                       number := part 9 1, hopsE := part 10 1, hopsW := part 11 1 })
  | 5 => some (.regReq (bit arg 31) (bits arg 0 8) (bits arg 24 4 + 1) (part 0 4) (wordsOf (ps.drop 4)))
  | 6 => some (.regResp (bits arg 0 8) ((List.range 16).map (fun k => bits (part 0 4) (2 * k) 2)) (wordsOf (ps.drop 4)))
  | 7 => some (.ack (bits arg 0 9))
  | _ => none

/-- Bytes that are dropped as no frame: too few for a header and a CRC, a CRC that fails, or a LEN that disagrees with the length (R311). -/
def frameBroken (bs : List Nat) : Bool :=
  let n := bs.length - 4
  decide (bs.length < 16) || leNat (bs.drop n) != crc32 (bs.take n) || beNat ((bs.drop 6).take 2) + 16 != bs.length

/-- The frame that bytes spell; none where it is broken or of a TYPE that R313 drops. -/
def frameOf (bs : List Nat) : Option Frame :=
  if frameBroken bs then none
  else
    let at' (i k : Nat) : Nat := beNat ((bs.drop i).take k)
    (bodyOf (at' 0 1 / 16) (at' 8 4) ((bs.drop 12).take (bs.length - 16))).map (fun b =>
      { wraps := bits (at' 0 1) 2 2, dst := at' 1 1, src := at' 2 1, ttl := at' 3 1, seq := at' 4 2, body := b })

end Sys2Proof.Machine
end

