-- ==== Sys2Proof/Machine/Ring.lean ====
section
/-!
DEFINITION. Sys2Proof/Machine/Ring.lean: the Niong ring: links, frames, enumeration, heads, time and queue traffic
(spec/18_niong_ring.md, R307 to R334). Port 0 is E, port 1 is W.
-/
namespace Sys2Proof.Machine

def State.ringTx (s : State) (q : Nat) : RingTx := SMap.get (fun _ => {}) s.ring.txs q
def State.setRingTx (s : State) (q : Nat) (x : RingTx) : State :=
  { s with ring := { s.ring with txs := SMap.put (fun _ => {}) s.ring.txs q x } }
def State.ringRx (s : State) (q : Nat) : RingRx := SMap.get (fun _ => {}) s.ring.rxs q
def State.setRingRx (s : State) (q : Nat) (x : RingRx) : State :=
  { s with ring := { s.ring with rxs := SMap.put (fun _ => {}) s.ring.rxs q x } }
def State.member (s : State) (n : Nat) : Member := SMap.get (fun _ => {}) s.ring.members n
def State.setMember (s : State) (n : Nat) (x : Member) : State :=
  { s with ring := { s.ring with members := SMap.put (fun _ => {}) s.ring.members n x } }

/-! ### Identity and links -/

/-- The ring pages are present and RING is READY. -/
def ringHere (s : State) : Bool := hasRing s.variant && s.ready 0x53
def portState (s : State) (p : Nat) : Nat := s.get (RINGP_PORT_STAT_STATE p)
def portUp (s : State) (p : Nat) : Bool := portState s p == 5 && s.ready (0x51 + p)
/-- The number of this hub, once it holds one. -/
def ownNumber (s : State) : Option Nat := if s.on RING_STAT_NUM_VALID then some (s.get SYS_HUB_NUMBER) else none
def ownUid : Nat := Config.uid.toNat
def ringRole (s : State) : Nat := s.get RING_STAT_ROLE
def setRole' (r : Nat) (s : State) : State := s.set RING_STAT_ROLE r

/-- Drop the frames of the ring command before. -/
def ringCmd (f : State → State) (s : State) : State := f { s with ring := { s.ring with out := [] } }

/-- A frame is handed to a port to send: a forwarded one, or one of this hub. -/
def handFrame (p : Nat) (transit : Bool) (f : Frame) (s : State) : State :=
  linkTakes p transit f { s with ring := { s.ring with out := s.ring.out ++ [(p, f)] } }

/-- A port sends a frame of this hub. -/
def sendFrame (p : Nat) (f : Frame) (s : State) : State := handFrame p false f s

/-- A frame of this hub leaves by port `p`, or by the other one when `p` is wrapped (R324); with both wrapped it is lost. -/
def sendLocal (p : Nat) (f : Frame) (s : State) : State :=
  if portUp s p then sendFrame p f s else if portUp s (1 - p) then sendFrame (1 - p) { f with wraps := 1 } s else s

/-- The next SEQ of a type. -/
def takeSeq (t : Nat) (s : State) : Nat × State :=
  let n := SMap.get (fun _ => 0) s.ring.seqs t
  (n, { s with ring := { s.ring with seqs := SMap.put (fun _ => 0) s.ring.seqs t ((n + 1) % 65536) } })

/-- A frame of this hub with the next SEQ of its type. -/
def newFrame (dst : Nat) (b : FrameBody) (s : State) : Frame × State :=
  let (n, s1) := takeSeq b.type s
  ({ dst := dst, src := (ownNumber s).getD 0xFF, seq := n, body := b }, s1)

/-- A change of a port's wrap: black box, source 555 (R324). -/
def wrapChange (p : Nat) (w : Bool) (s : State) : State :=
  let s1 := s.set (RINGP_PORT_STAT_WRAPPED p) (b2n w)
  sample 555 (bbRecord 0x0050 (p + b2n w * 2 + portState s1 p * 2 ^ 8) s1)

/-- The link of a port goes down from any state above DOWN (R309, R325); the frames that wait for it are lost in the wrap. -/
def linkDown (p st : Nat) (s : State) : State :=
  let old := portState s p
  let s1 := (s.set (RINGP_PORT_STAT_STATE p) st).setRingPort p { s.ringPort p with t1 := none, unanswered := 0, hasD := false, beats := [], wait := [], now := none, busy := 0 }
  if old < 4 then s1
  else
    let s2 := (s1.inc (RINGP_DOWNS_COUNT p)).fault (0x51 + p) 0
    if old = 5 then pulse 552 (wrapChange p true s2) else s2

/-- A port starts: at READY, and after EN or the lane settings were written (R310, R332). -/
def portBegin (p : Nat) (s : State) : State := sample 555 (linkDown p (if s.on (RINGP_PORT_CFG_EN p) then 1 else 0) s)

/-- `SIGNAL_DETECT`. -/
def signalDetect (p : Nat) (s : State) : State :=
  if s.ready (0x51 + p) && portState s p == 1 && s.clksrc == 0 then s.set (RINGP_PORT_STAT_STATE p) 2 else s

/-- `ALIGN_DONE`. -/
def alignDone (p : Nat) (s : State) : State := if portState s p = 2 then s.set (RINGP_PORT_STAT_STATE p) 3 else s

/-- `TRAIN_DONE`: a TS2 with the hub's own UID keeps the port in TRAIN. -/
def trainDone (p uid peer : Nat) (s : State) : State :=
  if portState s p ≠ 3 then s
  else
    let s1 := ((s.set (RINGP_PEER_UID_LO_UID p) uid).set (RINGP_PEER_UID_HI_UID p) (uid / 2 ^ 32)).set (RINGP_PORT_STAT_PEER_PORT p) peer
    if uid = ownUid then s1.fault (0x51 + p) 3
    else (s1.set (RINGP_PORT_STAT_STATE p) 4).setRingPort p { s1.ringPort p with heldAt := s1.clk.age }

/-- `HEAL`: HOLD has lasted HEAL_CFG.MS ms without error. -/
def heal (p : Nat) (s : State) : State :=
  if portState s p = 4 ∧ passedAge s (some (s.ringPort p).heldAt) (max 1 (s.get RING_HEAL_CFG_MS) * msAge) then pulse 552 (wrapChange p false (s.set (RINGP_PORT_STAT_STATE p) 5)) else s

/-! ### What a hub does with a frame (R312) -/

/-- A frame is dropped and counted by its port. -/
def ringDrop (p : Nat) (f : Nat → Fld) (s : State) : State := pulse 557 (s.inc (f p))

/-- Forward a frame that entered by port `p`. -/
def forward (p : Nat) (f : Frame) (s : State) : State :=
  let g := { f with ttl := f.ttl - 1 }
  if portUp s (1 - p) then handFrame (1 - p) true g s
  else if f.body.type = 1 then s else handFrame p true { g with wraps := (f.wraps + 1) % 4 } s

/-- Where the last SEQ from a source is kept: by type, since SEQ counts so (R311), and of beacons by port, since both directions carry them and the
beacons of either port are accepted (R322). -/
def seenKey (p : Nat) (f : Frame) : Nat := (if f.body.type = 1 then p else 0) * 65536 + f.src * 16 + f.body.type

/-- SEQ is new from that SRC. -/
def newSeq (s : State) (p : Nat) (f : Frame) : Bool :=
  match SMap.get (fun _ => none) s.ring.seen (seenKey p f) with
  | none => true
  | some n => decide (0 < (f.seq + 65536 - n) % 65536) && decide ((f.seq + 65536 - n) % 65536 < 32768)
def noteSeq (p : Nat) (f : Frame) (s : State) : State :=
  { s with ring := { s.ring with seen := SMap.put (fun _ => none) s.ring.seen (seenKey p f) (some f.seq) } }

/-- R312, with what taking the frame does and the frame as it is forwarded. -/
def receive (p : Nat) (f out : Frame) (take : State → State) (s : State) : State :=
  let own := ownNumber s
  if !ringHere s || !portUp s p then s
  else if f.dst = 0xFE then take s
  else if own = some f.src ∧ (f.wraps = 0 ∨ f.wraps = 2) then s
  else if own = some f.dst then take s
  else if f.ttl = 1 then ringDrop p RINGP_DROP_CNT_TTL s
  else if f.dst = 0xFF then forward p out (if newSeq s p f then take (noteSeq p f s) else s)
  else if 64 ≤ f.dst then ringDrop p RINGP_DROP_CNT_TYPE s
  else forward p out s

/-! ### The map (R315, R317) -/

/-- Number `n` is held. -/
def heldNumber (s : State) (n : Nat) : Bool := bit (s.get RING_MAP_LO_HELD + s.get RING_MAP_HI_HELD * 2 ^ 32) n
def setHeld (n : Nat) (v : Bool) (s : State) : State :=
  if heldNumber s n == v then s
  else (s.set ⟨RING_MAP_LO_HELD.addr + 4 * (n / 32), n % 32, 1⟩ (b2n v)).incWrap RING_MAP_GEN_GEN
def lowestFree (s : State) : Option Nat := (List.range 64).find? (fun n => !heldNumber s n)
/-- The number that a UID holds. -/
def numberOf (s : State) (uid : Nat) : Option Nat :=
  (s.ring.members.find? (fun x => x.2.uid == uid && heldNumber s x.1)).map (fun x => x.1)

/-- This hub takes or loses its number; source 558. -/
def setNumber (n : Nat) (s : State) : State :=
  pulse 558 (((s.set SYS_HUB_NUMBER n).raise SYS_HUB_NUM_VALID).raise RING_STAT_NUM_VALID)
def clearNumber (s : State) : State :=
  let s1 := ((s.set SYS_HUB_NUMBER 0).clear SYS_HUB_NUM_VALID).clear RING_STAT_NUM_VALID
  if s.on RING_STAT_NUM_VALID then pulse 558 s1 else s1

/-- The active head numbers itself. -/
def selfGrant (s : State) : State :=
  match ownNumber s with
  | some n => (setHeld n true s).set RING_STAT_ACTIVE_HEAD n
  | none =>
    let h := s.get RING_HEAD_CFG_HEAD_NUM
    match (if heldNumber s h then lowestFree s else some h) with
    | some n => (setHeld n true (setNumber n s)).set RING_STAT_ACTIVE_HEAD n
    | none => s

/-- The answer to a JOIN out of port `p`: GRANT of a number, or REFUSE. -/
def answerJoin (p uid : Nat) (n : Option Nat) (s : State) : State :=
  let e (k m : Nat) : FrameBody := .enum { kind := k, uid := uid, want := none, number := m, hopsE := 0, hopsW := 0 }
  match n with
  | some n =>
    let (f, s1) := newFrame 0xFF (e 1 n) (setHeld n true (s.setMember n { uid := uid, last := s.clk.age }))
    pulse 554 (sendLocal p f s1)
  | none =>
    let (f, s1) := newFrame 0xFF (e 3 0) s
    pulse 554 (sendLocal p f s1)

/-- A JOIN at the active head (R315). -/
def takeJoin (p : Nat) (e : Enum) (s : State) : State :=
  if ringRole s ≠ 1 ∨ e.kind ≠ 0 then s
  else match numberOf s e.uid with
    | some n => answerJoin p e.uid (some n) s
    | none =>
      if s.on RING_HEAD_CFG_AUTO then
        answerJoin p e.uid (match e.want with
          | some w => if heldNumber s w then lowestFree s else some w
          | none => lowestFree s) s
      else if s.on RING_JOIN_Q_VALID then s
      else
        let s1 := ((s.raise RING_JOIN_Q_VALID).set RING_JOIN_Q_WANT_VALID (b2n e.want.isSome)).set RING_JOIN_Q_WANT (e.want.getD 0)
        let s2 := (s1.set RING_JOIN_UID_LO_UID e.uid).set RING_JOIN_UID_HI_UID (e.uid / 2 ^ 32)
        sample 553 { s2 with ring := { s2.ring with joinPort := p } }

/-- A write of RING.GRANT. -/
def ringGrant (v : Nat) (s : State) : State :=
  if !bit v 31 || !s.on RING_JOIN_Q_VALID then s
  else
    let n := bits v 0 6
    let uid := s.get RING_JOIN_UID_LO_UID + s.get RING_JOIN_UID_HI_UID * 2 ^ 32
    let s1 := sample 553 (s.clear RING_JOIN_Q_VALID)
    answerJoin s.ring.joinPort uid (if bit v 30 || heldNumber s n then none else some n) s1

/-- A received GRANT. -/
def takeGrant (e : Enum) (s : State) : State :=
  if e.uid ≠ ownUid ∨ e.kind ≠ 1 then s
  else
    let s1 := setNumber e.number { s with ring := { s.ring with refused := false } }
    if s.on RING_ID_WANT_VALID && s.get RING_ID_WANT == e.number then s1
    else commitRequest 0x53 ((s1.set RING_ID_WANT e.number).raise RING_ID_WANT_VALID)

/-- The map holds a number for another UID: the head's own, or one that it has granted or heard. A number of a map that it copied as standby is
held for the first UID that names it. -/
def heldByOther (s : State) (n uid : Nat) : Bool :=
  let m := s.member n
  heldNumber s n && (if ownNumber s = some n then uid != ownUid else m != {} && m.uid != uid)

/-- A received HELLO at the active head (R317). -/
def takeHello (p : Nat) (f : Frame) (e : Enum) (s : State) : State :=
  if ringRole s ≠ 1 ∨ e.kind ≠ 2 then s
  else
    let m := s.member e.number
    if heldByOther s e.number e.uid then
      let (g, s1) := newFrame f.src (.enum { kind := 3, uid := e.uid, want := none, number := e.number, hopsE := 0, hopsW := 0 }) s
      pulse 554 (sendLocal p g s1)
    else
      let s1 := setHeld e.number true (s.setMember e.number { uid := e.uid, last := s.clk.age })
      if m.absent.isSome || !heldNumber s e.number then pulse 554 s1 else s1

/-- A received REFUSE. -/
def takeRefuse (e : Enum) (s : State) : State :=
  if e.uid ≠ ownUid ∨ e.kind ≠ 3 then s
  else if s.on RING_STAT_NUM_VALID then clearNumber s
  else { (s.raise RING_STAT_REFUSED).fault 0x53 0 with ring := { s.ring with refused := true } }

/-- `MEMBER_ABSENT`: no HELLO since the last one, or since this hub became the active head. -/
def memberAbsent (n : Nat) (s : State) : State :=
  let m := s.member n
  if ringRole s = 1 ∧ heldNumber s n ∧ ownNumber s ≠ some n ∧ m.absent = none ∧ max m.last s.ring.activeAt + 300 * msAge ≤ s.clk.age
  then pulse 554 (s.setMember n { m with absent := some s.clk.age }) else s

/-- `NUMBER_HOLD_EXPIRE`. -/
def numberHoldExpire (n : Nat) (s : State) : State :=
  match (s.member n).absent with
  | some t =>
    if ringRole s = 1 ∧ t + s.get RING_HEAD_CFG_HOLD * 1000 * msAge ≤ s.clk.age then setHeld n false (s.setMember n {}) else s
  | none => s

/-! ### Heads and time (R318 to R323) -/

/-- The TSRC port for a period: lower HOPS in the period before, W on a tie; with one only, that one. -/
def timePort (s : State) (k p : Nat) : Nat :=
  let hops (q : Nat) : Option Nat := ((s.ringPort q).beats.find? (fun b => b.1 + 1 == k)).map (fun b => b.2)
  match hops 0, hops 1 with
  | some e, some w => if e < w then 0 else 1
  | some _, none => 0
  | none, some _ => 1
  | none, none => p

/-- The lock counters of R323 with an accepted o. -/
def ringLock (o : Int) (s : State) : State :=
  if s.get TB_DISC_CTRL_SRC ≠ 2 then s
  else if o.natAbs ≤ s.get RING_LOCK_THR_THR then
    let w := s.ring.within + 1
    let s1 := { s with ring := { s.ring with within := w, beyond := 0 } }
    if max 1 (s.get RING_TSERVO_GAIN_LOCK_CNT) ≤ w ∧ !s.on RING_STAT_TLOCK then pulse 617 (s1.raise RING_STAT_TLOCK) else s1
  else
    let b := s.ring.beyond + 1
    let s1 := { s with ring := { s.ring with within := 0, beyond := b } }
    if 4 ≤ b then ringUnlock s1 else s1

/-- The servo of R322. -/
def ringServo (e : Int) (s : State) : State :=
  let s1 := if s.ring.servo then s
    else { s.setS RING_TSERVO_INT_INT (-256 * s.trim) with ring := { s.ring with servo := true } }
  let i := satS 32 (s1.getS RING_TSERVO_INT_INT + s1.get RING_TSERVO_GAIN_KI * e)
  let u := -((s1.get RING_TSERVO_GAIN_KP * e + i) / 256)
  if u > 858993 ∨ u < -858993 then pulse 615 (setTrim (clampTrim u) s1)
  else setTrim u (s1.setS RING_TSERVO_INT_INT i)

/-- Time is taken from a beacon of port `p` (R322). -/
def useTime (p k : Nat) (o : Int) (hops : Nat) (s : State) : State :=
  let s1 := ((s.set RING_STAT_TSRC_PORT (1 - p)).set RING_STAT_HOPS hops).setS RING_OFFSET_O o
  let thr := s.get RING_STEP_THR_TICKS
  let n := if thr ≠ 0 ∧ thr * 65536 < o.natAbs then s.ring.big + 1 else 0
  let s2 := ringLock o { s1 with ring := { s1.ring with used := some k, other := none, big := n } }
  if s2.get TB_DISC_CTRL_SRC ≠ 2 ∨ ringRole s2 = 1 then s2
  else if 2 ≤ n then
    { s2 with timeBase := { s2.timeBase with ringStep := some (rshRound o 16) }, ring := { s2.ring with big := 0 } }
  else ringServo o s2

/-- The beacon of the other port that was kept is used where no beacon of the time port came. -/
def useOther (s : State) : State :=
  match s.ring.other with
  | some (p, k, o, h) => if s.ring.used = some k then { s with ring := { s.ring with other := none } } else useTime p k o h s
  | none => s

/-- `(prio, uid)` is a better head than `(prio', uid')` (R318). -/
def betterHead (a b : Nat × Nat) : Bool := decide (b.1 < a.1) || (a.1 == b.1 && decide (a.2 < b.2))

/-- A beacon is accepted on port `p` with its SOF time `tin`. -/
def takeBeacon (p : Nat) (b : Beacon) (tin : Nat) (s : State) : State :=
  let me := (s.get RING_HEAD_CFG_PRIO, ownUid)
  let it := (b.prio, b.uid)
  let worse := if ringRole s = 1 then !betterHead it me
    else match s.ring.head with
      | some h => betterHead h it
      | none => false
  if worse then s
  else
    let changed := decide (ringRole s = 1) || s.ring.head != some it
    let s1 := if s.on SYS_HUB_HEAD then s.set RING_STAT_ROLE 2 else s
    let s2 := { s1 with ring := { s1.ring with head := some it, misses := 0, heardAt := some s1.clk.age } }
    let s3 := if changed then pulse 559 s2 else s2
    let s4 := ((s3.set RING_MAP_LO_HELD b.map).set RING_MAP_HI_HELD (b.map / 2 ^ 32)).set RING_MAP_GEN_GEN b.gen
    let s5 := ((s4.set RING_STAT_ACTIVE_HEAD b.head).raise RING_STAT_BEACON_OK).incWrap RING_BEACONS_RX
    let k := b.origin / 2 ^ 16 / 131072
    let o := satS 32 ((tin : Int) - ((b.origin : Int) + b.corr + s.getS (RINGP_PDELAY_D p)))
    let x := s5.ringPort p
    let s6 := s5.setRingPort p { x with beats := (k, b.hops) :: x.beats.take 1 }
    let s7 := match s6.ring.other with
      | some (_, j, _, _) => if j < k then useOther s6 else s6
      | none => s6
    if timePort s7 k p = p then useTime p k o b.hops s7
    else if s7.ring.used = some k then s7
    else { s7 with ring := { s7.ring with other := some (p, k, o, b.hops) } }

/-- A beacon as it is forwarded: CORR takes the link delay and the residence time (R320). -/
def beaconOut (p : Nat) (f : Frame) (b : Beacon) (res : Nat) (s : State) : Frame :=
  { f with body := .beacon { b with corr := sx 48 (ux 48 (b.corr + s.getS (RINGP_PDELAY_D p) + res)), hops := b.hops + 1 } }

/-- `BEACON_MISS`: no beacon was accepted for 1 ms. -/
def beaconMiss (s : State) : State :=
  if !ringHere s || ringRole s == 1 || !passedAge s s.ring.heardAt msAge then s
  else
    let s1 := (useOther s).inc RING_BEACONS_MISSED
    let n := s1.ring.misses + 1
    let s2 := { s1 with ring := { s1.ring with misses := n, heardAt := some s1.clk.age, missMs := if n = 3 then some (tbMs s1) else s1.ring.missMs } }
    if n = 3 then
      let s3 := { s2 with ring := { s2.ring with head := none } }
      if s3.on RING_STAT_BEACON_OK then pulse 620 (ringUnlock (s3.clear RING_STAT_BEACON_OK)) else s3
    else s2

/-- `HEAD_TAKEOVER`: at the first whole millisecond of TB after the third miss. -/
def headTakeover (s : State) : State :=
  if !ringHere s || !s.on SYS_HUB_HEAD || ringRole s == 1 || decide (s.ring.misses < 3) || s.ring.missMs == some (tbMs s) then s
  else pulse 559 (selfGrant (setRole' 1 { s with ring := { s.ring with activeAt := s.clk.age } }))

/-- The SOF times that a beacon's ports report lie in the millisecond of TB that has begun (R320). -/
def beaconTimes (tE tW : Nat) (s : State) : Bool :=
  (!portUp s 0 || tE / 2 ^ 33 == tbMs s) && (!portUp s 1 || tW / 2 ^ 33 == tbMs s)

/-- `BEACON_SEND`: the SOF times out of E and out of W, in 2^−16 tick; once in each millisecond of TB. -/
def beaconSend (tE tW : Nat) (s0 : State) : State :=
  let s : State := { s0 with ring := { s0.ring with beaconMs := some (tbMs s0) } }
  if !ringHere s || ringRole s != 1 || s0.ring.beaconMs == some (tbMs s0) || !beaconTimes tE tW s then s0
  else (List.range 2).foldl (fun s p =>
    if !portUp s p then s
    else
      let b : Beacon :=
        { origin := if p = 0 then tE else tW, corr := 0, hops := 0, head := (ownNumber s).getD 0, prio := s.get RING_HEAD_CFG_PRIO,
          uid := ownUid, map := s.get RING_MAP_LO_HELD + s.get RING_MAP_HI_HELD * 2 ^ 32, gen := s.get RING_MAP_GEN_GEN }
      let (f, s1) := newFrame 0xFF (.beacon b) s
      sendFrame p f s1) s

/-- Source 621: a peer-delay fault. -/
def pdelayFault (p : Nat) (s : State) : State := pulse 621 (s.fault (0x51 + p) 2)

/-- `PDELAY_REQ_SEND` with the SOF time t1, once per millisecond. -/
def pdelayReqSend (p t1 : Nat) (s : State) : State :=
  if !ringHere s || !portUp s p || !passedAge s (s.ringPort p).reqAt msAge then s
  else
    let x := s.ringPort p
    let n := if x.t1.isSome then x.unanswered + 1 else x.unanswered
    let s1 := if n = 3 then pdelayFault p s else s
    let (f, s2) := newFrame 0xFE .pdelayReq s1
    sendFrame p f (s2.setRingPort p { x with t1 := some t1, unanswered := if n = 3 then 0 else n, reqAt := some s.clk.age })

/-- A quotient for which the manual states no rounding: exact, or one of its two neighbours by a draw (DESIGN CHOICE, log entry 6). -/
def divDraw (a d : Int) (s : State) : Int × State :=
  if a % d = 0 then (a / d, s)
  else
    let (v, s1) := s.draw
    (a / d + (v % 2 : Nat), s1)

/-- A PDELAY_RESP with t4 (R321). The first d of a link starts D. -/
def takeResp (p t2 t3 t4 : Nat) (s : State) : State :=
  let x := s.ringPort p
  match x.t1 with
  | none => s
  | some t1 =>
    let (d, s1) := divDraw (((t4 : Int) - t1) - ((t3 : Int) - t2) + s.getS (RINGP_ASYM_ASYM p)) 2 s
    let s2 := s1.setRingPort p { x with t1 := none, unanswered := 0 }
    let old := s.getS (RINGP_PDELAY_D p)
    if x.hasD && decide (851968 < (d - old).natAbs * 10) then pdelayFault p s2
    else
      let (n, s3) := if x.hasD then divDraw (d - old) 16 s2 else (d - old, s2)
      ((s3.setRingPort p { s3.ringPort p with hasD := true }).setS (RINGP_PDELAY_D p) (old + n)).setS (RINGP_PDELAY_LAST_D p) d

/-- A PDELAY_REQ is answered. -/
def takeReq (p t2 t3 : Nat) (s : State) : State :=
  let (f, s1) := newFrame 0xFE (.pdelayResp t2 t3) s
  sendFrame p f s1

/-- The port toward the active head. -/
def headPort (s : State) : Nat := if s.on RING_STAT_TSRC_PORT then 0 else 1

/-- `JOIN_SEND`: every 10 ms, or every 1 s after a REFUSE. -/
def joinSend (s0 : State) : State :=
  let s : State := { s0 with ring := { s0.ring with joinAt := some s0.clk.age } }
  if !ringHere s || s.on RING_STAT_NUM_VALID || !s.on RING_STAT_BEACON_OK || ringRole s == 1
    || !passedAge s0 s0.ring.joinAt ((if s0.ring.refused then 1000 else 10) * msAge) then s0
  else
    let w := if s.on RING_ID_WANT_VALID then some (s.get RING_ID_WANT) else none
    let (f, s1) := newFrame (s.get RING_STAT_ACTIVE_HEAD) (.enum { kind := 0, uid := ownUid, want := w, number := 0, hopsE := 0, hopsW := 0 }) s
    sendLocal (headPort s) f s1

/-- `HELLO_SEND`: every 100 ms. -/
def helloSend (s0 : State) : State :=
  let s : State := { s0 with ring := { s0.ring with helloAt := some s0.clk.age } }
  let hops (p : Nat) : Nat := ((s.ringPort p).beats.head?.map (fun b => b.2)).getD 0
  match ownNumber s with
  | some n =>
    if !ringHere s || ringRole s == 1 || !passedAge s0 s0.ring.helloAt (100 * msAge) then s0
    else
      let (f, s1) := newFrame (s.get RING_STAT_ACTIVE_HEAD) (.enum { kind := 2, uid := ownUid, want := none, number := n, hopsE := hops 0, hopsW := hops 1 }) s
      sendLocal (headPort s) f s1
  | none => s0

/-! ### Queue traffic received (R327 to R330) -/

/-- Count an error of R328 or R330: its counter, its PG_FAULT bit, source 556. -/
def dataError (f : Fld) (b k : Nat) (s : State) : State := pulse 556 ((s.addSat f k).fault 0x53 b)

/-- Close the packet that a route has open. -/
def rxClose (q : Nat) (trunc : Bool) (s : State) : State :=
  let r := s.ringRx q
  if !r.opened then s
  else (closeWriter q (.ring (r.port == 1)) r.bytes trunc s).setRingRx q { r with opened := false }

/-- Set the poison tag of the descriptor of an open packet, or its POISON bit. -/
def rxMark (q : Nat) (w : Writer) (tag bit31 : Bool) (s : State) : State :=
  match (s.queue q).openOf w with
  | none => s
  | some p =>
    let s1 := if tag then s.setQueue q ((s.queue q).update p.id (fun y => { y with bad := 0 :: y.bad })) else s
    if bit31 then orWord (p.addr 0) (2 ^ 31) s1 else s1

/-- The frame's packet part is written (R328, R329). -/
def rxStore (p src : Nat) (d : DataFrag) (s : State) : State :=
  let q := d.queue
  let w0 := d.words.headD 0
  let s1 := if d.first then
      (let s' := rxClose q true s
      let (r, s2) := openPacket q d.lane (.ring (p == 1)) (bits w0 16 4) (bits w0 20 10) s'
      let ok := decide (r = .ok)
      rxMark q (.ring (p == 1)) (d.poison && ok) false
        (s2.setRingRx q { s2.ringRx q with opened := ok, port := p, msg := decide (bits w0 16 4 = 8), bytes := 0 }))
    else s
  let r := s1.ringRx q
  if !r.opened then s1
  else
    let body := if d.first then d.words.drop 1 else d.words
    let n := if d.first then d.bytes - 4 else d.bytes
    let ws := if r.msg && decide (r.bytes = 0) && decide (4 ≤ n) then putBits (body.headD 0) 24 6 src :: body.drop 1 else body
    let w : Writer := .ring (r.port == 1)
    let s2 := ws.foldl (fun s v => (writeWord q w v d.poison s).2) s1
    let s3 := s2.setRingRx q { r with bytes := r.bytes + n }
    if d.last then rxClose q d.pktTrunc (rxMark q w false d.pktPoison s3) else s3

/-- `ACK_SEND`: within 50 µs of an unacknowledged frame, and after every sixteenth (R330). -/
def ackSend (q : Nat) (s : State) : State :=
  let r := s.ringRx q
  match r.next with
  | some n =>
    if !ringHere s || r.unacked == 0 then s
    else
      let f : Frame := { dst := r.src, src := (ownNumber s).getD 0xFF, seq := (n + 65535) % 65536, body := .ack q }
      sendLocal r.from' f (s.setRingRx q { r with unacked := 0 })
  | none => s

/-- The acknowledgement that sixteen frames have made due. -/
def ackDue (q : Nat) (s : State) : State := if 16 ≤ (s.ringRx q).unacked then ackSend q s else s

/-- A DATA frame for this hub. -/
def takeData (p src seq : Nat) (d : DataFrag) (s : State) : State :=
  let q := d.queue
  let r := s.ringRx q
  if r.opened && r.src != src then (if d.first then dataError RING_RX_STAT_CONFLICT 3 1 s else s)
  else
    let r1 : RingRx := if r.src = src then r else { src := src }
    let diff := match r1.next with
      | some n => (seq + 65536 - n) % 65536
      | none => 0
    let ackd (x : RingRx) : RingRx := { x with from' := p, unacked := if d.ack then x.unacked + 1 else x.unacked }
    if 32768 ≤ diff then ackDue q (s.setRingRx q (ackd r1))
    else if diff ≠ 0 ∧ d.ack ∧ s.clk.age < r1.last + msAge then s.setRingRx q { r1 with from' := p }
    else
      let s1 := s.setRingRx q (ackd { r1 with next := some ((seq + 1) % 65536), last := s.clk.age })
      ackDue q (rxStore p src d (if diff ≠ 0 then rxClose q true (dataError RING_RX_STAT_GAP 2 1 s1) else s1))

/-- `RX_GAP`: 1 ms without a frame of an open packet. -/
def rxGap (q : Nat) (s : State) : State :=
  let r := s.ringRx q
  if r.opened && decide (r.last + msAge ≤ s.clk.age) then rxClose q true (dataError RING_RX_STAT_GAP 2 1 s) else s

/-! ### Queue traffic sent (R316, R326, R327, R330) -/

/-- The route word of a queue, and its parts. -/
def routeWord (s : State) (q : Nat) : Nat := (s.word (RING_ROUTE_EN q).addr).toNat
/-- The port a route word selects. -/
def routePort (s : State) (v : Nat) : Nat := match bits v 28 2 with
  | 1 => 0
  | 2 => 1
  | _ => headPort s
/-- The route's port, or the other one while it is wrapped. -/
def routeOut (s : State) (v : Nat) : Nat := let p := routePort s v; if portUp s p then p else 1 - p

/-- The packet a reader would read next in a queue: its lane. -/
def nextLane (s : State) (q : Nat) : Option Nat :=
  let x := s.queue q
  match x.reader with
  | some r => (x.find r.id).map (fun p => p.lane)
  | none => x.head.map (fun p : Packet => p.lane)

/-- Read words of a queue into its route's buffer, up to a fragment. -/
def txFill (q : Nat) : Nat → List Upset → State → State
  | 0, _, s => s
  | n + 1, us, s =>
    let x := s.ringTx q
    if (x.active && x.ended) || decide (256 ≤ x.buf.length) || ownerOf s q != 5 then s
    else
      let lane := (nextLane s q).getD 0
      let (o, s1) := readAs 5 q (us.headD .clean) s
      if o.tag < 0x80 then s1
      else
        let d := if bit o.tag 6 then o.word else 0
        let len := if bit o.tag 6 then o.word % 2 ^ 16 else x.len
        let x1 := if bit o.tag 6 then { fseq := x.fseq, timer := x.timer, tries := x.tries, lost := x.lost, active := true, route := routeWord s q, lane := lane } else x
        let w := if bit o.tag 6 then d / 2 ^ 16 * 2 ^ 16 else o.word
        let x2 := { x1 with buf := if bit o.tag 2 then x1.buf else x1.buf ++ [(w, bit o.tag 4)],
                            ended := bit o.tag 5, len := if bit o.tag 2 then o.word % 2 ^ 16 else len,
                            trunc := if bit o.tag 6 || bit o.tag 2 then bit o.word 30 else x1.trunc,
                            poison := x1.poison || bit o.tag 3 }
        txFill q n (us.drop 1) (s1.setRingTx q x2)

/-- The words of the next fragment, if the port holds it whole. -/
def txFragment (x : RingTx) : Option (List (Nat × Bool)) :=
  match x.buf with
  | [] => if x.active && x.ended then some [] else none
  | (v, true) :: _ => some [(v, true)]
  | b =>
    let f := (b.takeWhile (fun w => !w.2)).take 256
    if f.length = 256 ∨ f.length < b.length ∨ x.ended then some f else none

/-- Bits in the token bucket of a port, in 2^−16 bit (R316): RATE bits to the microsecond. -/
def tokensNow (s : State) (p : Nat) : Nat :=
  let x := s.ringPort p
  min (s.get RING_BW_BURST * 8192 * 65536) (x.tokens + (s.clk.age - x.since) * s.get RING_BW_RATE * 25)

/-- Both buckets hold what they have filled to by now: before RATE or BURST changes. -/
def tokensSync (s : State) : State :=
  (List.range 2).foldl (fun t p => t.setRingPort p { s.ringPort p with tokens := tokensNow s p, since := s.clk.age }) s

/-- Send one frame of queue `q` by port `p`, where the bucket and the retry store allow it. -/
def txSend (p q : Nat) (s : State) : State :=
  let x := s.ringTx q
  match txFragment x, ownNumber s with
  | some ws, some me =>
    let last := x.ended && ws.length == x.buf.length
    let poison := (ws.headD (0, false)).2
    let bytes0 := 4 * ws.length
    let pay := bytes0 - (if x.begun then 0 else 4)
    let bytes := if last then bytes0 - (x.sent + pay - x.len) else bytes0
    let ack := bit x.route 30
    let rate := s.get RING_BW_RATE
    let tok := tokensNow s p
    if rate ≠ 0 ∧ tok < bytes * 8 * 65536 then s
    else if ack && decide (32 ≤ (s.ring.retry.filter (fun k => k.port == p)).length) then s
    else
      let d : DataFrag := { first := !x.begun, last := last, poison := poison, ack := ack, pktTrunc := last && x.trunc,
                            pktPoison := last && x.poison, lane := x.lane, queue := bits x.route 0 9, bytes := bytes, words := ws.map (fun w => w.1) }
      let f : Frame := { wraps := if portUp s (routePort s x.route) then 0 else 1, dst := bits x.route 16 6, src := me, seq := x.fseq, body := .data d }
      let x1 : RingTx := { x with fseq := (x.fseq + 1) % 65536, begun := true, buf := x.buf.drop ws.length, sent := x.sent + pay,
                                  timer := if s.ring.retry.any (fun k => k.queue == q) then x.timer else s.clk.age }
      let x2 : RingTx := if last then { fseq := x1.fseq, timer := x1.timer, tries := x1.tries, lost := x1.lost } else x1
      let s1 := s.setRingTx q x2
      let s2 := s1.setRingPort p { s1.ringPort p with tokens := if rate = 0 then tok else tok - bytes * 8 * 65536, since := s.clk.age, rr := q }
      let s3 := if ack then { s2 with ring := { s2.ring with retry := s2.ring.retry ++ [⟨q, p, f⟩] } } else s2
      sendFrame p f s3
  | _, _ => s

/-- A queue's route can send now by port `p`, and its lane. -/
def txReady (s : State) (p q : Nat) : Option Nat :=
  let x := s.ringTx q
  if ownerOf s q ≠ 5 ∧ !(x.active && (txFragment x).isSome) then none
  else if x.active then (if routeOut s x.route = p then some x.lane else none)
  else
    let v := routeWord s q
    if bit v 31 && routeOut s v == p then nextLane s q else none

/-- Queues that the ring may read: those it owns and those with a packet in progress, in the order of R316 behind `rr`. -/
def txOrder (s : State) (p : Nat) : List Nat :=
  let qs := (s.tongs.queues.map (fun c => c.1)).filter (fun q => (txReady s p q).isSome)
    ++ ((s.ring.txs.filter (fun c => c.2.active && (txReady s p c.1).isSome)).map (fun c => c.1)).filter (fun q => !(s.tongs.queues.any (fun c => c.1 == q)))
  let rr := (s.ringPort p).rr
  let rot := qs.filter (fun q => decide (rr < q)) ++ qs.filter (fun q => decide (q ≤ rr))
  (List.range 4).flatMap (fun i => rot.filter (fun q => txReady s p q == some (3 - i)))

/-- A packet finds ROUTE.EN = 0: PG_FAULT.NO_ROUTE, and source 556, once for each packet (R326, R334). -/
def noRouteOf (q : Nat) (s : State) : State :=
  let x := s.ringTx q
  match (s.queue q).place with
  | some r =>
    if ownerOf s q != 5 || x.active || bit (routeWord s q) 31 || x.lost == some r.id then s
    else pulse 556 ((s.setRingTx q { x with lost := some r.id }).fault 0x53 4)
  | none => s
def noRoute (s : State) : State := (s.tongs.queues.map (fun c => c.1)).foldl (fun t q => noRouteOf q t) s

/-- The first queue of a list whose fragment is whole sends. -/
def txFirst (p : Nat) (us : List Upset) : List Nat → State → State
  | [], s => s
  | q :: r, s =>
    let s1 := txFill q 258 us s
    if (txFragment (s1.ringTx q)).isSome then txSend p q s1 else txFirst p us r s1

/-- `DATA_FRAME_SEND`: `us` is what the words read present beside their data. A DATA frame starts only when nothing else is there to send and the
frame in progress has left (R314, R316). -/
def dataFrameSend (p : Nat) (us : List Upset) (s : State) : State :=
  if !ringHere s || !portUp s p || !linkFree s p then s
  else
    let s1 := noRoute s
    if (ownNumber s1).isNone then s1 else txFirst p us (txOrder s1 p) s1

/-- A received ACK (R330): frames of the route up to SEQ are released. -/
def takeAck (src q seq : Nat) (s : State) : State :=
  let hit (k : Kept) : Bool := match k.frame.body with
    | .data d => k.frame.dst == src && d.queue == q && decide ((seq + 65536 - k.frame.seq) % 65536 < 32768)
    | _ => false
  let gone := s.ring.retry.filter hit
  let s1 := { s with ring := { s.ring with retry := s.ring.retry.filter (fun k => !hit k) } }
  gone.foldl (fun s k => s.setRingTx k.queue { s.ringTx k.queue with timer := s.clk.age, tries := 0 }) s1

/-- `RETRY_TIMEOUT` of the route of queue `q`. -/
def retryTimeout (q : Nat) (s : State) : State :=
  let ks := s.ring.retry.filter (fun k => k.queue == q)
  let x := s.ringTx q
  if !ringHere s || ks.isEmpty || !passedUs s x.timer (max 1 (s.get RING_RETRY_CFG_TO)) then s
  else if 8 ≤ x.tries then
    dataError RING_RETRY_STAT_LOST 1 ks.length
      ({ s with ring := { s.ring with retry := s.ring.retry.filter (fun k => k.queue != q) } }.setRingTx q { x with tries := 0 })
  else
    let s1 := (s.setRingTx q { x with tries := x.tries + 1, timer := s.clk.age }).addSat RING_RETRY_STAT_RESENT ks.length
    ks.foldl (fun s k => sendLocal k.port { k.frame with wraps := 0 } s) s1

/-! ### Resets and power (R333) -/

/-- The RING clock stops: every link goes down. -/
def ringStop (s : State) : State :=
  if !hasRing s.variant then s
  else (List.range 2).foldl (fun s p => linkDown p (if s.on (RINGP_PORT_CFG_EN p) then 1 else 0) s) s

/-- A PAGE reset of a port empties its retry store; the port then starts at READY. -/
def ringPortReset (p : Nat) (s : State) : State :=
  let s1 := linkDown p 1 s
  { s1.setRingPort p {} with ring := { (s1.setRingPort p {}).ring with retry := s1.ring.retry.filter (fun k => k.port != p) } }

/-- Packets that ring ports have open are closed with TRUNC. -/
def ringCloseAll (s : State) : State := (s.ring.rxs.map (fun c => c.1)).foldl (fun s q => rxClose q true s) s

/-- A PAGE reset of RING: routes, map, queued JOINs and servo state go; NUM_VALID clears. -/
def ringReset (s : State) : State :=
  let s1 := clearNumber (ringCloseAll s)
  { s1 with ring := { ports := s1.ring.ports } }

/-- A write of DISC_CTRL moved SRC away from 2 (R323). -/
def ringSrcLeft (s : State) : State := ringUnlock { s with ring := { s.ring with servo := false, big := 0 } }

/-! ### Commands -/

def execSignalDetect (p : Nat) (s : State) : Out := done s (signalDetect p s)
def execAlignDone (p : Nat) (s : State) : Out := done s (alignDone p s)
def execTrainDone (p uid peer : Nat) (s : State) : Out := done s (trainDone p uid peer s)
def execHeal (p : Nat) (s : State) : Out := done s (heal p s)

/-- `LINK_DOWN`, with the code and disparity errors met since the last one. -/
def execLinkDown (p errs : Nat) (s : State) : Out :=
  done s (if portState s p < 2 then s else linkDown p 1 (s.addSat (RINGP_ERR_CNT_CODE p) errs))

/-- `FRAME_ERROR`: a bad CRC, LEN or ABORT (R311), or an unknown TYPE (R313). -/
def execFrameError (p : Nat) (unknown : Bool) (s : State) : Out :=
  done s (if !portUp s p then s
    else if unknown then ringDrop p RINGP_DROP_CNT_TYPE s else ringDrop p RINGP_ERR_CNT_CRC (s.fault (0x51 + p) 1))

/-- `DATA`. -/
def execDataFrame (p : Nat) (f : Frame) (s : State) : Out :=
  done s (match f.body with
    | .data d => ringCmd (receive p f f (takeData p f.src f.seq d)) s
    | _ => s)

/-- `BEACON`: received at `tin`, forwarded after the residence time `res`, in 2^−16 tick. -/
def execBeacon (p : Nat) (f : Frame) (tin res : Nat) (s : State) : Out :=
  done s (match f.body with
    | .beacon b => ringCmd (receive p f (beaconOut p f b res s) (takeBeacon p b tin)) s
    | _ => s)

/-- `PDELAY_REQ`: received at t2, answered at t3. -/
def execPdelayReq (p : Nat) (f : Frame) (t2 t3 : Nat) (s : State) : Out :=
  done s (match f.body with
    | .pdelayReq => ringCmd (receive p f f (takeReq p t2 t3)) s
    | _ => s)

/-- `PDELAY_RESP`: received at t4. -/
def execPdelayResp (p : Nat) (f : Frame) (t4 : Nat) (s : State) : Out :=
  done s (match f.body with
    | .pdelayResp t2 t3 => ringCmd (receive p f f (takeResp p t2 t3 t4)) s
    | _ => s)

/-- `ENUM_JOIN`. -/
def execEnumJoin (p : Nat) (f : Frame) (s : State) : Out :=
  done s (match f.body with
    | .enum e => ringCmd (receive p f f (takeJoin p e)) s
    | _ => s)

/-- `GRANT`. -/
def execGrant (p : Nat) (f : Frame) (s : State) : Out :=
  done s (match f.body with
    | .enum e => ringCmd (receive p f f (takeGrant e)) s
    | _ => s)

/-- `HELLO`. -/
def execHello (p : Nat) (f : Frame) (s : State) : Out :=
  done s (match f.body with
    | .enum e => ringCmd (receive p f f (takeHello p f e)) s
    | _ => s)

/-- `REFUSE`. -/
def execRefuse (p : Nat) (f : Frame) (s : State) : Out :=
  done s (match f.body with
    | .enum e => ringCmd (receive p f f (takeRefuse e)) s
    | _ => s)

/-- `ACK`. -/
def execAckFrame (p : Nat) (f : Frame) (s : State) : Out :=
  done s (match f.body with
    | .ack q => ringCmd (receive p f f (takeAck f.src q f.seq)) s
    | _ => s)

def execBeaconSend (tE tW : Nat) (s : State) : Out := done s (ringCmd (beaconSend tE tW) s)
def execPdelayReqSend (p t1 : Nat) (s : State) : Out := done s (ringCmd (pdelayReqSend p t1) s)
def execJoinSend (s : State) : Out := done s (ringCmd joinSend s)
def execHelloSend (s : State) : Out := done s (ringCmd helloSend s)
def execMemberAbsent (n : Nat) (s : State) : Out := done s (memberAbsent n s)
def execNumberHoldExpire (n : Nat) (s : State) : Out := done s (numberHoldExpire n s)
def execBeaconMiss (s : State) : Out := done s (beaconMiss s)
def execHeadTakeover (s : State) : Out := done s (headTakeover s)
def execDataFrameSend (p : Nat) (us : List Upset) (s : State) : Out := done s (ringCmd (dataFrameSend p us) s)
def execAckSend (q : Nat) (s : State) : Out := done s (ringCmd (ackSend q) s)
def execRetryTimeout (q : Nat) (s : State) : Out := done s (ringCmd (retryTimeout q) s)
def execRxGap (q : Nat) (s : State) : Out := done s (rxGap q s)

end Sys2Proof.Machine
end

