-- ==== Sys2Proof/Machine/Power.lean ====
section
/-!
DEFINITION. Sys2Proof/Machine/Power.lean: the clock states (spec/03_clock_root_and_time_base.md, R30 to R33, R45) and the power
states: requests, refusals, entries, exits and wakes (spec/20_power_states_and_thermal.md, R349 to R354).
-/
namespace Sys2Proof.Machine

/-! ### Clock states (R30 to R34, R45) -/

/-- The next PLL-cycle number at which MOD 1.28 MHz has an edge: the instants at which the clocks are switched (R31). -/
def alignedPlc (s : State) : Nat := ceilDiv s.clk.plc 2048 * 2048

/-- The line of TB goes on from the present value at an alignment edge, and the measurement window is discarded (R44). -/
def switchPoint (s : State) : State :=
  let s1 : State := { s with clk := { s.clk with plc := alignedPlc s, winBad := true } }
  pushAnchor (20 * (s1.tbf : Int)) (2 ^ 32 + s1.trim) s1

/-- Reference clocking: the PLL is off or lost, and the phase counter of R34 starts at 0. -/
def toReference (s : State) : State :=
  portsPause (switchPoint { (s.set BELLOWS_CLK_STAT_CLKSRC 1).clear BELLOWS_CLK_STAT_PLL_LOCK with clk := { s.clk with phase := 0, band := false } })

/-- The fast domains stop and TB coasts; without the crystal it is held (R33). -/
def toCoast (s : State) : State :=
  let s1 := ((s.set BELLOWS_CLK_STAT_CLKSRC (if s.on BELLOWS_CLK_STAT_XTAL32_OK then 2 else 3)).clear BELLOWS_CLK_STAT_PLL_LOCK).clear
    BELLOWS_CLK_STAT_REF_OK
  { s1.raise TB_STAT_COASTED with clk := { s1.clk with band := false, winBad := true } }

/-- The hub wants its PLL: in RUN, and in an exit to RUN. -/
def pllWanted (s : State) : Bool :=
  !s.pwr.held && !s.pwr.off && (s.get BELLOWS_PWR_STAT_STATE == 0 || s.pwr.phase == 3)

/-- The channels, recalibrations, ring links and poll contexts stop with their clocks, and the watchdogs are read. -/
def stopBlocks (s : State) : State :=
  portsDoze (seqsDoze (smsAbort (stopForWatch true (ringStop (timersSync s)))))

/-! ### Housekeeping starts and stops with its clock (R77) -/

/-- An entry of the scan list begins: its settings are taken (spec/05, change table). -/
def hkEntry (j : Nat) (s : State) : State :=
  let o := s.get AFE_COM_HK_CTRL_OSR
  { s.set AFE_COM_HK_STAT_ENTRY j with
    hk := { s.hk with busy := true, osr := (if o = 3 then 1 else o), word := (s.word (AFE_COM_HK_ENTRY_CODE j).addr).toNat } }

/-- A scan starts where none runs. -/
def hkStart (s : State) : State := if s.hk.busy || !s.runs 0x10 || s.busStopped then s else hkEntry 0 s

/-- CONTINUOUS = 1 keeps a scan running. -/
def hkContinuous (s : State) : State := if s.on AFE_COM_HK_CTRL_CONTINUOUS then hkStart s else s

/-- HK is off. -/
def hkStop (s : State) : State := { s with hk := { s.hk with busy := false } }

/-! ### Window monitors enter and leave DOZE (R103) -/

/-- In DOZE a monitor with DOZE_EN runs in MICRO and the others are off; at wake each returns to its MODE with a first evaluation. -/
def wmsSwitch (s : State) : State :=
  (List.range (nMonitors s.variant)).foldl (fun t n =>
    if !bit (t.get WM_ENABLE_EN) n then t
    else if t.busStopped && !t.on (WM_CFG_DOZE_EN n) then (compDue n (compLo n) false (compDue n (compHi n) false t)).clear (WM_STAT_INSIDE_F n)
    else wmEvaluate n t) s

/-! ### Requests (R349 to R351) -/

/-- The state the hub is in: PWR_STAT.STATE. -/
def powerState (s : State) : Nat := s.get BELLOWS_PWR_STAT_STATE

/-- A core that is not at rest (R350). -/
def coreAwake (s : State) (n : Nat) : Bool :=
  s.on (CORE_CTRL_RUN n) && !(coreState s n == 2 || coreState s n == 4 || coreState s n == 0)

/-- The request ends with a refusal. -/
def sleepRefused (code : Nat) (s : State) : State :=
  pulse 580 ((({ s with pwr := { s.pwr with phase := 0 } } : State).clear BELLOWS_PWR_STAT_BUSY).set BELLOWS_PWR_STAT_RESULT code)

/-- The lowest source that holds WAKE_PENDING high. -/
def wakeSource (s : State) : Nat :=
  ((s.regs.filterMap (fun c => match srcOfAddr c.1 with
    | some n => if wakeHeld s n then some n else none
    | none => none)).head?).getD 0

/-- The exit to RUN begins, its cause recorded in WAKE_LAST while that is armed (R353). -/
def beginExit (cause : Nat) (s : State) : State :=
  let s1 := if s.on BELLOWS_WAKE_LAST_VALID then s
    else (((s.raise BELLOWS_WAKE_LAST_VALID).set BELLOWS_WAKE_LAST_CAUSE cause).set BELLOWS_WAKE_LAST_SOURCE (wakeSource s)).set
      BELLOWS_WAKE_LAST_FROM (powerState s)
  { s1.raise BELLOWS_PWR_STAT_BUSY with pwr := { s1.pwr with phase := 3 } }

/-- A core is powered off for WATCH; one in WAIT resumes after its wait instruction. -/
def corePowerOff (n : Nat) (s : State) : State :=
  let b := coreState s n
  (s.setCore n { s.core n with back := if b = 2 then 1 else b }).set (CORE_STAT_STATE n) 6

/-- Entry to WATCH: its steps 1 and 2 (R352). Slice A alone runs in WATCH; for a WATCH channel placed on another slice R15 names no move, so
ON_SLICE and the slice loads stay as they are (DESIGN CHOICE, log entry 21). -/
def enterWatch (s : State) : State :=
  let s1 := ringStop (imgAbort (smsAbort (stopForWatch false (timersSync s))))
  let s2 := (List.range (nCores s1.variant)).foldl (fun t n => corePowerOff n t) s1
  { s2.raise BELLOWS_PWR_STAT_BUSY with pwr := { s2.pwr with phase := 2, target := 1 } }

/-- Entry to DOZE or OFF-KEEP from the point of no return: its steps 1 to 3 (R352). -/
def enterSleep (t : Nat) (s : State) : State :=
  let s1 := hkStop (imgAbort (pgsStop (stopBlocks s)))
  let s2 := tbUnlock (evcDoze s1)
  { s2.raise BELLOWS_PWR_STAT_BUSY with pwr := { s2.pwr with phase := 2, target := t } }

/-- A write of PWR_REQ with GO = 1 and a target, in its decision cycle. -/
def pwrRequest (t : Nat) (s : State) : State :=
  let s1 := s.set BELLOWS_PWR_STAT_REQ t
  if 1 ≤ t ∧ wakePending s1 then pulse 580 (s1.set BELLOWS_PWR_STAT_RESULT 2)
  else if s1.on BELLOWS_PWR_STAT_BUSY then pulse 580 (s1.set BELLOWS_PWR_STAT_RESULT 3)
  else if t = 1 ∧ (List.range (nCores s.variant)).any (coreAwake s1) then pulse 580 (s1.set BELLOWS_PWR_STAT_RESULT 4)
  else if t = 2 ∧ !s1.on BELLOWS_CLK_STAT_XTAL32_OK then pulse 580 (s1.set BELLOWS_PWR_STAT_RESULT 5)
  else if t = powerState s1 then s1.set BELLOWS_PWR_STAT_RESULT 1
  else match t with
    | 0 => beginExit 1 s1
    | 1 => enterWatch s1
    | _ => { s1.raise BELLOWS_PWR_STAT_BUSY with pwr := { s1.pwr with phase := 1, target := t, since := s1.clk.age } }

/-- The commit wait is over: the point of no return, unless a wake has come first (R351). -/
def pointOfNoReturn (s : State) : State :=
  if s.pwr.phase ≠ 1 ∨ s.busStopped ∨ !hearthIdle s then s
  else if wakePending s then sleepRefused 2 s
  else enterSleep s.pwr.target s

/-- The commit wait has lasted COMMIT_WAIT ms. -/
def commitWait (s : State) : State :=
  if s.pwr.phase ≠ 1 ∨ hearthIdle s ∨ s.clk.age < s.pwr.since + max 1 (s.get BELLOWS_PWR_CFG_COMMIT_WAIT) * msAge then s
  else sleepRefused 6 s

/-! ### The end of an entry (R352) -/

/-- TCM and core state are lost (R262); memory of the pool is not retained (R238). -/
def coresLost (s : State) : State :=
  (List.range (nCores s.variant)).foldl (fun t n =>
    let x := t.core n
    (t.setCore n { wdIdle := x.wdIdle, wdLeft := x.wdLeft, wdSince := x.wdSince, back := coreState t n, haltDue := x.haltDue }).set (CORE_STAT_STATE n) 6) s

/-- OFF-KEEP: every domain but VAON and the AON SRAM is off. -/
def powerOff (s : State) : State :=
  let s1 := (List.range 96).foldl (fun t p => t.set (PG_STAT_READY p) 0) (coresLost s)
  let s2 := (((s1.set BELLOWS_CLK_STAT_CLKSRC 3).clear BELLOWS_CLK_STAT_PLL_LOCK).clear BELLOWS_CLK_STAT_REF_OK).clear HOST_ATTN_LEVEL
  { s2 with pwr := { s2.pwr with off := true, phase := 0, owed := true }, clk := { s2.clk with band := false } }

/-- The entry in progress completes. -/
def entryDone (s : State) : State :=
  if s.pwr.phase ≠ 2 then s
  else
    let fin (st : Nat) (u : State) : State :=
      { ((u.set BELLOWS_PWR_STAT_STATE st).set BELLOWS_PWR_STAT_RESULT 1).clear BELLOWS_PWR_STAT_BUSY with pwr := { u.pwr with phase := 0 } }
    match s.pwr.target with
    | 1 =>
      if s.busStopped then s
      else pulse 579 (fin 1 (if s.clksrc = 0 then toReference (updateNow s) else s))
    | 2 =>
      let s1 := wmsSwitch (fin 2 (toCoast (coresLost s)))
      let s2 : State := { s1 with pwr := { s1.pwr with owed := true } }
      if s2.pwr.refBack then beginExit 2 s2 else s2
    | _ => powerOff (fin 0 s)

/-! ### Exits (R353) -/

/-- A wake while the hub is in WATCH or DOZE starts the exit; while a request waits it ends that request (R351). -/
def wake (s : State) : State :=
  if !wakePending s then s
  else if s.pwr.phase = 1 then sleepRefused 2 s
  else if s.pwr.phase = 0 ∧ (powerState s = 1 ∨ powerState s = 2) then beginExit 0 s
  else s

/-- The BUS clock returns after DOZE: packets are lost, the slots restart and the rules' hidden state clears (R202, R218, R238). -/
def blocksWake (s : State) : State :=
  let s1 := slotsRestart (tongsWake s)
  { s1 with points := [], rules := [], firings := [], bursts := [], hk := { s1.hk with tempAt := s1.clk.age } }

/-- The end of step 1 of R30. After DOZE or a loss of reference the reference takes over at the coast value of TB (R45): its first
step is taken after the AON edge that follows REF_OK, in it what DOZE matches left is performed (R61), and the PPS logic realigns (R41). The
blocks that stopped resume as on exit from DOZE (R33), and the latches are delivered (R252). -/
def refOk (s : State) : State :=
  if !s.clk.refPresent || s.on BELLOWS_CLK_STAT_REF_OK || !pllWanted s then s
  else
    let s1 := s.raise BELLOWS_CLK_STAT_REF_OK
    if s1.clksrc < 2 then s1
    else
      let s2 := ppsAfterCoast (updateNow (lcsWake (toReference (updateNow s1))))
      let s3 := hkContinuous (wmsSwitch (blocksWake s2))
      let s4 := (deliverLatches s3).clearMem 0x30000000 0x30040000
      let s5 := sleepEval (attnEval (sampleAll ((List.range 640).filter (fun n => levelSensed s4 n)) s4))
      if s5.pwr.owed then pulse 579 { s5 with pwr := { s5.pwr with owed := false } } else s5

/-- The end of step 2 of R30. -/
def vcoBand (s : State) : State :=
  if s.on BELLOWS_CLK_STAT_REF_OK && s.clk.refPresent && s.clksrc == 1 && pllWanted s then { s with clk := { s.clk with band := true } } else s

/-- The end of step 3 of R30. -/
def pllLock (s : State) : State :=
  if s.clk.band && s.clk.refPresent && s.clksrc == 1 && pllWanted s then s.raise BELLOWS_CLK_STAT_PLL_LOCK else s

/-- Step 4 of R30: the dividers are released at the alignment edge, whose update is a reference step (R45). After a loss of lock the
channels behave as on the return to RUN (R32). -/
def dividerRelease (s : State) : State :=
  if !s.on BELLOWS_CLK_STAT_PLL_LOCK || s.clksrc != 1 || !pllWanted s then s
  else
    let s1 := updateNow s
    let s2 := switchPoint (s1.set BELLOWS_CLK_STAT_CLKSRC 0)
    let s3 := (s2.set BELLOWS_ALIGN_LO_TB s2.tb).set BELLOWS_ALIGN_HI_TB (s2.tb / 2 ^ 32)
    if s3.clk.lockLost then
      let s4 : State := { s3 with clk := { s3.clk with lockLost := false } }
      if s4.pwr.phase = 3 then s4 else returnFromWatch s4
    else s3

/-- A core returns at the end of an exit: from WATCH it goes on where it was, from DOZE it starts as after a core reset (R256, R266). -/
def coreReturn (kept : Bool) (n : Nat) (s : State) : State :=
  if coreState s n ≠ 6 then s
  else if kept then
    (if (s.core n).back = 0 ∧ s.on (CORE_CTRL_RUN n) then coreBegin n s else setCoreState n (s.core n).back s)
  else if s.on (CORE_CTRL_RUN n) then coreStart n (((targetReset n s).clear (CORE_CTRL_FENCE n)).clear (PG_STAT_FENCED (0x48 + n)))
  else setCoreState n (if s.on (CORE_CTRL_FENCE n) then 4 else 0) s

/-- The exit reaches RUN. -/
def exitDone (s : State) : State :=
  if s.pwr.phase ≠ 3 ∨ s.clksrc ≠ 0 then s
  else
    let was := powerState s
    let s1 := (timersSync s).set BELLOWS_PWR_STAT_STATE 0
    let s2 := (List.range (nCores s1.variant)).foldl (fun t n => coreReturn (was == 1 && !s1.pwr.refBack) n t) s1
    let s3 : State := { s2.clear BELLOWS_PWR_STAT_BUSY with pwr := { s2.pwr with phase := 0, refBack := false } }
    let s4 := returnFromWatch s3
    let s5 := if was = 0 then s4 else pulse 579 s4
    if s.pwr.refBack then pulse 577 s5 else s5

/-! ### Losses (R32, R33) -/

/-- A loss of lock. -/
def pllLockLost (s : State) : State :=
  if s.clksrc ≠ 0 then s
  else
    let s1 := (toReference (updateNow (timersSync s))).raise BELLOWS_CLK_STAT_LOCK_LOST
    let s2 := bbRecord 0x0010 ((s1.word BELLOWS_CLK_STAT_CLKSRC.addr).toNat % 256) (pulse 576 s1)
    let s3 : State := { s2 with clk := { s2.clk with lockLost := true } }
    stopForWatch false (ringStop s3)

/-- The reference stops: every domain but AON and HOSTSPI stops, with the outputs of generators at SAFE as in DOZE (DEDUCED from R33 and
R103, log entry 20). In DOZE they stand already. -/
def refLost (s : State) : State :=
  if !s.clk.refPresent || s.pwr.off || s.pwr.held then s
  else
    let s1 : State := { s.raise BELLOWS_CLK_STAT_REF_LOST with clk := { s.clk with refPresent := false, lockLost := false } }
    let s2 := bbRecord 0x0011 0 s1
    if s2.busStopped then s2.set BELLOWS_CLK_STAT_CLKSRC (if s2.on BELLOWS_CLK_STAT_XTAL32_OK then 2 else 3)
    else toCoast (hkStop (coresLost (pgsStop (stopBlocks s2))))

/-- The reference returns: R30 runs from step 1, and the hub resumes as on exit from DOZE. An entry in progress completes first. -/
def refRestored (s : State) : State :=
  if s.clk.refPresent || s.pwr.off || s.pwr.held then s
  else
    let s1 : State := { s with clk := { s.clk with refPresent := true }, pwr := { s.pwr with refBack := true } }
    if s1.pwr.phase = 2 then s1
    else if s1.pwr.phase = 3 ∨ powerState s1 = 0 then { s1.raise BELLOWS_PWR_STAT_BUSY with pwr := { s1.pwr with phase := 3 } }
    else beginExit 2 s1

/-- The 32.768 kHz crystal is lost: while TB coasts on it, TB is held. R33 measures its edges against the reference; wherever the reference
runs at the ball, in DOZE too, the loss is found (DESIGN CHOICE, log entry 20). -/
def xtalFail (s : State) : State :=
  if !s.on BELLOWS_CLK_STAT_XTAL32_OK then s
  else
    let s1 := s.clear BELLOWS_CLK_STAT_XTAL32_OK
    let s2 := if s1.clk.refPresent then pulse 578 (s1.raise BELLOWS_CLK_STAT_XTAL32_FAIL) else s1
    if s2.clksrc = 2 then s2.set BELLOWS_CLK_STAT_CLKSRC 3 else s2

/-- The crystal runs. -/
def xtalOk (s : State) : State :=
  let s1 := s.raise BELLOWS_CLK_STAT_XTAL32_OK
  if s1.clksrc = 3 ∧ !s1.pwr.off ∧ !s1.pwr.held then s1.set BELLOWS_CLK_STAT_CLKSRC 2 else s1

/-! ### Commands -/

/-- `REF_OK`. -/
def execRefOk (s : State) : Out := done s (refOk s)

/-- `VCO_BAND_CALIBRATION`. -/
def execVcoBand (s : State) : Out := done s (vcoBand s)

/-- `PLL_LOCK`. -/
def execPllLock (s : State) : Out := done s (pllLock s)

/-- `DIVIDER_RELEASE`. -/
def execDividerRelease (s : State) : Out := done s (dividerRelease s)

/-- `PLL_LOCK_LOST`. -/
def execPllLockLost (s : State) : Out := done s (pllLockLost s)

/-- `REF_LOST`. -/
def execRefLost (s : State) : Out := done s (refLost s)

/-- `REF_RESTORED`. -/
def execRefRestored (s : State) : Out := done s (refRestored s)

/-- `XTAL32_FAIL`. -/
def execXtalFail (s : State) : Out := done s (xtalFail s)

/-- `XTAL32_OK`. -/
def execXtalOk (s : State) : Out := done s (xtalOk s)

/-- `POINT_OF_NO_RETURN`. -/
def execPointOfNoReturn (s : State) : Out := done s (pointOfNoReturn s)

/-- `COMMIT_WAIT`. -/
def execCommitWait (s : State) : Out := done s (commitWait s)

/-- `ENTRY_DONE`. -/
def execEntryDone (s : State) : Out := done s (entryDone s)

/-- `WAKE`. -/
def execWake (s : State) : Out := done s (wake s)

/-- `EXIT_DONE`. -/
def execExitDone (s : State) : Out := done s (exitDone s)

end Sys2Proof.Machine
end

