-- ==== Sys2Proof/Machine/Thermal.lean ====
section
/-!
DEFINITION. Sys2Proof/Machine/Thermal.lean: the housekeeping scan (spec/05_analog_front_end.md, R77, R78) and the thermal
governor that reads it (spec/20_power_states_and_thermal.md, R356, R357, R359).
-/
namespace Sys2Proof.Machine

/-! ### Stages (R357) -/

/-- The threshold of a stage, in 2^−8 °C. -/
def stageAt (k : Nat) : Int := match k with
  | 1 => 115 * 256
  | 2 => 125 * 256
  | 3 => 135 * 256
  | _ => 140 * 256

/-- Stage `k` is reached, or stands and has not fallen below its threshold minus HYST. -/
def stageHolds (s : State) (t : Int) (k : Nat) : Bool :=
  decide (stageAt k ≤ t) ||
    (decide (k ≤ s.hk.stale.getD (s.get THERM_STAT_STAGE)) && decide (stageAt k - 256 * (max 1 (s.get THERM_CFG_HYST) : Nat) ≤ t))

/-- The highest of stages 1 to 3 that holds. -/
def stageOf (s : State) (t : Int) : Nat :=
  if stageHolds s t 3 then 3 else if stageHolds s t 2 then 2 else if stageHolds s t 1 then 1 else 0

/-- The stage becomes `k`: entries are counted, the levels follow, Hardy is throttled from stage 2, and Anvil sheds and re-admits
with stage 3. -/
def setStage (k : Nat) (s : State) : State :=
  let old := s.get THERM_STAT_STAGE
  let enters (j : Nat) : Bool := decide (old < j) && decide (j ≤ k)
  let s1 := s.set THERM_STAT_STAGE k
  let s2 := if enters 1 then s1.inc THERM_STAGE_CNT_WARN else s1
  let s3 := if enters 2 then s2.inc THERM_STAGE_CNT_THROTTLE else s2
  let s4 := if enters 3 then s3.inc THERM_STAGE_CNT_SHED else s3
  let s5 := sampleAll [581, 582, 583] (s4.set HARDYF_STAT_THROTTLED (b2n (decide (2 ≤ k))))
  if enters 3 then shedAll s5 else if old = 3 ∧ k < 3 then readmitShed s5 else s5

/-- Stage 4: the black box freezes and is copied, and the hub enters OFF-KEEP without the commit wait. -/
def thermalShutdown (analog : Bool) (s : State) : State :=
  if s.pwr.off || s.pwr.held || (s.pwr.phase = 2 && s.pwr.thermal) then s
  else
    let s1 := bbRecord 0x0004 (s.get THERM_THOT_TEMP % 2 ^ 16 + s.get THERM_STAT_SENSOR * 2 ^ 16 + b2n analog * 2 ^ 18) s
    let s2 := bbFreeze 2 s1
    enterSleep 3 { s2 with pwr := { s2.pwr with thermal := true } }

/-- The result of an entry of the scan list. -/
def hkResult (s : State) (j : Nat) : Int := s.getS (AFE_COM_HK_RESULT_VALUE j)

/-- The governor at the end of a scan: THOT is the hottest of the three, of the lowest number among equals (R356). -/
def governor (s : State) : State :=
  let a := hkResult s 0
  let b := hkResult s 1
  let c := hkResult s 2
  let t := max a (max b c)
  let n := if a = t then 0 else if b = t then 1 else 2
  let s1 := (s.setS THERM_THOT_TEMP t).set THERM_STAT_SENSOR n
  let s2 := if s1.getS THERM_PEAK_TEMP < t then s1.setS THERM_PEAK_TEMP t else s1
  let s3 : State := { s2 with hk := { s2.hk with stale := none } }
  let s4 := setStage (stageOf s2 t) s3
  if stageAt 4 ≤ t then thermalShutdown false s4 else s4

/-- No temperature result for 50 ms, of the governor's own time: HK_STALE, and stage 2 until results return (R356). -/
def hkStale (s : State) : State :=
  if !s.ready 0x5A || s.busStopped || decide (s.clk.age < s.hk.tempAt + 50 * msAge) then s
  else
    let s1 : State := { s.fault 0x5A 0 with hk := { s.hk with stale := some (s.hk.stale.getD (s.get THERM_STAT_STAGE)) } }
    setStage (max 2 (s1.get THERM_STAT_STAGE)) s1

/-! ### The scan (R77, R78) -/

/-- A code of HK_ENTRY names a quantity that the variant has. -/
def hkPresent (v : Variant) (code : Nat) : Bool :=
  decide (code ≤ 2) || (decide (8 ≤ code) && decide (code ≤ 0x0D) && !(code == 0x0C && v == .l))
  || (decide (0x10 ≤ code) && decide (code ≤ 0x12)) || (decide (0x14 ≤ code) && decide (code ≤ 0x17))
  || (decide (0x20 ≤ code) && decide (code < 0x40) && decide ((code - 0x20) / 2 < nMonitors v))

/-- A supply result, in 2^−20 V, within the operating range of its rail (R401), limits in mV. -/
def supplyOk (code : Nat) (v : Int) : Bool :=
  let within (lo hi : Int) : Bool := decide (lo * 2 ^ 20 ≤ 1000 * v) && decide (1000 * v ≤ hi * 2 ^ 20)
  match code with
  | 0x08 => within 760 880
  | 0x09 => within 1710 1890
  | 0x0A => within 1710 1890 || within 3135 3465
  | 0x0B => within 1710 1890 || within 3135 3465
  | 0x0C => within 855 945
  | _ => within 1800 3600

/-- R of an OSR code. -/
def hkRatio (osr : Nat) : Nat := match osr with
  | 0 => 256
  | 2 => 4096
  | _ => 1024

/-- The stamp of the emitted result, in 2^−32 ticks: TB at the last edge of the 2.56 MHz tap, which took the last bit (R12), minus 3 (R − 1) / 2
periods of 51.2 TB cycles. -/
def hkStamp (s : State) : Nat :=
  ((line20 s (s.clk.plc / 1024 * 1024 : Nat) - 1536 * (hkRatio s.hk.osr - 1 : Nat) * (2 ^ 32 + s.trim)) / 20 % (2 ^ 96 : Nat)).toNat

/-- SUPPLY_WARN follows the result of a supply entry. -/
def supplyCheck (code : Nat) (v : Int) (s : State) : State :=
  if 8 ≤ code ∧ code ≤ 0x0D ∧ hkPresent s.variant code then
    let rest := s.supplyBad.filter (fun c => c != code)
    sample 584 { s with supplyBad := if supplyOk code v then rest else code :: rest }
  else s

/-- A conversion completes with the measured quantity `v` in the unit of R78; after the last entry the scan ends. -/
def hkEntryDone (v : Nat) (s : State) : State :=
  if !s.hk.busy || !s.runs 0x10 || s.busStopped then s
  else
    let j := s.get AFE_COM_HK_STAT_ENTRY
    let code := bits s.hk.word 0 8
    let r := if hkPresent s.variant code then v else 0
    let s0 : State := { s with hk := { s.hk with tempAt := if code ≤ 2 then s.clk.age else s.hk.tempAt } }
    let s1 := supplyCheck code (sx 32 r) (s0.set (AFE_COM_HK_RESULT_VALUE j) r)
    let ch := bits s.hk.word 8 8
    let s2 := if bit s.hk.word 16 && s1.get (SCHED_CH0_SRC_TYPE ch) == 5 then sampleArrival ch (5, 0) (sx 32 r) (hkStamp s1) {} s1 else s1
    if j < max 2 (s2.get AFE_COM_HK_CTRL_SCAN_LEN_M1) then hkEntry (j + 1) s2
    else
      let s3 := (hkStop s2).incWrap AFE_COM_HK_STAT_SCANS
      let s4 := hkContinuous (if s3.on AFE_COM_HK_CTRL_SCAN_EVT then pulse 180 s3 else s3)
      if s4.ready 0x5A then governor s4 else s4

/-! ### Commands -/

/-- `HK_ENTRY_DONE`: the operand is what the modulator measured. -/
def execHkEntryDone (v : Word) (s : State) : Out := done s (hkEntryDone v.toNat s)

/-- `HK_STALE`. -/
def execHkStale (s : State) : Out := done s (hkStale s)

/-- `THERMAL_TRIP_145`: the comparator runs in RUN and WATCH. -/
def execThermalTrip (s : State) : Out := done s (if s.busStopped then s else thermalShutdown true s)

end Sys2Proof.Machine
end

