-- ==== Sys2Proof/Machine/Resets.lean ====
section
/-!
DEFINITION. Sys2Proof/Machine/Resets.lean: COLD, WARM and PAGE resets (spec/00_scope.md, R9, R10; spec/19_bring_up_and_hearth.md,
R335 to R338; and each chapter's own rule), brown-out and VAON power-on (spec/23_balls_and_electrical.md, R403, R404).
-/
namespace Sys2Proof.Machine

/-! ### Registers at their Reset values -/

/-- The page whose window or table space an address lies in. -/
def pageOfAddr (a : Nat) : Option Nat :=
  if inPages a then some (pageOf a) else if inTables a then some (tablePageOf a) else none

/-- An offset of the page header (R19). -/
def headerWord (a : Nat) : Bool := inPages a && decide ((a - 0x40000000) % 0x4000 < 0x40)

/-- The registers and table words of a page take their Reset values, but for those in `keep`. -/
def resetRegs (p : Nat) (keep : Nat → Bool) (s : State) : State :=
  { s with regs := s.regs.filter (fun c => pageOfAddr c.1 != some p || keep c.1) }

/-- The bits of a word that a WARM reset leaves unchanged (R10). -/
def warmMask (a : Nat) : Nat := match rowAt a with
  | some (r, _) => r.flds.foldl (fun m f => if f.warm then m + (2 ^ f.w - 1) * 2 ^ f.lo else m) 0
  | none => 0

/-- Every level source is sampled: a reset has moved levels. -/
def sampleLevels (s : State) : State := sampleAll ((List.range 640).filter (fun n => !isPulse n)) s

/-! ### What a block does at the stop and at the start of its operation -/

/-- The kinds of start: after COLD, after WARM, after a PAGE reset. -/
inductive Start where
  | cold | warm | page
deriving DecidableEq, Repr

/-- The hidden state of the blocks of a page goes, as at a PAGE reset; the registers follow. -/
def blockStop (p : Nat) (s : State) : State :=
  if 0x08 ≤ p ∧ p ≤ 0x0F then
    (List.range 4).foldl (fun t k =>
      if t.get (AFE_COM_SM_STAT_STATE k) ≠ 0 ∧ (t.recal k).input / 8 + 8 = p then (spareLost k 6 t).fault 0x10 (16 + k) else t) s
  else if 0x20 ≤ p ∧ p ≤ 0x37 then portReset (p - 0x20) s
  else if 0x48 ≤ p ∧ p ≤ 0x4B then targetReset (p - 0x48) (timersSync s)
  else match p with
    | 0x02 => { s with timeBase := {}, tbShadows := [] }
    | 0x04 => { s with lcs := [], lcShadows := [] }
    | 0x10 => hkStop ((List.range 4).foldl (fun t k => spareLost k 8 t) s)
    | 0x14 => { s with wms := [] }
    | 0x15 => { pgsStop s with pgs := [] }
    | 0x1B => anvReset s
    | 0x38 => (List.range 24).foldl (fun t n => ctxIdle n t) s
    | 0x3C => { hardyFReset s with hfShadows := [] }
    | 0x3D => hardyKReset s
    | 0x40 => let s1 := tongsEmpty s; { s1 with tongs := { s1.tongs with errors := [], withdrawn := [] } }
    | 0x41 => tongsEmpty s
    | 0x44 => evcReset false s
    | 0x4C => { imgAbort s with img := {} }
    | 0x50 => { s with host := { tag := s.host.tag, pin := s.host.pin } }
    | 0x51 => ringPortReset 0 s
    | 0x52 => ringPortReset 1 s
    | 0x53 => ringReset s
    | 0x5A => { setStage 0 s with hk := { s.hk with stale := none, tempAt := s.clk.age } }
    | _ => s

/-- The start of a block's operation, in the cycle in which its page becomes READY (R337). -/
def blockStart (k : Start) (p : Nat) (s : State) : State :=
  if 0x48 ≤ p ∧ p ≤ 0x4B then coreStart (p - 0x48) s
  else if 0x20 ≤ p ∧ p ≤ 0x37 then portModeWritten s
  else match p with
    | 0x03 => if k = .cold then cmpsReady s else s
    | 0x10 => refCheck (hkContinuous s)
    | 0x14 => (List.range (nMonitors s.variant)).foldl (fun t n => wmEvaluate n t) s
    | 0x1B => if k = .page then s else admitRestored s
    | 0x1C => (List.range 16).foldl (fun t b => dcsum b t) s
    | 0x38 => if k = .page then s else seqsReady s
    | 0x3C => slotsRestart (s.set HARDYF_STAT_THROTTLED (b2n (decide (2 ≤ s.get THERM_STAT_STAGE))))
    | 0x40 => poolSync s
    | 0x41 => poolSync s
    | 0x44 =>
      let s1 := attnEval (deliverLatches s)
      if s1.pwr.owed then pulse 579 { s1 with pwr := { s1.pwr with owed := false } } else s1
    | 0x4C => imgReady s
    | 0x50 => attnEval (sleepEval s)
    | 0x51 => portBegin 0 s
    | 0x52 => portBegin 1 s
    | 0x5A => { s with hk := { s.hk with tempAt := s.clk.age } }
    | 0x58 => s.set HEARTH_FLAGS_NO_RESTORE (s.get SYS_STRAPS_LEVEL % 2)
    | 0x59 => bboxReady s
    | _ => s

/-! ### The PAGE reset (R9, R22) -/

/-- Words of a page that its PAGE reset leaves as they are: Hearth's status bits and generation, latched straps, the clock and power state,
TRIM, compare values and arming, START_PC (R266), the bank in use, the black box. -/
def pageKeeps (p : Nat) (a : Nat) : Bool :=
  let o := (a - 0x40000000) % 0x4000
  inPages a &&
  (o == 0x08 || o == 0x18 ||
    (match p with
    | 0x00 => o == 0x48
    | 0x01 => o == 0x40 || o == 0x84
    | 0x02 => o == 0x60
    | 0x03 => decide (0x40 ≤ o) && o != 0x48 && o != 0x4C && !(decide (0x100 ≤ o) && o % 0x20 == 0x1C)
    | 0x18 => o == 0x48
    | 0x19 => o == 0x48
    | 0x1A => o == 0x48
    | 0x4C => o == 0x40 || o == 0x5C
    | 0x59 => o == 0x40 || o == 0x4C || o == 0x50
    | _ => decide (0x48 ≤ p) && decide (p ≤ 0x4B) && o == 0x44))

/-- What some PAGE resets show afterwards: sticky clock bits and LOCKED clear, a failed slice, a recalibration that ended, an aborted image
operation, a remote operation that timed out, a commit that was cut, a released black-box view. -/
def pageAfter (p : Nat) (was s : State) : State :=
  match p with
  | 0x00 =>
    let s1 := s.set SYS_HUB_HEAD (was.get SYS_HUB_HEAD)
    if was.on SYS_HUB_NUM_VALID then pulse 558 ((s1.clear SYS_HUB_NUM_VALID).set SYS_HUB_NUMBER 0) else s1
  | 0x01 => ((((s.set BELLOWS_PWR_STAT_RESULT 0).set BELLOWS_PWR_STAT_REQ 0).clear BELLOWS_CLK_STAT_XTAL32_FAIL).clear BELLOWS_CLK_STAT_REF_LOST).clear BELLOWS_CLK_STAT_LOCK_LOST
  | 0x02 => if was.on TB_STAT_LOCKED then pulse 612 s else s
  | 0x10 => (List.range 4).foldl (fun t k =>
      if was.get (AFE_COM_SM_STAT_STATE k) = 0 then t else (t.set (AFE_COM_SM_STAT_RESULT k) 8).fault 0x10 (16 + k)) s
  | 0x18 => sliceFail 0 4 (s.set (ANV_SL_STAT_TEST 0) 0)
  | 0x19 => sliceFail 1 4 (s.set (ANV_SL_STAT_TEST 1) 0)
  | 0x1A => sliceFail 2 4 (s.set (ANV_SL_STAT_TEST 2) 0)
  | 0x4C =>
    let s1 := (s.clear IMG_MAP_TRIAL).clear IMG_MAP_LOAD_VALID
    if was.get IMG_STAT_BUSY = 0 then s1 else s1.set IMG_STAT_RESULT 7
  | 0x50 =>
    let s1 := s.set HOST_STAT_SLEEP (was.get HOST_STAT_SLEEP)
    if was.host.remote.isSome then pulse 545 ((s1.set HOST_REMOTE_STAT_RESULT 5).raise HOST_STAT_REMOTE_DONE) else s1
  | 0x58 =>
    let s1 := preemptCommit s
    let s2 := s1.hearth.queue.foldl (fun t q => t.clear (PG_STAT_BUSY q)) s1
    { s2 with hearth := { credits := s2.hearth.credits, second := s2.hearth.second, pos := s2.hearth.pos } }
  | _ => s

/-- A commit of the page is queued or runs. -/
def commitStands (s : State) (p : Nat) : Bool :=
  s.hearth.queue.contains p || (match s.hearth.running with
    | some c => c.page == p
    | none => false)

/-- PG_CTRL.SOFT_RESET = 1: the whole PAGE reset. A page that has not restored yet stays not READY. -/
def pageReset (p : Nat) (s : State) : State :=
  if !pagePresent s.variant p then s
  else
    let s1 := resetRegs p (pageKeeps p) (blockStop p s)
    let s2 := pageAfter p s { s1 with keys := s1.keys.filter (fun k => k.1 / 8 != p) }
    let s3 := ((s2.clear (PG_STAT_QUIESCED p)).clear (PG_STAT_FENCED p)).set (PG_STAT_BUSY p) (b2n (commitStands s2 p))
    let s4 := if s.ready p then blockStart .page p s3 else s3
    sampleLevels (refCheck s4)

/-! ### WARM and COLD resets (R9, R335, R338) -/

/-- The pages in the order in which they restore (R336). -/
def restoreOrder (v : Variant) : List Nat :=
  ([0x01, 0x58, 0x59, 0x5A, 0x5F] ++ [0x02, 0x03, 0x04, 0x44] ++ [0x40, 0x41, 0x48, 0x49, 0x4A, 0x4B, 0x4C, 0x50]
    ++ (List.range 8).map (fun i => 8 + i) ++ [0x10, 0x11, 0x14, 0x15] ++ (List.range 24).map (fun i => 0x20 + i)
    ++ [0x18, 0x19, 0x1A, 0x1C, 0x38, 0x39, 0x3C, 0x3D] ++ [0x1B, 0x51, 0x52, 0x53]).filter (pagePresent v)

/-- SYS becomes READY and its RESET record is written; the TCMs are cleared and the journal is scanned: the pages may restore (R335). -/
def bringUp (cold : Bool) (s : State) : State :=
  let s1 := (s.clearMem 0x30000000 0x30040000).raise (PG_STAT_READY 0)
  let s2 := bbRecord 0x0002 (s1.get ⟨SYS_RESET_CAUSE_COLD.addr, 0, 6⟩ + b2n cold * 2 ^ 8) s1
  { s2 with pwr := { s2.pwr with held := false }, boot := { todo := restoreOrder s2.variant, warm := !cold } }

/-- What a WARM reset keeps of a word: TB, CMP and BBOX whole but for BBOX's READY; the latched straps and the causes in SYS; the clock
state; the level of HOST_SLEEP; the fields whose Meaning says so; every other field takes its Reset value. -/
def warmWord (a : Nat) (v : Word) : Word :=
  match pageOfAddr a with
  | none => v
  | some p =>
    if p = 0x02 ∨ p = 0x03 then v
    else if p = 0x59 then (if a = (PG_STAT_READY 0x59).addr then 0 else v)
    else if a = SYS_STRAPS_LEVEL.addr ∨ a = SYS_RESET_CAUSE_COLD.addr then v
    else
      let m := warmMask a ||| (if a = SYS_HUB_HEAD.addr then 0x100 else if a = BELLOWS_CLK_STAT_CLKSRC.addr then 0xF8
        else if a = HOST_STAT_SLEEP.addr then 0x80 else 0)
      w32 ((v.toNat &&& m) ||| ((regReset a).toNat &&& (0xFFFFFFFF ^^^ m)))

/-- Every word of the pages through a WARM reset. -/
def warmRegs (s : State) : State := s.regs.foldl (fun t c => t.setWord c.1 (warmWord c.1 c.2)) s

/-- The hub stops for a WARM reset, with one more bit of RESET_CAUSE. What the AON domain, TB, CMP, the black box and Hearth hold stays. -/
def warmReset (cause : Fld) (s : State) : State :=
  let s1 := preemptCommit (imgAbort s)
  let aborted := decide (s.get IMG_STAT_BUSY ≠ 0)
  let s2 : State :=
    { variant := s1.variant, pending := s1.pending, draws := s1.draws, regs := s1.regs, mem := s1.mem, replies := s1.replies,
      tbf := s1.tbf, clk := { s1.clk with lockLost := false }, timeBase := s1.timeBase, tbShadows := s1.tbShadows,
      anchors := s1.anchors, cmps := s1.cmps, bbox := s1.bbox, bbShadows := s1.bbShadows, vaon := s1.vaon, badRefs := s1.badRefs,
      tongs := { nextId := s1.tongs.nextId }, sources := (evcReset true s1).sources, hearth := { pos := s1.hearth.pos, second := s1.tb / 131072000 },
      host := { pin := s1.host.pin }, tap := s1.tap,
      pwr := { held := true, refBack := false } }
  let s3 := (warmRegs s2).raise cause
  if aborted then s3.set IMG_STAT_RESULT 7 else s3

/-- A WARM reset without the pin: the bring-up follows (R338). -/
def warmNow (cause : Fld) (s : State) : State := bringUp false (warmReset cause s)

/-- A COLD reset with the levels of the four straps and of HEAD (R9, R335, R354, R384, R403, R404). Hearth and the image banks keep their
contents, the AON SRAM and the black box are retained. -/
def coldReset (straps : Nat) (head : Bool) (s : State) : State :=
  let s0 := preemptCommit s
  let keep (a : Nat) : Bool := a == BBOX_STAT_FROZEN.addr || a == BBOX_DROPPED_COUNT.addr || a == BBOX_FREEZES_COUNT.addr
  let s1 : State :=
    { variant := s0.variant, pending := s0.pending, draws := s0.draws, regs := s0.regs.filter (fun c => keep c.1),
      mem := s0.mem.filter (fun c => decide (c.1 < 0x20000000) || (decide (0x28000000 ≤ c.1) && decide (c.1 < 0x28010000))),
      bbox := s0.bbox, vaon := s0.vaon, hearth := { pos := s0.hearth.pos }, tongs := {}, host := { pin := s0.host.pin },
      pwr := { owed := s0.pwr.owed } }
  let s2 := (s1.set SYS_STRAPS_LEVEL straps).set SYS_HUB_HEAD (b2n head)
  let s3 := (s2.set SYS_RESET_CAUSE_BROWNOUT (b2n s0.pwr.brown)).set SYS_RESET_CAUSE_THERMAL (b2n s0.pwr.thermal)
  bringUp true s3

/-- RESET_N is sampled low: a WARM reset, but not in OFF-KEEP or while the supplies hold the hub in reset. -/
def resetLow (s : State) : State := if s.pwr.off || s.pwr.brown || s.pwr.held then s else warmReset SYS_RESET_CAUSE_WARM_PIN s

/-- RESET_N rises: the bring-up of a WARM reset; in OFF-KEEP a COLD reset (R354). -/
def resetRises (straps : Nat) (head : Bool) (s : State) : State :=
  if s.pwr.off then coldReset straps head s else if s.pwr.held && !s.pwr.brown then bringUp false s else s

/-- A main rail below its falling threshold: a record, a freeze, and the hub is held in reset (R385, R386, R403). -/
def brownout (rails vaon : Nat) (s : State) : State :=
  if s.pwr.off || s.pwr.brown then s
  else
    let s1 := preemptCommit (bbFreeze 1 (bbRecord 0x0003 (rails % 16 + vaon % 2 ^ 16 * 2 ^ 16) { s with vaon := vaon }))
    let s2 := (List.range 96).foldl (fun t p => t.set (PG_STAT_READY p) 0) (coresLost s1)
    let s3 := (s2.set BELLOWS_CLK_STAT_CLKSRC 3).clear HOST_ATTN_LEVEL
    { s3 with pwr := { s3.pwr with brown := true, held := true, phase := 0 }, boot := {} }

/-- A VAON power-on: the AON SRAM, the black box and the wake latches are cleared (R384, R404). -/
def vaonPowerOn (s : State) : State :=
  let s1 := ((s.clearMem 0x28000000 0x28010000).clearMem 0x11038000 0x11040000).set BBOX_STAT_WR_IDX 0
  let s2 := ((((s1.clear BBOX_STAT_WRAPPED).clear BBOX_STAT_FROZEN).set BBOX_STAT_CAUSE 0).set BBOX_FREEZES_COUNT 0).set BBOX_DROPPED_COUNT 0
  let s3 := (s2.set BBOX_DROPPED_FIRST_CODE 0).set BBOX_STAT_COPY 0
  { s3 with bbox := {}, sources := s3.sources.filterMap (fun c => if c.2.level ∨ c.2.stormTb ≠ 0 then some (c.1, { c.2 with latch := none, set := false }) else none) }

/-! ### The watchdog's last stage (R267) -/

/-- Stage 2 of core `n` has expired. -/
def wdogExpire (n : Nat) (s : State) : State :=
  if !wdogCounts s n || !s.on (CORE_WDOG_COUNT_STAGE2 n) || decide (0 < wdogLeft s n) then s
  else
    let pc := (s.core n).pc.toNat
    let a := s.get (CORE_WDOG_CFG_ACTION n)
    let idle (u : State) : State := u.setCore n { u.core n with wdLeft := 0, wdIdle := true }
    if a = 0 then idle s
    else if a = 2 then
      let s1 := bbRecord 0x0041 (n + 4 + pc * 2 ^ 32) s
      let s2 := if s1.on BBOX_CFG_F_WDOG then bbFreeze 4 s1 else s1
      warmNow SYS_RESET_CAUSE_WDOG s2
    else
      let s1 := ((coreFence n (idle s)).set (CORE_FAULT_PC_PC n) pc).set (CORE_FAULT_CAUSE_CODE n) 0
      let s2 := bbRecord 0x0041 (n + pc * 2 ^ 32) (pulse (596 + n) s1)
      coreReset n 2 (s2.clear (CORE_CTRL_RUN n))

/-! ### Commands -/

/-- `COLD_RESET`: power-on or the return of the supplies, with the strap levels and the level of HEAD. -/
def execColdReset (straps : Nat) (head : Bool) (s : State) : Out := done s (coldReset straps head s)

/-- `WARM_RESET`: RESET_N is held low. -/
def execWarmReset (s : State) : Out := done s (resetLow s)

/-- `RESET_N_RISES`. -/
def execResetRises (straps : Nat) (head : Bool) (s : State) : Out := done s (resetRises straps head s)

/-- `BROWNOUT`: the rails below threshold and VAON in mV. -/
def execBrownout (rails vaon : Nat) (s : State) : Out := done s (brownout rails vaon s)

/-- `VAON_POWER_ON`. -/
def execVaonPowerOn (s : State) : Out := done s (vaonPowerOn s)

/-- `WDOG_EXPIRE`. -/
def execWdogExpire (n : Nat) (s : State) : Out := done s (wdogExpire n s)

end Sys2Proof.Machine
end

