-- ==== Sys2Proof/Machine/Bus.lean ====
section
/-!
DEFINITION. Sys2Proof/Machine/Bus.lean: the address space, the page header, what each word of the pages shows, and the reads of the
seven masters (spec/02_register_pages.md, R16 to R27, R415; R37, R58, R200, R240, R247, R270, R383, R414 for reads that do more).
-/
namespace Sys2Proof.Machine

/-! ### Regions of the address space (R16, R17) -/

/-- Where an address lies. -/
inductive Region where
  | rom | tcm (core : Nat) | img | hearth | pool | bbox | scratch | page | table | unmapped
deriving DecidableEq, Repr

/-- The region of an address as master `m` sees it: the own-TCM alias is mapped only for a core, and the TCMs of absent cores and
unlisted pages are unmapped. -/
def regionOf (v : Variant) (m a : Nat) : Region :=
  if a < 0x8000 then .rom
  else if 0x08000000 ≤ a ∧ a ≤ 0x0800FFFF then (if m < nCores v then .tcm m else .unmapped)
  else if 0x10000000 ≤ a ∧ a ≤ 0x100FFFFF then .img
  else if 0x11000000 ≤ a ∧ a ≤ 0x1103FFFF then .hearth
  else if 0x20000000 ≤ a ∧ a ≤ 0x201FFFFF then .pool
  else if 0x28000000 ≤ a ∧ a ≤ 0x28007FFF then .bbox
  else if 0x28008000 ≤ a ∧ a ≤ 0x2800FFFF then .scratch
  else if 0x30000000 ≤ a ∧ a < 0x30000000 + nCores v * 0x10000 then .tcm ((a - 0x30000000) / 0x10000)
  else if inPages a then (if pageListed (pageOf a) then .page else .unmapped)
  else if inTables a then (if pageListed (tablePageOf a) then .table else .unmapped)
  else .unmapped

/-- Regions of 32-bit accesses only. -/
def wordOnly : Region → Bool
  | .hearth => true
  | .pool => true
  | .bbox => true
  | .page => true
  | .table => true
  | _ => false

/-- The place in memory that an address of a memory region reaches. -/
def physOf (s : State) (m a : Nat) : Nat :=
  if 0x08000000 ≤ a ∧ a ≤ 0x0800FFFF then 0x30000000 + m * 0x10000 + (a - 0x08000000)
  else if 0x10000000 ≤ a ∧ a ≤ 0x100FFFFF then imgPhys s a
  else a

/-- A bus error is recorded unless one stands (R27). -/
def busError (m a kind : Nat) (wr : Bool) (s : State) : State :=
  if s.on SYS_BUS_ERR_INFO_VALID then s
  else ((((s.set SYS_BUS_ERR_ADDR_ADDR a).raise SYS_BUS_ERR_INFO_VALID).set SYS_BUS_ERR_INFO_WRITE (b2n wr)).set
    SYS_BUS_ERR_INFO_KIND kind).set SYS_BUS_ERR_INFO_MASTER m

/-- The BUS runs and the hub is not held in reset: masters' accesses are served. -/
def busLive (s : State) : Bool := !s.busStopped && !s.pwr.held && !s.pwr.off

/-! ### The header (R18, R22, R417) -/

/-- CLASS and INSTANCE of R18. -/
def pageClass (p : Nat) : Nat × Nat :=
  if 0x08 ≤ p ∧ p ≤ 0x0F then (0x08, p - 0x08)
  else if 0x18 ≤ p ∧ p ≤ 0x1A then (0x10, p - 0x18)
  else if 0x20 ≤ p ∧ p ≤ 0x37 then (0x18, p - 0x20)
  else if 0x48 ≤ p ∧ p ≤ 0x4B then (0x28, p - 0x48)
  else match p with
    | 0x00 => (0x01, 0) | 0x01 => (0x02, 0) | 0x02 => (0x03, 0) | 0x03 => (0x04, 0) | 0x04 => (0x05, 0)
    | 0x10 => (0x09, 0) | 0x11 => (0x0A, 0) | 0x14 => (0x0C, 0) | 0x15 => (0x0D, 0)
    | 0x1B => (0x11, 0) | 0x1C => (0x12, 0) | 0x38 => (0x19, 0) | 0x39 => (0x1A, 0)
    | 0x3C => (0x1C, 0) | 0x3D => (0x1D, 0) | 0x40 => (0x20, 0) | 0x41 => (0x21, 0) | 0x44 => (0x24, 0)
    | 0x4C => (0x29, 0) | 0x50 => (0x2C, 0) | 0x51 => (0x2D, 0) | 0x52 => (0x2D, 1) | 0x53 => (0x2E, 0)
    | 0x58 => (0x30, 0) | 0x59 => (0x31, 0) | 0x5A => (0x32, 0) | _ => (0x3F, 0)

/-- The page has table space (R18). -/
def hasTable (p : Nat) : Bool := p == 0x59 || !(tableRows p).isEmpty

/-- PG_CAPS.INSTANCES. -/
def pageInstances (v : Variant) (p : Nat) : Nat :=
  if 0x08 ≤ p ∧ p ≤ 0x0F then 8
  else match p with
    | 0x03 => 64 | 0x04 => 16 | 0x10 => nSpares v | 0x11 => nPdmPins v | 0x14 => nMonitors v | 0x15 => nMonitors v
    | 0x1B => nChannels v | 0x1C => 16 | 0x38 => nPorts v | 0x39 => nPorts v | 0x3C => 512 | 0x3D => 4096
    | 0x41 => 512 | 0x44 => 640 | 0x4C => 2 | 0x5A => 3 | _ => 1

/-- PG_CAPS.BLOCK. -/
def pageBlock (v : Variant) (p : Nat) : Nat :=
  if 0x20 ≤ p ∧ p ≤ 0x27 then 3
  else match p with
    | 0x02 => if hasRing v then 3 else 1
    | 0x10 => 1
    | 0x1B => b2n (hasSpareSlice v)
    | 0x44 => if nCores v = 4 then 0x1F else 0x13
    | _ => 0

/-- Pages whose PG_CTRL.ENABLE reads 1 and ignores writes. -/
def fixedEnable (p : Nat) : Bool :=
  p == 0x00 || p == 0x02 || p == 0x03 || p == 0x1B || p == 0x1C || p == 0x40 || p == 0x41
  || (decide (0x50 ≤ p) && decide (p ≤ 0x53)) || p == 0x58 || p == 0x59 || p == 0x5A

/-- Pages whose PG_CTRL.HALT_FREEZE reads 0 and ignores writes. -/
def noFreeze (p : Nat) : Bool :=
  p == 0x00 || (decide (0x02 ≤ p) && decide (p ≤ 0x04)) || (decide (0x18 ≤ p) && decide (p ≤ 0x1C)) || p == 0x3C || p == 0x3D
  || p == 0x40 || p == 0x41 || p == 0x44 || (decide (0x50 ≤ p) && decide (p ≤ 0x53)) || (decide (0x58 ≤ p) && decide (p ≤ 0x5A))

/-- A word of a present page's header. -/
def headerRead (s : State) (p o : Nat) : Word :=
  match o with
  | 0x00 => w32 ((pageClass p).1 * 2 ^ 24 + (pageClass p).2 * 2 ^ 16 + 0x0100)
  | 0x04 => w32 (2 ^ 31 + b2n (hasTable p) * 2 ^ 30 + b2n (hasKept p) * 2 ^ 29 + pageInstances s.variant p * 2 ^ 16 + pageBlock s.variant p)
  | 0x08 =>
    let w := (s.word (pageBase p + 0x08)).toNat
    let slice := decide (0x18 ≤ p) && decide (p ≤ 0x1A)
    let w1 := putBits w 2 1 (b2n (s.pageFault p))
    let w2 := if slice then putBits (putBits w1 7 1 (b2n (sliceRole s (p - 0x18) == 1))) 6 1 (b2n (sliceRole s (p - 0x18) == 2)) else w1
    w32 w2
  | 0x0C => s.word (pageBase p + 0x0C)
  | 0x10 => s.word (pageBase p + 0x10)
  | 0x14 => s.word (pageBase p + 0x14)
  | 0x18 => s.word (pageBase p + 0x18)
  | _ => 0

/-! ### Absent instances (R3) -/

/-- The bits of a word that exist in a variant: 0 for the words of an absent instance. -/
def presentMask (v : Variant) (a : Nat) : Nat :=
  let all := 0xFFFFFFFF
  if inPages a then
    let p := pageOf a
    let o := (a - 0x40000000) % 0x4000
    let i := (o - 0x100) / 0x20
    match p with
    | 0x10 => if 0x100 ≤ o ∧ nSpares v ≤ i then 0 else all
    | 0x11 => if o = 0x40 then 0x11 * (2 ^ (nPdmPins v / 4) - 1) else if o = 0x44 ∨ o = 0x50 then 2 ^ (2 * nPdmPins v) - 1 else if o = 0x48 then 2 ^ nPdmPins v - 1 else all
    | 0x14 => if 0x100 ≤ o then (if nMonitors v ≤ i then 0 else all) else if 0x40 ≤ o then 2 ^ nMonitors v - 1 else all
    | 0x15 => if 0x100 ≤ o then (if nMonitors v ≤ i then 0 else all) else if 0x40 ≤ o then 2 ^ nMonitors v - 1 else all
    | 0x1B => if 0x80 + nChannels v / 8 ≤ o ∧ o < 0xA0 then 0 else all
    | 0x38 => if 0x100 ≤ o then (if nPorts v ≤ i then 0 else all) else if 0x40 ≤ o ∧ o ≤ 0x48 then 2 ^ nPorts v - 1 else all
    | 0x40 => if 0x100 ≤ o ∧ o < 0x1A0 ∧ i ≠ 4 ∧ nCores v ≤ i then 0 else all
    | 0x44 => if o = 0x180 then 0 else if o = 0x40 ∧ nCores v < 4 then 0xF00FF else if 0x100 ≤ o ∧ i ≠ 4 ∧ nCores v ≤ i then 0 else all
    | 0x5F => if o = 0x44 ∨ o = 0x48 then 2 ^ nCores v - 1 else all
    | _ => all
  else if inTables a then
    let o := (a - 0x50000000) % 0x100000
    match tablePageOf a with
    | 0x1B => if (if o < 0x4000 then o / 0x40 else (o - 0x4000) / 0x20) < nChannels v then all else 0
    | 0x39 => if o / 0x400 < nPorts v then all else 0
    | 0x44 => if o % 0x10 = 0 ∧ nCores v < 4 then 0xFFFFFFF3 else all
    | _ => all
  else all

/-! ### What a word shows (R6, and the chapters' read-only quantities) -/

/-- A word with one field replaced. -/
def overlay (w : Nat) (f : Fld) (v : Nat) : Nat := putBits w f.lo f.w v

/-- IN_STAT of input `n` (R66, R84). -/
def inStat (s : State) (n : Nat) : Nat :=
  let g := n / 8
  let i := n % 8
  let rc := inputRecal s n
  let bound := boundChans s 1 n
  let chop := s.on (AFE_IN_CFG_CHOP g i) && bound.any (fun c =>
    (chCfg s c).cicEn && (chCfg s c).ratio % (64 * 2 ^ s.get (AFE_IN_CFG_CHOP_DIV g i)) != 0)
  b2n (inputRuns s n) + 2 * b2n (!bound.isEmpty) + 4 * b2n chop + 8 * b2n rc.isSome
    + 16 * b2n ((rc.map (fun k => (s.recal k).delivering)).getD false)

/-- CH_STAT.LOCKIN_RATIO (R113). -/
def lockinRatio (s : State) (c : Nat) : Bool :=
  s.on (SCHED_CH0_EN c) && s.on (SCHED_CH0_LOCKIN c) && (chCfg s c).cicEn && (chCfg s c).oneBit &&
    ((chCfg s c).ratio * tapCycles s (chCfg s c)) % (20 * pgPeriod s (s.get (SCHED_CH0_LOCKIN_PG c))) != 0

/-- Erase counts of the journal segments. -/
def eraseCounts (s : State) : List Nat := (List.range 56).map (fun k => segWord s k 1)

/-- A number made of 32 bits, the lowest first. -/
def bitsOf (f : Nat → Bool) : Nat := ((List.range 32).map (fun b => b2n (f b) * 2 ^ b)).sum

/-- The word at offset `o` of page `p` (0x040 and above) whose stored word is `w`, with its live fields. -/
def livePage (s : State) (p o w : Nat) : Nat :=
  if 0x08 ≤ p ∧ p ≤ 0x0F then
    if 0x100 ≤ o ∧ (o - 0x100) % 0x20 = 4 then inStat s (8 * (p - 8) + (o - 0x100) / 0x20) else w
  else if 0x18 ≤ p ∧ p ≤ 0x1A then
    if o = 0x44 then (s.chans.filter (fun c => chActive s c.1 && decide (chState s c.1 ≤ 3) && s.get (SCHED_CH8_ON_SLICE c.1) == p - 0x18)).length
    else w
  else if 0x20 ≤ p ∧ p ≤ 0x37 then
    let n := p - 0x20
    if o = 0x74 then
      rxLevel s n * 2 ^ 16 + txLevel s n * 2 ^ 8 + b2n (s.pumpOk && sdiDirect s n) * 2 ^ 7 + b2n (watchPaused s n) * 2 ^ 6
        + b2n (s.port n).auto.isSome * 2 ^ 5 + b2n (portActive s n) * 2 ^ 4 + b2n (portDriving s n) * 2 ^ 3
    else w
  else if 0x48 ≤ p ∧ p ≤ 0x4B then
    if o = 0x60 then overlay w (CORE_WDOG_COUNT_TICKS (p - 0x48)) (wdogLeft s (p - 0x48)) else w
  else match p with
    | 0x00 =>
      if o = 0x40 then overlay w SYS_CHIP_STEP Config.siliconStep.toNat
      else if 0x60 ≤ o ∧ o ≤ 0x68 then bitsOf (fun b => pagePresent s.variant (8 * (o - 0x60) + b) && s.ready (8 * (o - 0x60) + b))
      else w
    | 0x02 => if o = 0x40 then s.tb else w
    | 0x04 => if 0x100 ≤ o ∧ (o - 0x100) % 0x20 = 0x18 then
        overlay w (LC_STAT_RUNNING ((o - 0x100) / 0x20)) (b2n (lcRunning s (lcBase s ((o - 0x100) / 0x20)))) else w
    | 0x14 => if o = 0x44 then bitsOf (fun b => decide (b < 16) && sourceLevel s (80 + b)) else w
    | 0x15 => if 0x100 ≤ o ∧ (o - 0x100) % 0x20 = 0x1C then dutySum s ((o - 0x100) / 0x20) else w
    | 0x1B =>
      if o = 0x40 then sliceLoad s 0 else if o = 0x44 then sliceLoad s 1
      else if o = 0x48 then (watchSet s).length * 2 ^ 27 + watchLoad s
      else if o = 0x50 then (s.chans.filter (fun c => chState s c.1 == 4)).length
      else w
    | 0x1C => if o = 0x80 then bitsOf (fun b => decide (b < 16) && bankInUse s b) else w
    | 0x38 => if o = 0x48 then seqRunning s else w
    | 0x3D =>
      if o = 0x6C then
        let r := s.get HARDYK_PROBE_RULE
        b2n (s.rule r).armed * 2 ^ 31 + b2n (s.rule r).holding * 2 ^ 30 + (s.rule r).fires * 2 ^ 16 + r
      else if o = 0x74 then burstsActive s else w
    | 0x41 => if 0x40 ≤ o ∧ o < 0x80 then bitsOf (fun b => noticing s (8 * (o - 0x40) + b)) else w
    | 0x44 => if o = 0x4C then overlay w EVC_WAKE_STAT_WAKE_PENDING (b2n (wakePending s)) else w
    | 0x4C =>
      if o = 0x4C then overlay w IMG_STAT_LOAD_FREE (64 - s.img.staged.length)
      else if o = 0x64 then (if s.on IMG_MAP_TRIAL then ceilDiv (trialLeft s) 131072000 else 0) else w
    | 0x50 =>
      if o = 0x44 then overlay w HOST_STAT_REMOTE_BUSY (b2n s.host.remote.isSome)
      else if o = 0x5C then overlay w HOST_REMOTE_STAT_BUSY (b2n s.host.remote.isSome) else w
    | 0x53 =>
      if o = 0x40 then ownUid else if o = 0x44 then ownUid / 2 ^ 32
      else if o = 0x48 then overlay w RING_STAT_TLOCK (b2n (s.on RING_STAT_TLOCK || ringRole s == 1)) else w
    | 0x58 =>
      if o = 0x40 then (s.hearth.queue.length + b2n s.hearth.running.isSome) * 2 ^ 24 + freeWords s
      else if o = 0x4C then (eraseCounts s).foldl min 0xFFFFFFFF else if o = 0x50 then (eraseCounts s).foldl max 0
      else if o = 0x68 then
        let q := s.get HEARTH_IMG_SEL_PAGE
        if pagePresent s.variant q then creditsOf s q * 2 ^ 16 + (imageWords q).length else 0
      else w
    | 0x5F => if o = 0x48 then bitsOf (fun b => decide (b < nCores s.variant) && coreState s b == 3) else w
    | _ => w

/-- The same for a table word. -/
def liveTable (s : State) (p o w : Nat) : Nat :=
  match p with
  | 0x1C => ux 32 (sx 24 w)
  | 0x1B => if o < 0x4000 ∧ o % 0x40 = 0x20 then overlay w (SCHED_CH8_LOCKIN_RATIO (o / 0x40)) (b2n (lockinRatio s (o / 0x40))) else w
  | 0x44 =>
    if o % 0x10 = 4 then
      let n := o / 0x10
      overlay (overlay (overlay w (EVC_SRC1_KIND n) (b2n (isPulse n && sourcePresent s.variant n))) (EVC_SRC1_RAW n) (b2n (sourceLevel s n)))
        (EVC_SRC1_LATCHED n) (b2n ((s.source n).set || (s.source n).latch.isSome))
    else w
  | _ => w

/-- What the word at a direct-view address of a present page shows, before the reads that do more; where no register is defined, 0 (R19). -/
def liveWord (s : State) (a : Nat) : Nat :=
  match sharedWord s a, rowAt a with
  | some v, _ => v
  | none, none => 0
  | none, some _ =>
    let w := (s.word a).toNat
    (if inTables a then liveTable s (tablePageOf a) ((a - 0x50000000) % 0x100000) w
     else livePage s (pageOf a) ((a - 0x40000000) % 0x4000) w) &&& presentMask s.variant a

/-! ### Free quantities (DESIGN CHOICE, log entry 6) -/

/-- A direct read of a utilisation word: NOW is open; PEAK is the highest value since the last read, at least the one it restarted from and
NOW, and restarts from NOW (R414). -/
def utilRead (a : Nat) (s : State) : Nat × State :=
  let (n, s1) := s.draw
  let (k, s2) := s1.draw
  let now := n % 2 ^ 16
  (max (max (s.get ⟨a, 16, 16⟩) now) (k % 2 ^ 16) * 2 ^ 16 + now, s2.set ⟨a, 16, 16⟩ now)

/-- Words of utilisation (R120, R188, R209, R333). -/
def isUtil (a : Nat) : Bool :=
  let o := (a - 0x40000000) % 0x4000
  let p := pageOf a
  inPages a && ((decide (0x18 ≤ p ∧ p ≤ 0x1A) && o == 0x40) || (p == 0x3C && (o == 0x48 || o == 0x4C)) || (p == 0x3D && o == 0x70)
    || ((p == 0x51 || p == 0x52) && o == 0x60))

/-! ### Control registers of a core (R258) -/

/-- The CORE cycles that passed since CYCLE was last read, an amount the manual leaves open (R289 counts cycles without contention; DESIGN CHOICE, log
entry 29), come to the count. -/
def cyclesPass (n : Nat) (s : State) : State :=
  let (d, s1) := s.draw
  s1.setCore n { s1.core n with cycle := ((s1.core n).cycle + d) % 2 ^ 64 }

/-- A read of control register `k` of core `n`. The high word of CYCLE is latched by a read of the low word. -/
def ctlRead (n k : Nat) (s : State) : Word × State :=
  let x := s.core n
  match k with
  | 0 => (x.status, s)
  | 1 => (x.epc, s)
  | 2 => (x.estatus, s)
  | 3 => (x.ecause, s)
  | 4 => (x.eaddr, s)
  | 5 => (x.vbase, s)
  | 6 => (x.scratch, s)
  | 7 => (w32 n, s)
  | 8 =>
    let s1 := cyclesPass n s
    let c := (s1.core n).cycle
    (w32 c, s1.setCore n { s1.core n with cycleHi := some (w32 (c / 2 ^ 32)) })
  | 9 => match x.cycleHi with
    | some h => (h, s.setCore n { x with cycleHi := none })
    | none =>
      let s1 := cyclesPass n s
      (w32 ((s1.core n).cycle / 2 ^ 32), s1)
  | _ => (0, s)

/-- A write of control register `k` of core `n`. -/
def ctlWrite (n k : Nat) (v : Word) (s : State) : State :=
  let x := s.core n
  match k with
  | 0 => s.setCore n { x with status := v &&& statusMask }
  | 1 => s.setCore n { x with epc := v }
  | 2 => s.setCore n { x with estatus := v &&& statusMask }
  | 5 => s.setCore n { x with vbase := v &&& 0xFFFFFF00 }
  | 6 => s.setCore n { x with scratch := v }
  | _ => s

/-- A read of DBG.REG_DATA (R270). -/
def regDataRead (s : State) : Word × State :=
  let n := s.get DBG_REG_SEL_CORE
  let i := s.get DBG_REG_SEL_INDEX
  if coreState s n ≠ 3 ∨ nCores s.variant ≤ n then (0, s.fault 0x5F 0)
  else match s.get DBG_REG_SEL_KIND with
    | 1 => ((s.core n).pc, s)
    | 2 => ctlRead n i s
    | _ => (s.reg n i, s)

/-- A write of DBG.REG_DATA. -/
def regDataWrite (v : Word) (s : State) : State :=
  let n := s.get DBG_REG_SEL_CORE
  let i := s.get DBG_REG_SEL_INDEX
  if coreState s n ≠ 3 ∨ nCores s.variant ≤ n then s.fault 0x5F 0
  else match s.get DBG_REG_SEL_KIND with
    | 1 => s.setCore n { s.core n with pc := v, vec := none }
    | 2 => ctlWrite n i v s
    | _ => s.setReg n i v

/-! ### Reads that do more than show a word -/

def State.tbShadow (s : State) (m : Nat) : TbShadow := SMap.get (fun _ => {}) s.tbShadows m
def State.setTbShadow (s : State) (m : Nat) (x : TbShadow) : State := { s with tbShadows := SMap.put (fun _ => {}) s.tbShadows m x }

/-- Any access of master `m` to the TB page but the reads below: the pairs are no longer fresh (R37). -/
def tbTouched (m : Nat) (s : State) : State := s.setTbShadow m { s.tbShadow m with nowFresh := false, capFresh := false }

/-- A direct read of a word of the TB page (R37, R39). -/
def tbRead (m o : Nat) (v : Nat) (s : State) : Nat × State :=
  let x := s.tbShadow m
  match o with
  | 0x40 => (s.tb % 2 ^ 32, s.setTbShadow m { x with hi := w32 (s.tb / 2 ^ 32), frac := w32 s.frac, nowFresh := true, capFresh := false })
  | 0x44 => if x.nowFresh then (x.hi.toNat, tbTouched m s) else (s.tb / 2 ^ 32, tbTouched m (s.raise TB_STAT_TORN_RISK))
  | 0x48 => (x.frac.toNat, tbTouched m s)
  | 0x74 => (v, (s.clear TB_PPS_STAT_FULL).setTbShadow m
      { x with capHi := s.word TB_PPS_CAP_HI_TB.addr, capFresh := true, nowFresh := false })
  | 0x78 => if x.capFresh then (x.capHi.toNat, tbTouched m s) else (v, tbTouched m (s.raise TB_STAT_TORN_RISK))
  | _ => (v, tbTouched m s)

/-- A read through a slot's shadow (R200, R383): `i` is the word's number in slot `n`, the words from `first` on are latched by a
read of the word before them, `torn` is what a live read of one of them does. -/
def shadowRead (x : SlotShadow) (n i first last : Nat) (word : Nat → Nat) (torn : State → State) (put : SlotShadow → State → State) (s : State) :
    Nat × State :=
  if i + 1 = first then
    (word i, put { slot := some n, words := (List.range (last + 1 - first)).map (fun j => w32 (word (first + j))) } s)
  else if first ≤ i ∧ i ≤ last then
    (if x.slot = some n then ((x.words.getD (i - first) 0).toNat, s) else (word i, torn (put {} s)))
  else (word i, put {} s)

def putHf (m : Nat) (x : SlotShadow) (s : State) : State := { s with hfShadows := SMap.put (fun _ => {}) s.hfShadows m x }
def putBb (m : Nat) (x : SlotShadow) (s : State) : State := { s with bbShadows := SMap.put (fun _ => {}) s.bbShadows m x }

/-- A read of word `i` of a feature slot by master `m`. -/
def hfRead (m n i : Nat) (s : State) : Nat × State :=
  shadowRead (SMap.get (fun _ => {}) s.hfShadows m) n i 9 15 (fun j => (s.word ((HARDYF_SLOT0_EN n).addr + 4 * j)).toNat)
    (fun t => t.raise HARDYF_STAT_TORN_RISK) (putHf m) s

/-- A read of word `i` of black-box slot `n`; slots 2,048 to 4,095 stand for the records of the copy. -/
def bbRead (m n i : Nat) (s : State) : Nat × State :=
  let a := if n < 2048 then 0x28000000 + 16 * n else 0x11038000 + 16 * (n - 2048)
  shadowRead (SMap.get (fun _ => {}) s.bbShadows m) n i 1 3 (fun j => s.memWord (a + 4 * j)) (fun t => t) (putBb m) s

/-- Master `m` may take records of target `t` (R247). -/
def takeAllowed (m t : Nat) : Bool := m == t || m == 6

/-- The present value of what a tracking field follows (R414). -/
def trackNow (s : State) (a : Nat) : Nat :=
  if a = TONGS_POOL_MIN_MIN.addr then freeCount s
  else if a = THERM_PEAK_TEMP.addr then (s.word THERM_THOT_TEMP.addr).toNat
  else 0

/-- The RC fields of a word after a direct read: cleared, or restarted (R6, R414). -/
def readClears (a : Nat) (s : State) : State :=
  match rowAt a with
  | none => s
  | some (r, _) => r.flds.foldl (fun t f =>
      if f.acc == Acc.rc then t.set ⟨a, f.lo, f.w⟩ (if f.track then trackNow t a else 0) else t) s

/-- What a read of RD_DATA answers; the host's first delivery of an EOP of its record queue is a take (R247). -/
def portTake (m : Nat) (r : ReadOut × State) : Nat × State :=
  (r.1.word, match r.1.evc with
    | some e => if m = 4 then takeHost e.1 e.2 r.2 else r.2
    | none => r.2)

/-- An access of master `m` to page `p` breaks its fresh pairs in TB and LC (R37, R58). -/
def pageTouched (p m : Nat) (s : State) : State :=
  if p = 0x02 then tbTouched m s else if p = 0x04 then s.setLcShadow m {} else s

/-- A direct read of a register, at or above 0x040, of a present and READY page by master `m`; `x` is what the memories present. -/
def regRead (m a : Nat) (x : Sense) (s : State) : Nat × State :=
  let p := pageOf a
  let o := (a - 0x40000000) % 0x4000
  let v := liveWord s a
  let i := (o - 0x100) / 0x20
  if (rowAt a).isNone then (v, pageTouched p m s)
  else if isUtil a then utilRead a s
  else if 0x20 ≤ p ∧ p ≤ 0x37 ∧ o = 0x74 then
    (let (d, s1) := s.draw
     (v + pinLevels s1 (p - 0x20) d, s1))
  else match p with
    | 0x02 => tbRead m o v s
    | 0x04 =>
      if 0x100 ≤ o ∧ (o - 0x100) % 0x20 = 0x0C then (let (w, s1) := lcRead false m i s; (w.toNat, s1))
      else if 0x100 ≤ o ∧ (o - 0x100) % 0x20 = 0x14 then (let (w, s1) := lcRead true m i s; (w.toNat, s1))
      else (v, readClears a (s.setLcShadow m {}))
    | 0x1B => if o = 0x7C then
        (let (d, s1) := s.draw
         (overlay v SCHED_AUDIT_STAT_ROUND_MS d, readClears a s1))
      else (v, readClears a s)
    | 0x40 =>
      if 0x100 ≤ o ∧ o < 0x1A0 then
        if i ≠ m then (0, s)
        else if o % 0x20 = 0x04 then portTake m (portRead m x.up s)
        else (v, s)
      else (v, readClears a s)
    | 0x44 =>
      if 0x100 ≤ o ∧ o < 0x180 ∧ o % 0x20 = 8 then
        if !decide (i < nCores s.variant) then (0, s)
        else if takeAllowed m i then takeCore i x.par s else (0, s.fault 0x44 6)
      else (v, s)
    | 0x5F => if o = 0x54 then (let (w, s1) := regDataRead s; (w.toNat, s1)) else (v, s)
    | _ => (v, readClears a s)

/-- A direct read of a table word of a present and READY page. -/
def tableRead (m a : Nat) (s : State) : Nat × State :=
  let p := tablePageOf a
  let o := (a - 0x50000000) % 0x100000
  match p with
  | 0x3C => hfRead m (o / 0x40) (o % 0x40 / 4) s
  | 0x59 => bbRead m (o / 16 + (if s.on BBOX_CFG_VIEW then 2048 else 0)) (o % 16 / 4) s
  | _ => (liveWord s a, readClears a s)

/-! ### The unlock sequence (R23) -/

def State.key (s : State) (p m : Nat) : Key := SMap.get (fun _ => .idle) s.keys (8 * p + m)
def State.setKey (s : State) (p m : Nat) (k : Key) : State := { s with keys := SMap.put (fun _ => .idle) s.keys (8 * p + m) k }

/-- The first word of a sequence was the last access. -/
def Key.waits : Key → Bool
  | .first => true
  | .unlockedFirst => true
  | _ => false

/-- The page admits a write. -/
def Key.opens : Key → Bool
  | .unlocked => true
  | .unlockedFirst => true
  | _ => false

/-- The sequence that waits for its second word ends; an unlock that stands goes on. -/
def Key.broken (k : Key) : Key := if k.opens then .unlocked else .idle

/-- The first word has come. -/
def Key.begun (k : Key) : Key := if k.opens then .unlockedFirst else .first

/-- The unlock ends. -/
def Key.shut (k : Key) : Key := if k.waits then .first else .idle

/-- An access of master `m` to page `p` that is no second key word: between the two words it breaks the sequence (R23). An access that ends
with BUS_ERROR reaches no page and breaks none (DEDUCED, log entry 12). -/
def keyAccess (p m : Nat) (s : State) : State :=
  if (s.key p m).waits then pageFaulted p 29 (s.setKey p m (s.key p m).broken) else s

/-- A write of `v` to PG_KEY (R23). A first word again is an access between the two words and begins anew; an unlock that stands is ended by no
write of PG_KEY (DEDUCED, log entry 12). -/
def keyWrite (p m v : Nat) (s : State) : State :=
  if v = 0x4B450000 + p then (let t := keyAccess p m s; t.setKey p m (t.key p m).begun)
  else if v = 0xB4BA0000 + p ∧ (s.key p m).waits then s.setKey p m .unlocked
  else pageFaulted p 29 (s.setKey p m (s.key p m).broken)

/-! ### One read on the bus -/

/-- The bytes of a table window that the unit has. -/
def tableExtent (p : Nat) : Nat := if p = 0x59 then 0x8000 else rowsEnd (tableRows p)

/-- A read's answer. -/
def answer (r : Resp) (v : Nat) (s : State) : Reply × State := ({ resp := r, data := w32 v }, s)

/-- An aligned word read of a listed page's window. -/
def pageRead (m a : Nat) (x : Sense) (s : State) : Reply × State :=
  let p := pageOf a
  let view := (a - 0x40000000) % 0x4000 / 0x1000
  let d := a - view * 0x1000
  if view = 3 then answer .busError 0 (busError m a 3 false s)
  else if !pagePresent s.variant p then answer .ok 0 s
  else
    let s1 := keyAccess p m s
    if headerWord d then
      answer .ok (headerRead s1 p ((d - 0x40000000) % 0x4000)).toNat
        (if view ≠ 0 then s1 else pageTouched p m s1)
    else if !s1.ready p then answer .notReady 0 s1
    else
      let r := regRead m d x s1
      answer .ok r.1 (if view = 0 then r.2 else s1)

/-- An aligned word read of a listed page's table window. -/
def tableSpaceRead (m a : Nat) (s : State) : Reply × State :=
  let p := tablePageOf a
  if !pagePresent s.variant p then answer .ok 0 s
  else if tableExtent p ≤ (a - 0x50000000) % 0x100000 then answer .busError 0 (busError m a 4 false s)
  else
    let s1 := keyAccess p m s
    if !s1.ready p then answer .notReady 0 s1
    else
      let r := tableRead m a s1
      answer .ok r.1 r.2

/-- A read of `n` bytes by master `m` (R26); `x` is what a TCM and the pool present. -/
def busRead (m a n : Nat) (x : Sense) (s : State) : Reply × State :=
  match regionOf s.variant m a with
  | .unmapped => answer .busError 0 (busError m a 0 false s)
  | r =>
    if a % n ≠ 0 ∨ (wordOnly r ∧ n ≠ 4) then answer .busError 0 (busError m a 1 false s)
    else match r with
      | .page => pageRead m a x s
      | .table => tableSpaceRead m a s
      | .bbox =>
        let r := bbRead m ((a - 0x28000000) / 16) (a % 16 / 4) s
        answer .ok r.1 r.2
      | .tcm c => answer .ok (s.load (physOf s m a) n) (if x.par && c != m then s.fault (0x48 + c) 3 else s)
      | _ => answer .ok (s.load (physOf s m a) n) s

end Sys2Proof.Machine
end

