-- ==== Sys2Proof/Machine/BusWrite.lean ====
section
/-!
DEFINITION. Sys2Proof/Machine/BusWrite.lean: writes on the bus: access codes and aliases (R6, R20), locks (R24, R378), what a write of
each register starts, and the response (R26, R27).
-/
namespace Sys2Proof.Machine

/-! ### Access codes and aliases (R6, R20) -/

/-- The three views that take writes. -/
inductive View where
  | direct | setAlias | clearAlias
deriving DecidableEq, Repr

/-- A write that has reached a register: the master, the direct-view address, the word before and after in its RW, W1C and W1S fields,
the bits written 1 to WO fields and to W1C fields, whether the view writes WO fields at all, the bits written 1 to RW fields, and whether it used an
unlock. -/
structure Wr where
  m : Nat
  a : Nat
  old : Nat
  new : Nat
  wo : Nat
  w1c : Nat
  acts : Bool
  ones : Nat := 0
  keyed : Bool := false

/-- The mask of a field. -/
def fmask (f : FRow) : Nat := (2 ^ f.w - 1) * 2 ^ f.lo

/-- The mask of the fields of a row with one access code. -/
def accMask (fs : List FRow) (c : Acc) : Nat := fs.foldl (fun n f => if f.acc == c then n + fmask f else n) 0

/-- `n` without the bits of `k`. -/
def without (n k : Nat) : Nat := n - (n &&& k)

/-- A write of `v` through a view: its effect on the fields of the word before locks. -/
def fieldWrite (fs : List FRow) (view : View) (m a old v : Nat) : Wr :=
  let rw := accMask fs .rw
  let w1c := accMask fs .w1c
  let w1s := accMask fs .w1s
  let wo := accMask fs .wo
  match view with
  | .direct =>
    { m := m, a := a, old := old, new := without (without old rw + (v &&& rw)) (v &&& w1c) ||| (v &&& w1s), wo := v &&& wo, w1c := v &&& w1c,
      acts := true, ones := v &&& rw }
  | .setAlias => { m := m, a := a, old := old, new := old ||| (v &&& (rw + w1s)), wo := v &&& wo, w1c := 0, acts := v &&& wo != 0, ones := v &&& rw }
  | .clearAlias => { m := m, a := a, old := old, new := without old (v &&& (rw + w1c)), wo := 0, w1c := v &&& w1c, acts := false }

/-! ### Locks (R24, R378) -/

/-- SRC as it acts: 3 acts as 0, and 2 does so on TSZ-256L. -/
def srcActs (v : Variant) (src : Nat) : Nat := if src = 3 ∨ (src = 2 ∧ !hasRing v) then 0 else src

/-- The locked bits of a register, in the state the write meets: those PG_KEY admits a write to, and those it does not. -/
def lockPage (s : State) (p o new : Nat) : Nat × Nat :=
  let all := 0xFFFFFFFF
  let i := (o - 0x100) / 0x20
  let k := (o - 0x100) % 0x20
  let bank := decide (0x100 ≤ o)
  if 0x08 ≤ p ∧ p ≤ 0x0F then
    let n := 8 * (p - 8) + i
    if bank && k == 0 && !(boundChans s 1 n).isEmpty then (0x1FFC, 0)
    else if bank && (k == 8 || k == 0xC) && (inputRecal s n).isSome then (0, all) else (0, 0)
  else if 0x18 ≤ p ∧ p ≤ 0x1A then (if o = 0x4C then 6 else 0, 0)
  else if 0x20 ≤ p ∧ p ≤ 0x37 then
    let n := p - 0x20
    let act := portActive s n
    let auto := (s.port n).auto.isSome
    match o with
    | 0x40 => (if act then all else 0, 0)
    | 0x60 => ((if act then 0x10 else 0) + (if auto then 0xFFFFFFEF else 0), 0)
    | 0x64 => (if act then all else 0, 0)
    | 0x68 => (if auto then 0x400000 else 0, 0)
    | _ => (0, 0)
  else if 0x48 ≤ p ∧ p ≤ 0x4B then (if o = 0x58 ∧ s.on (CORE_WDOG_CFG_EN (p - 0x48)) then all else 0, 0)
  else match p with
    | 0x00 => (if o = 0x50 then 1 else 0, 0)
    | 0x02 =>
      let runs := s.on TB_DISC_CTRL_SERVO_EN || srcActs s.variant (s.get TB_DISC_CTRL_SRC) == 2
      if (o = 0x60 ∨ o = 0x6C) ∧ runs then (all, 0) else if o = 0x94 then (1, 0) else (0, 0)
    | 0x11 => if o = 0x40 then
        (((List.range 4).map (fun k => if (List.range 8).any (fun t => !(boundChans s 2 (8 * k + t)).isEmpty) then 2 ^ (4 + k) else 0)).sum, 0)
      else (0, 0)
    | 0x14 =>
      if o = 0x40 then (bitsOf (fun n => decide (n < 16) && wmArmed s n), 0)
      else if bank && k == 0 && wmArmed s i then (0xF80, 0)
      else if bank && k == 4 && wmArmed s i then (all, 0) else (0, 0)
    | 0x15 => if bank && k == 0 && pgRun s i then (0, 0xE0) else if bank && k == 0x10 && pgRun s i then (0, all) else (0, 0)
    | 0x1C => if 0x40 ≤ o ∧ o < 0x80 ∧ bankInUse s ((o - 0x40) / 4) then (0, all) else (0, 0)
    | 0x40 => if 0x400 ≤ o then (all, 0) else (0, 0)
    | 0x44 => if bank && k == 0 && s.get (EVC_RQ_IDX_COUNT i) != 0 then (0, all) else (0, 0)
    | 0x4C =>
      if o = 0x48 then (4, 0)
      else if o = 0x60 ∧ new < s.get IMG_MIN_VERSION_VERSION then (0, all)
      else if 0x80 ≤ o ∧ o < 0x100 then (if bit (s.get IMG_KEY_SEAL_SEALED) ((o - 0x80) / 0x20) then (0, all) else (all, 0))
      else (0, 0)
    | 0x58 => (if o = 0x6C then 1 else 0, 0)
    | 0x59 => (if o = 0x48 then 4 else 0, 0)
    | 0x5F => (if o = 0x40 then 1 else 0, 0)
    | _ => (0, 0)

/-- A context runs or waits with the program word in its region (R186). -/
def progHeld (s : State) (w : Nat) : Bool := (List.range 24).any (fun n => (ctxState s n == 1 || ctxState s n == 2) && inRegion s n w)

/-- A channel's descriptor words obey R118: it is in WAIT_SYNC, RUNNING or STOPPING, or on its way to another slice. -/
def descHeld (s : State) (c : Nat) : Bool := chActive s c

/-- The locked bits of a table word. -/
def lockTable (s : State) (p o : Nat) : Nat × Nat :=
  let all := 0xFFFFFFFF
  match p with
  | 0x1B =>
    if o < 0x4000 ∧ descHeld s (o / 0x40) then
      match o % 0x40 / 4 with
      | 0 => (0x00F0FF1F, 0x30000000)
      | 1 => (all, 0) | 2 => (all, 0) | 3 => (all, 0) | 7 => (all, 0)
      | 4 => (0xF0FFFFFF, 0x0F000000)
      | 5 => (0xFFFC0000, 0)
      | _ => (0, 0)
    else (0, 0)
  | 0x1C => if bankInUse s (o / 0x200) then (0, all) else (0, 0)
  | 0x38 => if progHeld s (o / 4) then (0, all) else (0, 0)
  | 0x41 => if o % 0x40 = 0 ∧ s.on (TONGSQ_Q0_EN (o / 0x40)) then (0x70000000, 0) else (0, 0)
  | _ => (0, 0)

/-- The admissible and the never-admitted locked bits of the word a write meets. -/
def lockMasks (s : State) (a new : Nat) : Nat × Nat :=
  if inTables a then lockTable s (tablePageOf a) ((a - 0x50000000) % 0x100000)
  else lockPage s (pageOf a) ((a - 0x40000000) % 0x4000) new

/-- A write against the locks of page `p`: reached locked bits that no unlock admits are discarded and set LOCKED_WRITE, and an unlock
ends at a write that reaches a locked field (R23, R24). -/
def applyLocks (p : Nat) (w : Wr) (s : State) : Wr × State :=
  let l := lockMasks s w.a w.new
  let ch := (w.old ^^^ w.new) ||| w.wo
  let ra := ch &&& l.1 != 0
  let rn := ch &&& l.2 != 0
  if !ra && !rn then (w, s)
  else
    let un := (s.key p w.m).opens
    let d := (if rn then l.2 else 0) ||| (if ra && !un then l.1 else 0)
    let w1 := { w with new := without w.new d + (w.old &&& d), wo := without w.wo d, keyed := ra && un }
    let s1 := if un then s.setKey p w.m (s.key p w.m).shut else s
    (w1, if d ≠ 0 then s1.fault p 28 else s1)

/-! ### What a write of a register does -/

/-- Store the word. -/
def putWord (w : Wr) (s : State) : State := s.setWord w.a (w32 w.new)

/-- Bits of a word that changed, in a mask. -/
def changed (w : Wr) (mask : Nat) : Bool := (w.old ^^^ w.new) &&& mask != 0

/-- Do `f` for every set bit below `n`, in ascending order. -/
def forBits (v n : Nat) (f : Nat → State → State) (s : State) : State :=
  (List.range n).foldl (fun t i => if bit v i then f i t else t) s

/-- After a write of LC.RUN: both halves of a pair start and stop together (R57). -/
def lcRunWritten (w : Wr) (s : State) : State :=
  (List.range 8).foldl (fun t k =>
    if !lcChained t (2 * k) then t
    else if bit w.new (2 * k) != bit w.old (2 * k) then lcSetRun (2 * k) (bit w.new (2 * k)) t
    else if bit w.new (2 * k + 1) != bit w.old (2 * k + 1) then lcSetRun (2 * k) (bit w.new (2 * k + 1)) t else t) (putWord w s)

/-- After a write of DISC_CTRL: a change of SRC unlocks, and leaving the ring ends its servo (R43, R322, R323). -/
def discWritten (w : Wr) (s : State) : State :=
  let s1 := putWord w s
  if w.old % 4 = w.new % 4 then s1
  else
    let s2 := tbUnlock { s1 with timeBase := { s1.timeBase with within := 0, beyond := 0 } }
    if srcActs s.variant (w.old % 4) = 2 ∧ srcActs s.variant (w.new % 4) ≠ 2 then ringSrcLeft s2 else s2

/-- A write of TRIM (R35). -/
def trimWritten (w : Wr) (s : State) : State :=
  let i := sx 32 w.new
  let s1 := if clampTrim i = i then s else s.fault 0x02 0
  if w.old = w.new then s1 else setTrim (clampTrim i) s1

/-- A write to the TB page. -/
def tbWrite (o : Nat) (w : Wr) (s : State) : State :=
  match o with
  | 0x4C => if bit w.wo 0 then ((s.set TB_SNAP_LO_TB s.tb).set TB_SNAP_HI_TB (s.tb / 2 ^ 32)).set TB_SNAP_FRAC_FRAC s.frac else s
  | 0x60 => trimWritten w s
  | 0x64 => discWritten w s
  | 0x84 => { s with timeBase := { s.timeBase with expLo := w32 w.new } }
  | 0x88 => (setPpsExp (s.timeBase.expLo.toNat + w.new * 2 ^ 32) s).raise TB_PPS_STAT_EXP_VALID
  | 0x94 =>
    if !bit w.wo 0 then s
    else if srcActs s.variant (s.get TB_DISC_CTRL_SRC) = 2 ∧ !s.on SYS_HUB_HEAD then s.fault 0x02 1
    else { s with timeBase := { s.timeBase with loadPending := true } }
  | _ => putWord w s

/-- A write to the CMP page. -/
def cmpWrite (o : Nat) (w : Wr) (s : State) : State :=
  let n := (o - 0x100) / 0x20
  if o = 0x40 then armsWritten w.old w.new s
  else if o = 0x44 then armsWritten (w.old * 2 ^ 32) (w.new * 2 ^ 32) s
  else if o < 0x100 then putWord w s
  else match o % 0x20 with
    | 0x00 => s.setCmp n { s.cmp n with lo := w32 w.new }
    | 0x04 => cmpCommit n w.new s
    | 0x08 => s.setCmp n { s.cmp n with perLo := w32 w.new }
    | 0x0C => perCommit n w.new s
    | 0x10 => s.setCmp n { s.cmp n with phaseLo := w32 w.new }
    | 0x14 => phaseCommit n w.new s
    | 0x18 => armsWritten (w.old % 2 * 2 ^ n) (w.new % 2 * 2 ^ n) (putWord { w with new := putBits w.new 0 1 w.old } s)
    | _ => putWord w s

/-- A write to the LC page. -/
def lcWrite (o : Nat) (w : Wr) (s : State) : State :=
  let n := (o - 0x100) / 0x20
  if o = 0x40 then lcRunWritten w s
  else if o = 0x44 then (if bit w.wo 31 then lcSnap (w.wo % 16) s else s)
  else if 0x100 ≤ o ∧ o % 0x20 = 0 then lcCfgWritten n (putWord { w with new := if n % 2 = 1 then w.new % 2 ^ 31 else w.new } s)
  else putWord w s

/-- A write to an AFE group page. -/
def afeWrite (g o : Nat) (w : Wr) (s : State) : State :=
  if o = 0x40 then
    (List.range 8).foldl (fun t i =>
      let f := AFE_IN_CFG_ENABLE g i
      if t.on f == bit w.new i then t else inputWritten (8 * g + i) (t.word f.addr).toNat (t.set f (b2n (bit w.new i)))) s
  else if 0x100 ≤ o ∧ o % 0x20 = 0 then inputWritten (8 * g + (o - 0x100) / 0x20) w.old (putWord w s)
  else putWord w s

/-- A write to AFE_COM. The codes of HK entries 0 to 2 are fixed. -/
def afeComWrite (o : Nat) (w : Wr) (s : State) : State :=
  let k := (o - 0x100) / 0x20
  if o = 0x40 ∨ o = 0x44 ∨ o = 0x48 then refCheck (putWord w s)
  else if o = 0x50 then
    let s1 := putWord w s
    hkContinuous (if bit w.wo 8 then hkStart s1 else s1)
  else if 0x80 ≤ o ∧ o ≤ 0x88 then putWord { w with new := putBits w.new 0 8 w.old } s
  else if 0x100 ≤ o ∧ o % 0x20 = 0 then
    let s1 := putWord w s
    if bit w.wo 25 then smAbort k s1 else if bit w.wo 24 then smStart k s1 else s1
  else putWord w s

/-- A write to WM. -/
def wmWrite (o : Nat) (w : Wr) (s : State) : State :=
  let n := (o - 0x100) / 0x20
  if o = 0x40 then forBits (w.old ^^^ w.new) 16 wmEvaluate (putWord w s)
  else if o < 0x100 then putWord w s
  else match o % 0x20 with
    | 0x00 => wmEvaluateOf n (changed w 0xF00) (changed w 0xE80) (putWord w s)
    | 0x04 => wmEvaluateOf n (changed w 0x73FF0000) (changed w 0x73FF) (putWord w s)
    | 0x14 => if w.wo = 0 then s else checkStart n (w.wo % 8) s
    | _ => putWord w s

/-- A write to PG. -/
def pgWrite (o : Nat) (w : Wr) (s : State) : State :=
  let g := (o - 0x100) / 0x20
  if o = 0x44 then forBits w.wo 16 (fun g t => pgStart g t.tb t) s
  else if o = 0x48 then forBits (w.old ^^^ w.new) 16 tripCleared s
  else if o < 0x100 then putWord w s
  else if o % 0x20 = 0 then pgChange g (putWord w) s
  else if o % 0x20 = 0x10 then tripAll (putWord w s)
  else putWord w s

/-- A write to ANV_SCHED's registers. -/
def schedWrite (o : Nat) (w : Wr) (s : State) : State :=
  match o with
  | 0x60 => if bit w.wo 31 then swapRequest (bits w.wo 0 8) (bits w.wo 24 4) (bits w.wo 16 8 + 1) s else s
  | 0x64 => if bit w.wo 31 then (retuneRequest (bits w.wo 0 8) s).2 else s
  | 0x68 => if bit w.wo 31 then groupSync (bits w.wo 0 6) s else s
  | _ => putWord w s

/-- A write to a port's page. A pair of MODE and PHY that is not valid is not written (R143); an admitted write of MODE, WIRES or
SPI_CS to an active port ends the activity first (R163). -/
def portWrite (p o : Nat) (w : Wr) (s : State) : State :=
  let stopped := if w.keyed && (o == 0x40 || o == 0x64 || (o == 0x60 && changed w 0x10)) then portStop p s else s
  match o with
  | 0x40 =>
    if !modeValid p (w.new % 16) (bits w.new 4 2) then s.fault (portPage p) 0
    else
      let s1 := if portMode s p = 7 ∧ w.new % 16 ≠ 7 then csGone p stopped else stopped
      portModeWritten (putWord w s1)
  | 0x68 =>
    let s1 := putWord w s
    let s2 := if bit w.wo 30 then autoStop p s1 else s1
    if bit w.wo 31 && !bit w.wo 30 then autoStart p s2.tb s2 else s2
  | _ =>
    let a := pageBase (portPage p) + o
    let format := (0x48 ≤ o && o ≤ 0x5C) || o == 0x60
    let kept := if !format then stopped
      else if portActive stopped p then portKeep p a stopped
      else stopped.setPort p { stopped.port p with old := (stopped.port p).old.filter (fun x => x.1 != a) }
    putWord w kept

/-- A write to SEQ's registers. -/
def seqWrite (o : Nat) (w : Wr) (s : State) : State :=
  match o with
  | 0x40 => forBits w.wo 24 (fun n t => seqStart n t.tb t) s
  | 0x44 => forBits w.wo 24 (fun n t => sample 251 (ctxIdle n t)) s
  | _ => putWord w s

/-- A write to TONGS: the registers of port m serve master m only (R240). -/
def tongsWrite (o : Nat) (w : Wr) (s : State) : State :=
  let i := (o - 0x100) / 0x20
  if o = 0x50 then (if w.acts then qcmd w.wo s else s)
  else if 0x100 ≤ o ∧ o < 0x1A0 then
    if i ≠ w.m then s
    else match o % 0x20 with
      | 0x0C => portSkip i w.wo s
      | 0x10 => portOpen i w.wo s
      | 0x14 => if w.acts then portData i w.wo s else s
      | 0x18 => portClose i w.wo s
      | _ => putWord w s
  else if 0x400 ≤ o then poolSync (putWord w s)
  else putWord w s

/-- A write to EVC's registers (R248, R250, R254). -/
def evcWrite (o : Nat) (w : Wr) (s : State) : State :=
  let t := (o - 0x100) / 0x20
  if o < 0x100 then putWord w s
  else match o % 0x20 with
    | 0x10 =>
      if !w.acts then s
      else if w.m = t ∨ w.m = 6 then eoi t (w.wo % 16) s else s.fault 0x44 6
    | 0x1C => if bit w.wo 0 then stackReset t s else s
    | _ => putWord w s

/-- A write to a CORE page. -/
def coreWrite (n o : Nat) (w : Wr) (s : State) : State :=
  match o with
  | 0x40 => coreCtrlWritten n w.old (bit w.ones 0) (bit w.wo 2) (putWord w s)
  | 0x58 =>
    let s1 := putWord w (timersSync s)
    if bit w.new 0 && !bit w.old 0 then wdogRestart n false s1 else s1
  | 0x5C => if w.acts then wdogKick n w.wo s else s
  | _ => putWord w s

/-- A write to IMG. -/
def imgWrite (o : Nat) (w : Wr) (s : State) : State :=
  if o = 0x48 then
    let s1 := if bit w.wo 0 then imgErase s else s
    let s2 := if bit w.wo 1 then imgVerify s1 else s1
    let s3 := if bit w.wo 2 then imgSwap s2 else s2
    if bit w.wo 3 then imgConfirm s3 else s3
  else if o = 0x54 then (if w.acts then imgLoad w.wo s else s)
  else if o = 0x60 then minVersionWritten w.new s
  else if 0x80 ≤ o ∧ o < 0x100 ∧ (o - 0x80) % 0x20 = 0x1C ∧ w.keyed then sealSlot ((o - 0x80) / 0x20) (putWord w s)
  else putWord w s

/-- A write to DBG. While LOCKED = 1 the debug master's HALT and STEP are ignored (R271). -/
def dbgWrite (o : Nat) (w : Wr) (s : State) : State :=
  let no := decide (w.m = 6) && s.on DBG_CTRL_LOCKED
  match o with
  | 0x44 => if no then s else haltWritten w.ones (putWord w s)
  | 0x4C =>
    if no then s
    else { s with steps := s.steps ++ ((List.range 4).filter (fun n => bit w.wo n && coreState s n == 3)).map (fun n => (n, bit w.wo 8)) }
  | 0x54 => if w.acts || w.new ≠ w.old then regDataWrite (w32 w.new) s else s
  | _ => putWord w s

/-- A write to BBOX. -/
def bboxWrite (o : Nat) (w : Wr) (s : State) : State :=
  match o with
  | 0x48 =>
    let s1 := if bit w.wo 0 then bbFreeze 8 s else s
    let s2 := if bit w.wo 1 then bbRelease s1 else s1
    if bit w.wo 2 then bbErase s2 else s2
  | 0x5C => if w.acts then bbSoftware w.wo s else s
  | _ => putWord w s

/-- A write of a register at offset `o` (0x040 and above) of page `p`, past the locks. -/
def blockWrite (p o : Nat) (w : Wr) (s : State) : State :=
  if 0x08 ≤ p ∧ p ≤ 0x0F then afeWrite (p - 8) o w s
  else if 0x18 ≤ p ∧ p ≤ 0x1A then
    (if o = 0x4C then sliceCmd (p - 0x18) (bit w.wo 0) (bit w.wo 1) (bit w.wo 2) s else putWord w s)
  else if 0x20 ≤ p ∧ p ≤ 0x37 then portWrite (p - 0x20) o w s
  else if 0x48 ≤ p ∧ p ≤ 0x4B then coreWrite (p - 0x48) o w s
  else match p with
    | 0x00 => if o = 0x50 then (if bit w.wo 0 then warmNow SYS_RESET_CAUSE_WARM_SW s else s) else putWord w s
    | 0x01 =>
      if o = 0x80 then (if bit w.wo 31 then pwrRequest (w.wo % 4) s else s)
      else if o = 0x5C ∧ changed w 0x1F ∧ !bit (s.get SYS_STRAPS_LEVEL) 2 then
        let s1 := putWord w s
        { s1 with clk := { s1.clk with winBad := true } }
      else putWord w s
    | 0x02 => tbWrite o w s
    | 0x03 => cmpWrite o w s
    | 0x04 => lcWrite o w s
    | 0x10 => afeComWrite o w s
    | 0x14 => wmWrite o w s
    | 0x15 => pgWrite o w s
    | 0x1B => schedWrite o w s
    | 0x38 => seqWrite o w s
    | 0x39 => if o = 0x40 then (if bit w.wo 31 then attClear (w.wo % 32) s else s) else putWord w s
    | 0x40 => tongsWrite o w s
    | 0x44 => evcWrite o w s
    | 0x4C => imgWrite o w s
    | 0x50 => if o = 0x54 then attnEval (putWord w s) else if o = 0x40 then sleepEval (putWord w s) else putWord w s
    | 0x51 => if o = 0x40 ∧ changed w 0x37 then portBegin 0 (putWord w s) else putWord w s
    | 0x52 => if o = 0x40 ∧ changed w 0x37 then portBegin 1 (putWord w s) else putWord w s
    | 0x53 => if o = 0x70 then ringCmd (ringGrant w.wo) s else if o = 0x8C then putWord w (tokensSync s) else putWord w s
    | 0x58 =>
      if o = 0x6C then
        let s1 := if bit w.wo 1 then compactRequest s else s
        if bit w.wo 0 then eraseAllRequest s1 else s1
      else putWord w s
    | 0x59 => bboxWrite o w s
    | 0x5F => dbgWrite o w s
    | _ => putWord w s

/-- The level sources that a write of page `p` may move. -/
def levelsOf (p o : Nat) : List Nat :=
  if 0x20 ≤ p ∧ p ≤ 0x37 then [200 + (p - 0x20)]
  else if 0x48 ≤ p ∧ p ≤ 0x4B then (if o = 0x64 then [600 + 2 * (p - 0x48), 601 + 2 * (p - 0x48)] else [])
  else match p with
    | 0x10 => [181]
    | 0x14 => if 0x100 ≤ o then [80 + (o - 0x100) / 0x20] else []
    | 0x15 => if 0x100 ≤ o then [96 + (o - 0x100) / 0x20] else []
    | 0x38 => if 0x100 ≤ o then [224 + (o - 0x100) / 0x20, 251] else [251]
    | 0x39 => [248, 249, 250, 252]
    | 0x3D => if 0x48 ≤ o ∧ o ≤ 0x54 then (List.range 32).map (fun b => 256 + 8 * (o - 0x48) + b) else []
    | 0x40 => [511]
    | 0x44 => if o = 0x48 then (List.range 16).map (fun b => 624 + b) else [534]
    | 0x50 => [546]
    | 0x53 => [553]
    | 0x59 => [568, 570]
    | _ => []

/-! ### What a write of a table word does -/

/-- A write of a channel descriptor word (R117, R118): unlocked fields are written; an admitted change of locked fields is checked as a
new descriptor. -/
def descWrite (c i : Nat) (w : Wr) (s : State) : State :=
  if 8 ≤ i then putWord w s
  else
    let held := descHeld s c
    let adm := if held then (lockTable s 0x1B (0x40 * c + 4 * i)).1 else 0
    let s1 := putWord { w with new := without w.new adm + (w.old &&& adm) } s
    let s0 := if chState s1 c = 0 then readBackFresh c s1 else s1
    let s2 := if i = 0 then word0Written c w.old s0 else s0
    if !(held && w.keyed) then s2
    else
      let ws := (List.range 8).map (fun j => if j = i then without (s2.word (descAddr c j)).toNat adm + (w.new &&& adm) else (s2.word (descAddr c j)).toNat)
      if chLogical s2 c = 3 then
        (if descReason s2 (cfgOf (fun j => ws.getD j 0)) = 0 then storeDesc c ws s2
         else refuseDesc c (descReason s2 (cfgOf (fun j => ws.getD j 0))) s2)
      else changeDesc c ws s2

/-- A write of a queue-table word (R235 to R238). -/
def queueWrite (q i : Nat) (w : Wr) (s : State) : State :=
  let s1 := putWord w s
  match i with
  | 0 => queueWord0Written q w.old s1
  | 3 => noticeEval q s1
  | 5 =>
    let c := w.old ^^^ w.new
    let s2 := if bit c 26 then noticeClear q s1 else s1
    noticeSync q (watermarkCleared q (bit c 30) (bit c 29) s2)
  | _ => s1

/-- A write of a table word of page `p`, past the locks. -/
def tableWrite (p o : Nat) (w : Wr) (s : State) : State :=
  match p with
  | 0x1B => if o < 0x4000 then descWrite (o / 0x40) (o % 0x40 / 4) w s else putWord w s
  | 0x3C =>
    let n := o / 0x40
    let i := o % 0x40 / 4
    let k (j : Nat) : Nat := (s.word ((HARDYF_SLOT0_EN n).addr + 4 * j)).toNat
    if i < 8 then slotWritten n i (k 0) (k 1) (k 2) (putWord w s) else s
  | 0x3D => ruleWritten (o / 0x10) (o % 0x10 / 4) (putWord w s)
  | 0x41 => queueWrite (o / 0x40) (o % 0x40 / 4) w s
  | 0x44 =>
    match o % 0x10 with
    | 0 => sourceWritten (o / 0x10) w.old (putWord w s)
    | 4 => if bit w.w1c 29 then stuckCleared (o / 0x10) s else s
    | _ => s
  | _ => putWord w s

/-! ### One write on the bus -/

/-- The word that a write meets: the stored word, its RW fields as they read. -/
def writeBase (s : State) (a : Nat) (fs : List FRow) : Nat :=
  let raw := (s.word a).toNat
  let rw := accMask fs .rw
  if a = DBG_REG_DATA_VALUE.addr then (regDataRead s).1.toNat
  else match sharedWord s a with
    | some v => v
    | none => without raw rw + (raw &&& rw)

/-- A write of `v` to a register or table word of a present and READY page, at or above offset 0x040, through a view. -/
def regWrite (p m a v : Nat) (view : View) (s : State) : State :=
  match rowAt a with
  | none => s
  | some (r, _) =>
    let w := fieldWrite r.flds view m a (writeBase s a r.flds) (v &&& presentMask s.variant a)
    if presentMask s.variant a = 0 then s
    else
      let (w1, s1) := applyLocks p w s
      if inTables a then tableWrite p ((a - 0x50000000) % 0x100000) w1 s1
      else
        let o := (a - 0x40000000) % 0x4000
        sampleAll (levelsOf p o) (blockWrite p o w1 s1)

/-- After a change of PG_CTRL: the block starts or stops with ENABLE. -/
def ctrlWritten (p : Nat) (was s : State) : State :=
  let rises := s.enabled p && !was.enabled p
  if 0x20 ≤ p ∧ p ≤ 0x37 then portModeWritten s
  else if 0x08 ≤ p ∧ p ≤ 0x0F then refCheck s
  else match p with
    | 0x10 => refCheck (if rises then hkContinuous s else s)
    | 0x14 => if rises then (List.range (nMonitors s.variant)).foldl (fun t n => wmEvaluate n t) s else s
    | 0x3C => if rises then slotsRestart s else s
    | _ => s

/-- A write to PG_CTRL of a READY page (R22, R342, R417): SOFT_RESET alone, or the settings and then COMMIT. QUIESCED follows QUIESCE
(DESIGN CHOICE, log entry 9). -/
def ctrlWrite (p v : Nat) (view : View) (s : State) : State :=
  let old := (s.word (pageBase p + 0x0C)).toNat
  let rwv := (if fixedEnable p then 0 else 1) + 2 + (if noFreeze p then 0 else 8)
  let new := match view with
    | .direct => without old rwv + (v &&& rwv)
    | .setAlias => old ||| (v &&& rwv)
    | .clearAlias => without old (v &&& rwv)
  let wo := if view = .clearAlias then 0 else v
  if bit wo 2 then pageReset p s
  else
    let s1 := (timersSync s).setWord (pageBase p + 0x0C) (w32 new)
    let s2 := s1.set (PG_STAT_QUIESCED p) (b2n (bit new 1))
    let s3 := if new = old then s2 else ctrlWritten p s s2
    if bit wo 4 then commitRequest p s3 else s3

/-- A write to a word of the header of a READY page. -/
def headerWrite (p o v : Nat) (view : View) (s : State) : State :=
  match o with
  | 0x0C => ctrlWrite p v view s
  | 0x10 => if view = .setAlias then s
    else sampleAll (levelsOf p o) (s.setWord (pageBase p + 0x10) (w32 (without (s.word (pageBase p + 0x10)).toNat v)))
  | 0x14 =>
    let old := (s.word (pageBase p + 0x14)).toNat
    let new := match view with
      | .direct => v
      | .setAlias => old ||| v
      | .clearAlias => without old v
    sampleAll (levelsOf p o) (s.setWord (pageBase p + 0x14) (w32 new))
  | _ => s

/-- A write that R27 discards: counted, with its page. -/
def notReadyWrite (p : Nat) (s : State) : Reply × State :=
  answer .notReady 0 ((s.inc SYS_NOT_READY_WRITES_COUNT).set SYS_NOT_READY_WRITES_LAST_PAGE p)

/-- An aligned word write to a listed page's window. A KEY_FAIL that a write of PG_FAULT itself raises wins over the clear (R21). -/
def pageWrite (m a v : Nat) (s : State) : Reply × State :=
  let p := pageOf a
  let vn := (a - 0x40000000) % 0x4000 / 0x1000
  let d := a - vn * 0x1000
  let o := (d - 0x40000000) % 0x4000
  let view := if vn = 0 then View.direct else if vn = 1 then .setAlias else .clearAlias
  if vn = 3 then answer .busError 0 (busError m a 3 true s)
  else if !pagePresent s.variant p then answer .ok 0 s
  else if !s.ready p then
    let s1 := if o = 0x1C then s else keyAccess p m s
    if o = 0x10 ∧ v ≠ 0 ∧ view ≠ .setAlias then answer .ok 0 (keyAccess p m (headerWrite p o v view s))
    else if o = 0x0C ∧ bit v 2 ∧ view ≠ .clearAlias then answer .ok 0 (pageReset p s1)
    else notReadyWrite p s1
  else
    let s0 := pageTouched p m s
    if o = 0x1C then
      answer .ok 0 (if view = .clearAlias ∨ (view = .setAlias ∧ v = 0) then keyAccess p m s0 else keyWrite p m v s0)
    else
      let s1 := keyAccess p m s0
      answer .ok 0 (if o = 0x10 then keyAccess p m (headerWrite p o v view s0) else if o < 0x40 then headerWrite p o v view s1 else regWrite p m d v view s1)

/-- An aligned word write to a listed page's table window. -/
def tableSpaceWrite (m a v : Nat) (s : State) : Reply × State :=
  let p := tablePageOf a
  if !pagePresent s.variant p then answer .ok 0 s
  else if tableExtent p ≤ (a - 0x50000000) % 0x100000 then answer .busError 0 (busError m a 4 true s)
  else
    let s1 := keyAccess p m s
    if !s1.ready p then notReadyWrite p s1
    else
      let s2 := if p = 0x3C then putHf m {} s1 else if p = 0x59 then putBb m {} s1 else s1
      answer .ok 0 (regWrite p m a v .direct s2)

/-- A write of the low `n` bytes of `v` by master `m` (R26). -/
def busWrite (m a n v : Nat) (s : State) : Reply × State :=
  match regionOf s.variant m a with
  | .unmapped => answer .busError 0 (busError m a 0 true s)
  | r =>
    if a % n ≠ 0 ∨ (wordOnly r ∧ n ≠ 4) then answer .busError 0 (busError m a 1 true s)
    else match r with
      | .page => pageWrite m a v s
      | .table => tableSpaceWrite m a v s
      | .tcm _ => answer .ok 0 (s.store (physOf s m a) n v)
      | .scratch => answer .ok 0 (s.store a n v)
      | .pool => if s.on DBG_CTRL_POOL_WR then answer .ok 0 (s.store a n v) else answer .busError 0 (busError m a 2 true s)
      | _ => answer .busError 0 (busError m a 2 true s)

end Sys2Proof.Machine
end

