-- ==== Sys2Proof/Machine/Glemi.lean ====
section
/-!
DEFINITION. Sys2Proof/Machine/Glemi.lean: what each Glemi-32 instruction does once it has been fetched (spec/16_glemi_instruction_set.md,
R272 to R288), and the data accesses of a core (spec/15_glemi_programming_model.md, R259 to R263).
-/
namespace Sys2Proof.Machine

/-! ### Data accesses -/

/-- A user-mode data access is allowed (R261). -/
def userData (s : State) (n : Nat) (wr : Bool) (a : Nat) : Bool :=
  ownTcm n a || (!wr && (decide (a < 0x8000) || decide (0x10000000 ≤ a ∧ a ≤ 0x100FFFFF))) ||
  match pageOfAddr a with
  | some p => bit (s.get (CORE_UPAGE_PAGE n (p / 32))) (p % 32)
  | none => false

/-- An exception of the instruction at PC. -/
def trap (n code : Nat) (a : Option Word) (s : State) : State := takeException n code (s.core n).pc a s

/-- An exception of an access of the instruction at PC, which has no effect: STATUS is what it was before the instruction (R263, R288). -/
def trapBack (n code a : Nat) (st : Word) (s : State) : State :=
  trap n code (some (w32 a)) (s.setCore n { s.core n with status := st })

/-- The accesses (store, address) of one instruction or iteration, before the first of them: PRIVILEGE precedes every data exception, and
a breakpoint halts a running core before the access. -/
def guarded (n : Nat) (acc : List (Bool × Nat)) (f : State → State) (s : State) : State :=
  match (if (s.core n).supervisor then none else acc.find? (fun x => !userData s n x.1 x.2)) with
  | some x => trap n 4 (some (w32 x.2)) s
  | none =>
    if coreState s n == 1 && acc.any (fun x => breakpoint s n x.2 (if x.1 then [3, 4] else [2, 4])) then selfHalt n s
    else f s

/-- STATUS.NR is set (R259). -/
def setNR (n : Nat) (s : State) : State := s.setCore n { s.core n with status := setFlag (s.core n).status 26 true }

/-- A load of `z` bytes, and what the instruction, which met STATUS = `st`, does with it: a NOT_READY load gives 0, a bus error or bad parity
of the core's own TCM ends the instruction. -/
def loadThen (n a z : Nat) (st : Word) (x : Sense) (k : Word → State → State) (s : State) : State :=
  let r := busRead n a z x s
  match r.1.resp with
  | .busError => trapBack n 5 a st r.2
  | .notReady => k 0 (setNR n r.2)
  | .ok => if x.par && ownTcm n a then trapBack n 6 a st r.2 else k r.1.data r.2

/-- A store of `z` bytes that ends an instruction or iteration, with the core's registers as it leaves them; a bus error leaves them as
they were, with STATUS = `st` that the instruction met. -/
def storeThen (n a z : Nat) (st v : Word) (upd : Core → Core) (s : State) : State :=
  let x := s.core n
  let r := busWrite n a z v.toNat (s.setCore n (upd x))
  match r.1.resp with
  | .busError => trapBack n 5 a st (r.2.setCore n x)
  | .notReady => setNR n r.2
  | .ok => r.2

/-! ### Writing results -/

/-- The instruction completes. -/
def Core.next (x : Core) : Core := { x with pc := x.pc + 4 }

/-- A result with STATUS is written to rd. -/
def aluTo (n rd : Nat) (r : Word × Word) (s : State) : State :=
  s.setCore n ({ (s.core n).setReg rd r.1 with status := r.2 } : Core).next

/-- Only the flags of a result are kept. -/
def aluFlags (n : Nat) (r : Word × Word) (s : State) : State := s.setCore n ({ s.core n with status := r.2 } : Core).next

/-- A value is written to rd; no flag changes. -/
def valueTo (n rd : Nat) (v : Word) (s : State) : State := s.setCore n ((s.core n).setReg rd v).next

/-- STATUS of core `n`. -/
def State.status (s : State) (n : Nat) : Word := (s.core n).status

/-- sext(imm). -/
def simm (imm : Nat) : Word := sextW 18 imm

/-! ### The ALU group (R274 to R277) -/

def addBody (n rd ra rb : Nat) (s : State) : State := aluTo n rd (addFlags 0 (s.reg n ra) (s.reg n rb) (s.status n)) s
def adcBody (n rd ra rb : Nat) (s : State) : State :=
  aluTo n rd (addFlags (carryOf (s.status n)) (s.reg n ra) (s.reg n rb) (s.status n)) s
def subBody (n rd ra rb : Nat) (s : State) : State := aluTo n rd (subFlags 0 (s.reg n ra) (s.reg n rb) (s.status n)) s
def sbcBody (n rd ra rb : Nat) (s : State) : State :=
  aluTo n rd (subFlags (1 - carryOf (s.status n)) (s.reg n ra) (s.reg n rb) (s.status n)) s
def cmpBody (n ra rb : Nat) (s : State) : State := aluFlags n (subFlags 0 (s.reg n ra) (s.reg n rb) (s.status n)) s
def negBody (n rd ra : Nat) (s : State) : State := aluTo n rd (subFlags 0 0 (s.reg n ra) (s.status n)) s
def andBody (n rd ra rb : Nat) (s : State) : State := aluTo n rd (logicFlags (s.reg n ra &&& s.reg n rb) (s.status n)) s
def orBody (n rd ra rb : Nat) (s : State) : State := aluTo n rd (logicFlags (s.reg n ra ||| s.reg n rb) (s.status n)) s
def xorBody (n rd ra rb : Nat) (s : State) : State := aluTo n rd (logicFlags (s.reg n ra ^^^ s.reg n rb) (s.status n)) s
def andnBody (n rd ra rb : Nat) (s : State) : State := aluTo n rd (logicFlags (s.reg n ra &&& ~~~(s.reg n rb)) (s.status n)) s
def notBody (n rd ra : Nat) (s : State) : State := aluTo n rd (logicFlags (~~~(s.reg n ra)) (s.status n)) s
def tstBody (n ra rb : Nat) (s : State) : State := aluFlags n (logicFlags (s.reg n ra &&& s.reg n rb) (s.status n)) s
def movBody (n rd ra : Nat) (s : State) : State := valueTo n rd (s.reg n ra) s
def lslBody (n rd ra rb : Nat) (s : State) : State := aluTo n rd (lslFlags (s.reg n rb).toNat (s.reg n ra) (s.status n)) s
def lsrBody (n rd ra rb : Nat) (s : State) : State := aluTo n rd (lsrFlags (s.reg n rb).toNat (s.reg n ra) (s.status n)) s
def asrBody (n rd ra rb : Nat) (s : State) : State := aluTo n rd (asrFlags (s.reg n rb).toNat (s.reg n ra) (s.status n)) s
def rorBody (n rd ra rb : Nat) (s : State) : State := aluTo n rd (rorFlags (s.reg n rb).toNat (s.reg n ra) (s.status n)) s
def mulBody (n rd ra rb : Nat) (s : State) : State := aluTo n rd (mulFlags (s.reg n ra) (s.reg n rb) (s.status n)) s
def mulhsBody (n rd ra rb : Nat) (s : State) : State := aluTo n rd (logicFlags (mulhs (s.reg n ra) (s.reg n rb)) (s.status n)) s
def mulhuBody (n rd ra rb : Nat) (s : State) : State := aluTo n rd (logicFlags (mulhu (s.reg n ra) (s.reg n rb)) (s.status n)) s

/-- A division writes rr, then rd, and its flags; a zero divisor sets DZ, and with DZTRAP = 1 then raises DIVZERO (R277). -/
def divTo (n rd rr : Nat) (z : Bool) (q : Word × Word × Bool) (s : State) : State :=
  let x := s.core n
  let st := setFlag (setNZ x.status q.1) 28 q.2.2
  let s1 := s.setCore n ({ (x.setReg rr q.2.1).setReg rd q.1 with status := if z then setFlag st 27 true else st } : Core).next
  if z && x.flag 7 then takeException n 7 (x.pc + 4) none s1 else s1

def divsBody (n rd rr ra rb : Nat) (s : State) : State :=
  divTo n rd rr (decide (s.reg n rb = 0)) (divs (s.reg n ra) (s.reg n rb)) s
def divuBody (n rd rr ra rb : Nat) (s : State) : State :=
  divTo n rd rr (decide (s.reg n rb = 0)) (divu (s.reg n ra) (s.reg n rb)) s
def sextbBody (n rd ra : Nat) (s : State) : State := valueTo n rd (sextW 8 (s.reg n ra).toNat) s
def sexthBody (n rd ra : Nat) (s : State) : State := valueTo n rd (sextW 16 (s.reg n ra).toNat) s
def zextbBody (n rd ra : Nat) (s : State) : State := valueTo n rd (s.reg n ra &&& 0xFF) s
def zexthBody (n rd ra : Nat) (s : State) : State := valueTo n rd (s.reg n ra &&& 0xFFFF) s
def clzBody (n rd ra : Nat) (s : State) : State := valueTo n rd (w32 (clz (s.reg n ra))) s

/-! ### Immediate instructions (R278) -/

def addiBody (n rd ra imm : Nat) (s : State) : State := aluTo n rd (addFlags 0 (s.reg n ra) (simm imm) (s.status n)) s
def andiBody (n rd ra imm : Nat) (s : State) : State := aluTo n rd (logicFlags (s.reg n ra &&& w32 imm) (s.status n)) s
def oriBody (n rd ra imm : Nat) (s : State) : State := aluTo n rd (logicFlags (s.reg n ra ||| w32 imm) (s.status n)) s
def xoriBody (n rd ra imm : Nat) (s : State) : State := aluTo n rd (logicFlags (s.reg n ra ^^^ w32 imm) (s.status n)) s
def cmpiBody (n ra imm : Nat) (s : State) : State := aluFlags n (subFlags 0 (s.reg n ra) (simm imm) (s.status n)) s
def lsliBody (n rd ra k : Nat) (s : State) : State := aluTo n rd (lslFlags k (s.reg n ra) (s.status n)) s
def lsriBody (n rd ra k : Nat) (s : State) : State := aluTo n rd (lsrFlags k (s.reg n ra) (s.status n)) s
def asriBody (n rd ra k : Nat) (s : State) : State := aluTo n rd (asrFlags k (s.reg n ra) (s.status n)) s
def roriBody (n rd ra k : Nat) (s : State) : State := aluTo n rd (rorFlags k (s.reg n ra) (s.status n)) s
def moviBody (n rd imm : Nat) (s : State) : State := valueTo n rd (simm imm) s
def movhBody (n rd imm : Nat) (s : State) : State := valueTo n rd ((s.reg n rd &&& 0xFFFF) ||| w32 (imm % 2 ^ 16 * 2 ^ 16)) s
def adrBody (n rd imm : Nat) (s : State) : State := valueTo n rd ((s.core n).pc + 4 * simm imm) s

/-! ### Loads, stores and exchange (R279, R280) -/

/-- The effective address. -/
def effAddr (s : State) (n ra imm : Nat) : Nat := (s.reg n ra + simm imm).toNat

/-- A load of `z` bytes into rd through `ext`. -/
def loadBody (n rd ra imm z : Nat) (ext : Word → Word) (x : Sense) (s : State) : State :=
  let a := effAddr s n ra imm
  guarded n [(false, a)] (loadThen n a z (s.status n) x (fun v t => valueTo n rd (ext v) t)) s

/-- A store of the low `z` bytes of rd. -/
def storeBody (n rd ra imm z : Nat) (s : State) : State :=
  let a := effAddr s n ra imm
  guarded n [(true, a)] (storeThen n a z (s.status n) (w32 ((s.reg n rd).toNat % 2 ^ (8 * z))) Core.next) s

def ldbBody (n rd ra imm : Nat) (x : Sense) (s : State) : State := loadBody n rd ra imm 1 (fun v => sextW 8 v.toNat) x s
def ldbuBody (n rd ra imm : Nat) (x : Sense) (s : State) : State := loadBody n rd ra imm 1 id x s
def ldhBody (n rd ra imm : Nat) (x : Sense) (s : State) : State := loadBody n rd ra imm 2 (fun v => sextW 16 v.toNat) x s
def ldhuBody (n rd ra imm : Nat) (x : Sense) (s : State) : State := loadBody n rd ra imm 2 id x s
def ldwBody (n rd ra imm : Nat) (x : Sense) (s : State) : State := loadBody n rd ra imm 4 id x s
def stbBody (n rd ra imm : Nat) (s : State) : State := storeBody n rd ra imm 1 s
def sthBody (n rd ra imm : Nat) (s : State) : State := storeBody n rd ra imm 2 s
def stwBody (n rd ra imm : Nat) (s : State) : State := storeBody n rd ra imm 4 s

def pushBody (n rd : Nat) (s : State) : State :=
  let a := s.reg n 15 - 4
  guarded n [(true, a.toNat)] (storeThen n a.toNat 4 (s.status n) (s.reg n rd) (fun x => (x.setReg 15 a).next)) s

def popBody (n rd : Nat) (x : Sense) (s : State) : State :=
  let a := s.reg n 15
  guarded n [(false, a.toNat)] (loadThen n a.toNat 4 (s.status n) x (fun v t => valueTo n rd v (t.setReg n 15 (a + 4)))) s

/-- Where SWP is allowed: a TCM by either address, and the AON retained scratch. -/
def swpAllowed (s : State) (n a : Nat) : Bool := ownTcm n a || anyTcm s a || decide (0x28008000 ≤ a ∧ a ≤ 0x2800FFFF)

def swpBody (n rd ra : Nat) (x : Sense) (s : State) : State :=
  let a := (s.reg n ra).toNat
  let v := s.reg n rd
  guarded n [(false, a), (true, a)] (fun t =>
    if !swpAllowed t n a then trap n 5 (some (w32 a)) t
    else loadThen n a 4 (t.status n) x (fun r u => storeThen n a 4 (t.status n) v (fun y => (y.setReg rd r).next) u) t) s

/-! ### Control transfer (R281, R282) -/

/-- PC goes to a target; lr is written where `link` says. -/
def goTo (n : Nat) (link : Bool) (target : Word) (s : State) : State :=
  let x := s.core n
  let y := if link then x.setReg 14 (x.pc + 4) else x
  s.setCore n { y with pc := target }

/-- A transfer through a register: a misaligned target is a FETCH_ERROR of the transfer itself. -/
def goReg (n : Nat) (link : Bool) (target : Word) (s : State) : State :=
  if target.toNat % 4 ≠ 0 then trap n 1 (some target) s else goTo n link target s

def branchBody (n cond off : Nat) (s : State) : State :=
  if condHolds (s.status n) cond then goTo n false ((s.core n).pc + 4 * sextW 22 off) s else s.setCore n (s.core n).next
def callBody (n off : Nat) (s : State) : State := goTo n true ((s.core n).pc + 4 * sextW 26 off) s
def jrBody (n ra : Nat) (s : State) : State := goReg n false (s.reg n ra) s
def callrBody (n ra : Nat) (s : State) : State := goReg n true (s.reg n ra) s

/-! ### System instructions (R283) -/

/-- A supervisor instruction. -/
def supervisorOnly (n : Nat) (f : State → State) (s : State) : State := if (s.core n).supervisor then f s else trap n 4 none s

def mfcBody (n rd cr : Nat) (s : State) : State :=
  if !(s.core n).supervisor && !(cr == 0 || cr == 7 || cr == 8 || cr == 9) then trap n 4 none s
  else
    let r := ctlRead n cr s
    valueTo n rd r.1 r.2

/-- In user mode a write of STATUS reaches [31:24] only. -/
def statusWrite (n : Nat) (v : Word) (s : State) : State :=
  let x := s.core n
  let m : Word := if x.supervisor then statusMask else 0xFF000000
  s.setCore n ({ x with status := (x.status &&& ~~~m) ||| (v &&& m) } : Core).next

def mtcBody (n cr ra : Nat) (s : State) : State :=
  if cr = 0 then statusWrite n (s.reg n ra) s
  else if cr = 7 ∨ cr = 8 ∨ cr = 9 then s.setCore n (s.core n).next
  else supervisorOnly n (fun t =>
    let u := ctlWrite n cr (t.reg n ra) t
    u.setCore n (u.core n).next) s

/-- The bits of STATUS that an immediate of STSET or STCLR names. -/
def statusBits (imm : Nat) : Word := w32 (imm / 2 ^ 8 % 2 ^ 8 * 2 ^ 24 + imm % 2 ^ 8)

def stsetBody (n imm : Nat) (s : State) : State := statusWrite n (s.status n ||| statusBits imm) s
def stclrBody (n imm : Nat) (s : State) : State := statusWrite n (s.status n &&& ~~~(statusBits imm)) s

/-- The immediate is ignored by the hub. -/
def syscallBody (n _imm : Nat) (s : State) : State := takeException n 8 ((s.core n).pc + 4) none s

def breakBody (n _imm : Nat) (s : State) : State :=
  if s.on DBG_CTRL_ATTACHED then selfHalt n (s.setCore n (s.core n).next)
  else takeException n 9 ((s.core n).pc + 4) none s

/-- A misaligned target is a FETCH_ERROR before the mode is asked (R282, and the order of R263). -/
def eretBody (n : Nat) (s : State) : State :=
  if (s.core n).epc.toNat % 4 ≠ 0 then trap n 1 (some (s.core n).epc) s else supervisorOnly n (returnException n) s

/-- WAIT stops the core until its event line is high; a halted core that is stepped over it is in WAIT when it resumes. -/
def waitBody (n : Nat) (s : State) : State :=
  supervisorOnly n (fun t =>
    let u := t.setCore n (t.core n).next
    if eventLine u n then u
    else if coreState u n = 3 then u.setCore n { u.core n with waiting := true }
    else setCoreState n 2 u) s

def nopBody (n : Nat) (s : State) : State := s.setCore n (s.core n).next
def illegalBody (n : Nat) (s : State) : State := trap n 2 none s
def illegalPrefixBody (n : Nat) (s : State) : State := trap n 3 none s

/-! ### String instructions and the repeat prefix (R284 to R288) -/

/-- cnt, src and dst. -/
def cntR : Nat := 11
def srcR : Nat := 12
def dstR : Nat := 13

/-- The core after an iteration (R286): without a prefix at the next instruction; with one, cnt is decremented, and the pair ends or the
PC stays at the prefix. -/
def strEnd (rep kind : Nat) (x : Core) : Core :=
  if rep = 0 then x.next
  else
    let c := x.w[cntR]?.getD 0 - 1
    let y := x.setReg cntR c
    let tests := kind = 2 ∨ kind = 3
    if c = 0 ∨ (tests ∧ rep = 2 ∧ !x.flag 30) ∨ (tests ∧ rep = 3 ∧ x.flag 30) then
      { y with status := setFlag y.status 24 false, pc := y.pc + 8 }
    else y

/-- `src` or `dst` moves by one element, down when DF = 1. -/
def Core.stepReg (x : Core) (r z : Nat) : Core :=
  let v := x.w[r]?.getD 0
  x.setReg r (if x.flag 25 then v - w32 z else v + w32 z)

/-- One iteration of a string instruction on `z`-byte elements; one that a data access ends leaves STATUS as the last completed iteration did
(R288). -/
def strIter (n rep : Nat) (o : StrOp) (x y : Sense) (s : State) : State :=
  let z := 2 ^ o.size
  let src := (s.reg n srcR).toNat
  let dst := (s.reg n dstR).toNat
  let rv := s.reg n o.rv
  let rvE := w32 (rv.toNat % 2 ^ (8 * z))
  let st := s.status n
  let fin (f : Core → Core) (t : State) : State := t.setCore n (strEnd rep o.kind (f (t.core n)))
  let flags (r : Word × Word) (c : Core) : Core := { c with status := r.2 }
  match o.kind with
  | 0 => guarded n [(false, src), (true, dst)] (loadThen n src z st x (fun e t =>
      storeThen n dst z st e (fun c => strEnd rep o.kind ((c.stepReg srcR z).stepReg dstR z)) t)) s
  | 1 => guarded n [(true, dst)] (storeThen n dst z st rvE (fun c => strEnd rep o.kind (c.stepReg dstR z))) s
  | 2 => guarded n [(false, src)] (loadThen n src z st x (fun e t =>
      fin (fun c => (flags (subFlags 0 rvE e c.status) c).stepReg srcR z) t)) s
  | 3 => guarded n [(false, src), (false, dst)] (loadThen n src z st x (fun e t => loadThen n dst z st y (fun f u =>
      fin (fun c => ((flags (subFlags 0 e f c.status) c).stepReg srcR z).stepReg dstR z) u) t)) s
  | 4 => guarded n [(false, src)] (loadThen n src z st x (fun e t =>
      fin (fun c => (c.setReg o.rv (w32 (rv.toNat / 2 ^ (8 * z) + e.toNat * 2 ^ (32 - 8 * z)))).stepReg srcR z) t)) s
  | 5 => guarded n [(true, dst)] (storeThen n dst z st rvE (fun c =>
      strEnd rep o.kind ((c.setReg o.rv (w32 (rv.toNat / 2 ^ (8 * z)))).stepReg dstR z))) s
  | _ => illegalBody n s

def movsBody (n size : Nat) (x : Sense) (s : State) : State := strIter n 0 ⟨0, size, 0⟩ x {} s
def fillBody (n size rv : Nat) (s : State) : State := strIter n 0 ⟨1, size, rv⟩ {} {} s
def scanBody (n size rv : Nat) (x : Sense) (s : State) : State := strIter n 0 ⟨2, size, rv⟩ x {} s
def cmpsBody (n size : Nat) (x y : Sense) (s : State) : State := strIter n 0 ⟨3, size, 0⟩ x y s
def ldsBody (n size rv : Nat) (x : Sense) (s : State) : State := strIter n 0 ⟨4, size, rv⟩ x {} s
def stsBody (n size rv : Nat) (s : State) : State := strIter n 0 ⟨5, size, rv⟩ {} {} s

/-- A prefixed string instruction: with cnt = 0 it completes; else one iteration with REPACT = 1 (R286). Between two iterations the PC is
the prefix, and the pair goes on with its next command. -/
def repIter (n rep : Nat) (o : StrOp) (x y : Sense) (s : State) : State :=
  let c := s.core n
  if s.reg n cntR = 0 then s.setCore n { c with status := setFlag c.status 24 false, pc := c.pc + 8 }
  else strIter n rep o x y (s.setCore n { c with status := setFlag c.status 24 true })

def repBody (n : Nat) (o : StrOp) (x y : Sense) (s : State) : State := repIter n 1 o x y s
def repzBody (n : Nat) (o : StrOp) (x y : Sense) (s : State) : State := repIter n 2 o x y s
def repnzBody (n : Nat) (o : StrOp) (x y : Sense) (s : State) : State := repIter n 3 o x y s

/-! ### Fetching (R260, R261, R264, R270, R285) -/

/-- The fetch of the word at `a` meets bad parity: TCM_PARITY in the core's own TCM, a lockup where it is the fetch of a vector; of another
core's TCM the word is taken as stored and TCM_PAR_EXT is set (R262). -/
def fetchParity (n : Nat) (a : Word) (s : State) : State :=
  if ownTcm n a.toNat then
    match (s.core n).vec with
    | some code => lockup n code (s.core n).pc.toNat s
    | none => trap n 6 (some a) s
  else if anyTcm s a.toNat then s.fault (0x48 + (a.toNat - 0x30000000) / 0x10000) 3
  else s

/-- The words of an instruction of `k` words at PC of core `n` may be fetched, and `f` follows; `bps`: fetch breakpoints act. -/
def fetching (bps : Bool) (n k : Nat) (f : State → State) (s : State) : State :=
  let pc := (s.core n).pc
  let as := (List.range k).map (fun i => pc + w32 (4 * i))
  if bps && as.any (fun a => breakpoint s n a.toNat [1]) then selfHalt n s
  else match as.find? (fun a => !fetchable s n a.toNat) with
    | some a => fetchError n a s
    | none =>
      match (if (s.core n).supervisor then none else as.find? (fun a => !userFetch n a.toNat)) with
      | some a => trap n 4 (some a) s
      | none => f s

/-- The instruction is fetched and executed. -/
def fetched (bps : Bool) (n k : Nat) (f : State → State) (s : State) : State :=
  fetching bps n k (fun t => f (t.setCore n { t.core n with vec := none })) s

/-- A fetch that fails. -/
def fetchFails (bps : Bool) (n : Nat) (b : FetchBad) (s : State) : State :=
  let a := (s.core n).pc + (if b.second then 4 else 0)
  fetching bps n (if b.second then 2 else 1) (fun t => if b.par then fetchParity n a t else fetchError n a t) s

/-- Core `n` executes an instruction of `k` words: only a core that runs does, and a pending EVENT is taken in its place. -/
def instr (n k : Nat) (f : State → State) (s : State) : State :=
  if !coreRuns s n then s
  else if eventDue s n then takeEvent n s
  else fetched true n k f s

/-- `FETCH_ERROR`: the fetch of the instruction at PC, or of the word after a prefix, meets a bus error, a failed line check or bad parity. -/
def execFetchError (n : Nat) (f : FetchBad) (s : State) : Out :=
  done s (if coreRuns s n && !eventDue s n then fetchFails true n f s else s)

end Sys2Proof.Machine
end

