-- ==== Sys2Proof/Machine/GlemiDecode.lean ====
section
/-!
DEFINITION. Sys2Proof/Machine/GlemiDecode.lean: the encoding of Glemi-32 (spec/16_glemi_instruction_set.md, R272, R285) and the
single step of a halted core (spec/15_glemi_programming_model.md, R270).
-/
namespace Sys2Proof.Machine

/-! ### Decoding -/

/-- The ALU group: opcode 0x01. A field that an operation does not use is 0. -/
def decodeAlu (n w : Nat) : Option (State → State) :=
  let rd := bits w 22 4
  let ra := bits w 18 4
  let rb := bits w 14 4
  let rr := bits w 10 4
  if bits w 6 4 ≠ 0 then none
  else
    let three (i : State → State) : Option (State → State) := if rr = 0 then some i else none
    let two (i : State → State) : Option (State → State) := if rr = 0 ∧ rb = 0 then some i else none
    let flags (i : State → State) : Option (State → State) := if rr = 0 ∧ rd = 0 then some i else none
    match bits w 0 6 with
    | 0x00 => three (addBody n rd ra rb)
    | 0x01 => three (adcBody n rd ra rb)
    | 0x02 => three (subBody n rd ra rb)
    | 0x03 => three (sbcBody n rd ra rb)
    | 0x04 => flags (cmpBody n ra rb)
    | 0x05 => two (negBody n rd ra)
    | 0x06 => three (andBody n rd ra rb)
    | 0x07 => three (orBody n rd ra rb)
    | 0x08 => three (xorBody n rd ra rb)
    | 0x09 => three (andnBody n rd ra rb)
    | 0x0A => two (notBody n rd ra)
    | 0x0B => flags (tstBody n ra rb)
    | 0x0C => two (movBody n rd ra)
    | 0x10 => three (lslBody n rd ra rb)
    | 0x11 => three (lsrBody n rd ra rb)
    | 0x12 => three (asrBody n rd ra rb)
    | 0x13 => three (rorBody n rd ra rb)
    | 0x18 => three (mulBody n rd ra rb)
    | 0x19 => three (mulhsBody n rd ra rb)
    | 0x1A => three (mulhuBody n rd ra rb)
    | 0x1C => some (divsBody n rd rr ra rb)
    | 0x1D => some (divuBody n rd rr ra rb)
    | 0x20 => two (sextbBody n rd ra)
    | 0x21 => two (sexthBody n rd ra)
    | 0x22 => two (zextbBody n rd ra)
    | 0x23 => two (zexthBody n rd ra)
    | 0x24 => two (clzBody n rd ra)
    | _ => none

/-- The string group: opcode 0x38. -/
def decodeString (w : Nat) : Option StrOp :=
  let o : StrOp := { kind := bits w 3 3, size := bits w 0 2, rv := bits w 22 4 }
  if bits w 26 6 = 0x38 ∧ bits w 6 16 = 0 ∧ bits w 2 1 = 0 ∧ o.ok then some o else none

/-- What an instruction of one word does, or none where the word is undefined; `x` and `y` are what its data accesses meet. -/
def decodeGlemi (n w : Nat) (x y : Sense) : Option (State → State) :=
  let rd := bits w 22 4
  let ra := bits w 18 4
  let imm := bits w 0 18
  let noRd (i : State → State) : Option (State → State) := if rd = 0 then some i else none
  let noRa (i : State → State) : Option (State → State) := if ra = 0 then some i else none
  let onlyRd (i : State → State) : Option (State → State) := if ra = 0 ∧ imm = 0 then some i else none
  let onlyRa (i : State → State) : Option (State → State) := if rd = 0 ∧ imm = 0 then some i else none
  let shift (i : State → State) : Option (State → State) := if imm < 32 then some i else none
  let bare (i : State → State) : Option (State → State) := if rd = 0 ∧ ra = 0 ∧ imm = 0 then some i else none
  match bits w 26 6 with
  | 0x01 => decodeAlu n w
  | 0x02 => some (addiBody n rd ra imm)
  | 0x03 => some (andiBody n rd ra imm)
  | 0x04 => some (oriBody n rd ra imm)
  | 0x05 => some (xoriBody n rd ra imm)
  | 0x06 => noRd (cmpiBody n ra imm)
  | 0x07 => shift (lsliBody n rd ra imm)
  | 0x08 => shift (lsriBody n rd ra imm)
  | 0x09 => shift (asriBody n rd ra imm)
  | 0x0A => shift (roriBody n rd ra imm)
  | 0x0B => noRa (moviBody n rd imm)
  | 0x0C => if ra = 0 ∧ imm < 2 ^ 16 then some (movhBody n rd imm) else none
  | 0x0D => noRa (adrBody n rd imm)
  | 0x10 => some (ldbBody n rd ra imm x)
  | 0x11 => some (ldbuBody n rd ra imm x)
  | 0x12 => some (ldhBody n rd ra imm x)
  | 0x13 => some (ldhuBody n rd ra imm x)
  | 0x14 => some (ldwBody n rd ra imm x)
  | 0x15 => some (stbBody n rd ra imm)
  | 0x16 => some (sthBody n rd ra imm)
  | 0x17 => some (stwBody n rd ra imm)
  | 0x18 => onlyRd (pushBody n rd)
  | 0x19 => onlyRd (popBody n rd x)
  | 0x1A => if imm = 0 then some (swpBody n rd ra x) else none
  | 0x20 => if rd = 15 then none else some (branchBody n rd (bits w 0 22))
  | 0x21 => some (callBody n (bits w 0 26))
  | 0x22 => onlyRa (jrBody n ra)
  | 0x23 => onlyRa (callrBody n ra)
  | 0x28 => if imm = 0 then some (mfcBody n rd ra) else none
  | 0x29 => if imm = 0 then some (mtcBody n rd ra) else none
  | 0x2A => if rd = 0 ∧ ra = 0 ∧ imm < 2 ^ 16 then some (stsetBody n imm) else none
  | 0x2B => if rd = 0 ∧ ra = 0 ∧ imm < 2 ^ 16 then some (stclrBody n imm) else none
  | 0x2C => if rd = 0 ∧ ra = 0 then some (syscallBody n imm) else none
  | 0x2D => if rd = 0 ∧ ra = 0 then some (breakBody n imm) else none
  | 0x2E => bare (eretBody n)
  | 0x2F => bare (waitBody n)
  | 0x30 => bare (nopBody n)
  | 0x38 => (decodeString w).map (fun o => strIter n 0 o x y)
  | _ => none

/-- A word is a repeat prefix: its rep. -/
def decodePrefix (w : Nat) : Option Nat :=
  if bits w 26 6 = 0x3C ∧ bits w 2 24 = 0 ∧ bits w 0 2 ≠ 0 then some (bits w 0 2) else none

/-- The instruction that a word and the word after it spell for core `n` (R272, R285): the words it takes and what it does. -/
def decodePair (n w next : Nat) (x y : Sense) : Nat × (State → State) :=
  match decodePrefix w with
  | some r => (2, match decodeString next with
    | some o => repIter n r o x y
    | none => illegalPrefixBody n)
  | none => (1, (decodeGlemi n w x y).getD (illegalBody n))

/-! ### Single step (R270) -/

/-- The word of memory that core `n` fetches at an address. -/
def fetchWord (s : State) (n : Nat) (a : Word) : Nat := s.load (physOf s n a.toNat) 4

/-- One step of halted core `n`: EVENT where it is allowed and due, else one instruction or one iteration. Breakpoints do not act. -/
def coreStep (n : Nat) (evt : Bool) (x : StepSense) (s : State) : State :=
  if !corePowered s n || coreState s n != 3 then s
  else if evt && eventDue s n then takeEvent n s
  else match x.bad with
    | some b => fetchFails false n b s
    | none =>
      let pc := (s.core n).pc
      let i := decodePair n (fetchWord s n pc) (fetchWord s n (pc + 4)) x.x x.y
      fetched false n i.1 i.2 s

/-- The steps that writes of DBG.STEP have asked for, and those that the stepped instructions themselves ask for, up to sixteen; each meets
what the list says, in its turn. -/
def runSteps : Nat → List StepSense → State → State
  | 0, _, s => { s with steps := [] }
  | k + 1, xs, s => match s.steps with
    | [] => s
    | (n, e) :: r => runSteps k xs.tail (coreStep n e (xs.headD {}) { s with steps := r })

/-- An access has ended: the steps it asked for are run. -/
def settleWith (xs : List StepSense) (s : State) : State := if s.steps.isEmpty then s else runSteps 16 xs s

/-- The same where the memories present nothing amiss. -/
def settle (s : State) : State := settleWith [] s

end Sys2Proof.Machine
end

