-- ==== Sys2Proof/Machine/Access.lean ====
section
/-!
DEFINITION. Sys2Proof/Machine/Access.lean: the commands that are one bus access of a master (spec/02_register_pages.md, R6, R16 to R27),
each at the register its row names, the debug transport (spec/15_glemi_programming_model.md, R269, R271), and the end of an unlock.
-/
namespace Sys2Proof.Machine

/-! ### One access -/

/-- What the bus returned to a master. -/
def State.setReply (s : State) (m : Nat) (r : Reply) : State := { s with replies := SMap.put (fun _ => {}) s.replies m r }

/-- A read of `n` bytes by a master while the bus runs. -/
def accRead (m : Master) (a n : Nat) (x : Sense) (s : State) : State :=
  if !busLive s then s
  else
    let r := busRead (masterIdx m) a n x s
    (settle r.2).setReply (masterIdx m) r.1

/-- A write of the low `n` bytes of a word by a master while the bus runs. -/
def accWrite (m : Master) (a n : Nat) (v : Word) (s : State) : State :=
  if !busLive s then s
  else
    let r := busWrite (masterIdx m) a n v.toNat s
    (settle r.2).setReply (masterIdx m) r.1

/-- A write of DBG.STEP; the stepped instructions meet what `xs` says, in their order. -/
def accStep (m : Master) (v : Word) (xs : List StepSense) (s : State) : State :=
  if !busLive s then s
  else
    let r := busWrite (masterIdx m) DBG_STEP_CORE.addr 4 v.toNat s
    (settleWith xs r.2).setReply (masterIdx m) r.1

/-- A write of one word. -/
def accWord (m : Master) (a : Nat) (v : Word) (s : State) : State := accWrite m a 4 v s

/-- A read of one word. -/
def accWordRead (m : Master) (a : Nat) (s : State) : State := accRead m a 4 {} s

/-- QCMD's word for an operation. -/
def qcmdWord (op lane q : Nat) : Word := w32 (op * 2 ^ 28 + lane * 2 ^ 24 + q)

/-! ### The page header, unlocks and words without a row of their own (R6, R20, R22, R23) -/

/-- `WARM_RESET_GO`. -/
def execWarmResetGo (m : Master) (s : State) : Out := done s (accWord m SYS_WARM_RESET_GO.addr 1 s)

/-- `SOFT_RESET`. -/
def execSoftReset (m : Master) (p : Nat) (s : State) : Out := done s (accWord m (PG_CTRL_ENABLE p).addr 4 s)

/-- `COMMIT`. -/
def execCommit (m : Master) (p : Nat) (v : Word) (s : State) : Out := done s (accWord m (PG_CTRL_ENABLE p).addr v s)

/-- `PG_KEY_WRITE`. -/
def execPgKeyWrite (m : Master) (p : Nat) (v : Word) (s : State) : Out := done s (accWord m (pageBase p + 0x1C) v s)

/-- `REGISTER_WRITE`. -/
def execRegisterWrite (m : Master) (a n : Nat) (v : Word) (s : State) : Out := done s (accWrite m a n v s)

/-- `ALIAS_WRITE`. -/
def execAliasWrite (m : Master) (a : Nat) (v : Word) (s : State) : Out := done s (accWord m a v s)

/-- `READ_CLEAR`. -/
def execReadClear (m : Master) (a n : Nat) (x : Sense) (s : State) : Out := done s (accRead m a n x s)

/-! ### Power and Hearth (R348 to R353) -/

/-- `PWR_REQ_RUN`. -/
def execPwrReqRun (m : Master) (s : State) : Out := done s (accWord m BELLOWS_PWR_REQ_GO.addr 0x80000000 s)

/-- `PWR_REQ_WATCH`. -/
def execPwrReqWatch (m : Master) (s : State) : Out := done s (accWord m BELLOWS_PWR_REQ_GO.addr 0x80000001 s)

/-- `PWR_REQ_DOZE`. -/
def execPwrReqDoze (m : Master) (s : State) : Out := done s (accWord m BELLOWS_PWR_REQ_GO.addr 0x80000002 s)

/-- `PWR_REQ_OFF_KEEP`. -/
def execPwrReqOffKeep (m : Master) (s : State) : Out := done s (accWord m BELLOWS_PWR_REQ_GO.addr 0x80000003 s)

/-- `ERASE_ALL`. -/
def execEraseAll (m : Master) (v : Word) (s : State) : Out := done s (accWord m HEARTH_CMD_ERASE_ALL.addr (v ||| 1) s)

/-- `COMPACT`. -/
def execCompact (m : Master) (v : Word) (s : State) : Out := done s (accWord m HEARTH_CMD_COMPACT.addr (v ||| 2) s)

/-! ### The time base (R37, R39, R40, R46) -/

/-- `TB_SNAP`. -/
def execTbSnap (m : Master) (s : State) : Out := done s (accWord m TB_SNAP_GO.addr 1 s)

/-- `TB_NOW_LO_READ`. -/
def execTbNowLoRead (m : Master) (s : State) : Out := done s (accWordRead m TB_NOW_LO_TB.addr s)

/-- `TB_NOW_HI_READ`. -/
def execTbNowHiRead (m : Master) (s : State) : Out := done s (accWordRead m TB_NOW_HI_TB.addr s)

/-- `PPS_CAP_LO_READ`. -/
def execPpsCapLoRead (m : Master) (s : State) : Out := done s (accWordRead m TB_PPS_CAP_LO_TB.addr s)

/-- `PPS_EXP_COMMIT`. -/
def execPpsExpCommit (m : Master) (v : Word) (s : State) : Out := done s (accWord m TB_PPS_EXP_HI_TB.addr v s)

/-- `TB_LOAD`: an admitted LOAD acts at the next TB update. -/
def execTbLoad (m : Master) (s : State) : Out := done s (
  let s1 := accWord m TB_CMD_LOAD.addr 1 s
  if loadDue s1 then updateNow s1 else s1)

/-! ### Compare channels and linked counters (R50, R51, R58 to R60) -/

/-- `CMP_COMMIT`. -/
def execCmpCommit (m : Master) (n : Nat) (v : Word) (s : State) : Out := done s (accWord m (CMP_CMP_HI_CMP n).addr v s)

/-- `PER_COMMIT`. -/
def execPerCommit (m : Master) (n : Nat) (v : Word) (s : State) : Out := done s (accWord m (CMP_PER_HI_PER n).addr v s)

/-- `PHASE_COMMIT`. -/
def execPhaseCommit (m : Master) (n : Nat) (v : Word) (s : State) : Out := done s (accWord m (CMP_PHASE_HI_PHASE n).addr v s)

/-- `CMP_ARM`. -/
def execCmpArm (m : Master) (n : Nat) (v : Word) (s : State) : Out := done s (accWord m (CMP_CTRL_ARM n).addr (v ||| 1) s)

/-- `LC_SNAP`. -/
def execLcSnap (m : Master) (v : Word) (s : State) : Out := done s (accWord m LC_SNAP_GO.addr v s)

/-- `LC_COUNT_READ`. -/
def execLcCountRead (m : Master) (n : Nat) (s : State) : Out := done s (accWordRead m (LC_COUNT_COUNT n).addr s)

/-- `LC_CAP_READ`. -/
def execLcCapRead (m : Master) (n : Nat) (s : State) : Out := done s (accWordRead m (LC_CAP_CAP n).addr s)

/-! ### The front end, window monitors and pulse generators (R77, R79, R83, R93, R97, R100) -/

/-- `HK_GO`. -/
def execHkGo (m : Master) (v : Word) (s : State) : Out := done s (accWord m AFE_COM_HK_CTRL_GO.addr (v ||| 0x100) s)

/-- `SM_START`. -/
def execSmStart (m : Master) (k : Nat) (v : Word) (s : State) : Out := done s (accWord m (AFE_COM_SM_CTRL_START k).addr (v ||| 0x1000000) s)

/-- `SM_ABORT`. -/
def execSmAbort (m : Master) (k : Nat) (v : Word) (s : State) : Out := done s (accWord m (AFE_COM_SM_CTRL_ABORT k).addr (v ||| 0x2000000) s)

/-- `CHECK_SWAP`. -/
def execCheckSwap (m : Master) (n : Nat) (s : State) : Out := done s (accWord m (WM_CHECK_CMD n).addr 1 s)

/-- `CHECK_ZERO`. -/
def execCheckZero (m : Master) (n : Nat) (s : State) : Out := done s (accWord m (WM_CHECK_CMD n).addr 2 s)

/-- `CHECK_HALF`. -/
def execCheckHalf (m : Master) (n : Nat) (s : State) : Out := done s (accWord m (WM_CHECK_CMD n).addr 3 s)

/-- `CHECK_FULL`. -/
def execCheckFull (m : Master) (n : Nat) (s : State) : Out := done s (accWord m (WM_CHECK_CMD n).addr 4 s)

/-- `PG_START`. -/
def execPgStart (m : Master) (v : Word) (s : State) : Out := done s (accWord m PG_START_GO.addr v s)

/-- `TRIP_CLEAR`. -/
def execTripClear (m : Master) (v : Word) (s : State) : Out := done s (accWord m PG_TRIPPED_TRIP.addr v s)

/-! ### Channels (R117, R118, R132, R135, R137) -/

/-- `CHANNEL_ENABLE`. -/
def execChannelEnable (m : Master) (c : Nat) (v : Word) (s : State) : Out := done s (accWord m (SCHED_CH0_EN c).addr (v ||| 0x80000000) s)

/-- `CHANNEL_DISABLE`. -/
def execChannelDisable (m : Master) (c : Nat) (v : Word) (s : State) : Out := done s (accWord m (SCHED_CH0_EN c).addr (v &&& 0x7FFFFFFF) s)

/-- `DESCRIPTOR_WRITE`. -/
def execDescriptorWrite (m : Master) (c i : Nat) (v : Word) (s : State) : Out := done s (accWord m ((SCHED_CH0_EN c).addr + 4 * i) v s)

/-- `GROUP_SYNC`. -/
def execGroupSync (m : Master) (k : Nat) (s : State) : Out := done s (accWord m SCHED_SYNC_GO.addr (w32 (2 ^ 31 + k)) s)

/-- `SWAP`. -/
def execSwap (m : Master) (v : Word) (s : State) : Out := done s (accWord m SCHED_SWAP_GO.addr (v ||| 0x80000000) s)

/-- `RETUNE`. -/
def execRetune (m : Master) (c : Nat) (s : State) : Out := done s (accWord m SCHED_RETUNE_GO.addr (w32 (2 ^ 31 + c)) s)

/-! ### Hardy (R190, R200, R201, R208) -/

/-- `SLOT_ENABLE`. -/
def execSlotEnable (m : Master) (n : Nat) (v : Word) (s : State) : Out := done s (accWord m (HARDYF_SLOT0_EN n).addr (v ||| 0x80000000) s)

/-- `SLOT_CONFIG_WRITE`. -/
def execSlotConfigWrite (m : Master) (n i : Nat) (v : Word) (s : State) : Out := done s (accWord m ((HARDYF_SLOT0_EN n).addr + 4 * i) v s)

/-- `HARDY_SLOT_READ`. -/
def execHardySlotRead (m : Master) (n : Nat) (s : State) : Out := done s (accWordRead m (HARDYF_SLOT8_RESULT0 n).addr s)

/-- `RULE_WRITE`. -/
def execRuleWrite (m : Master) (r i : Nat) (v : Word) (s : State) : Out := done s (accWord m ((HARDYK_RULE0_EN r).addr + 4 * i) v s)

/-! ### Ports, sequencers and attendance (R159, R165, R183, R185) -/

/-- `SPI_AUTO_GO`. -/
def execSpiAutoGo (m : Master) (p : Nat) (v : Word) (s : State) : Out := done s (accWord m (PORT_SPI_AUTO_GO p).addr (v ||| 0x80000000) s)

/-- `SPI_AUTO_STOP`. -/
def execSpiAutoStop (m : Master) (p : Nat) (v : Word) (s : State) : Out := done s (accWord m (PORT_SPI_AUTO_STOP p).addr (v ||| 0x40000000) s)

/-- `SEQ_START`. -/
def execSeqStart (m : Master) (v : Word) (s : State) : Out := done s (accWord m SEQ_START_GO.addr v s)

/-- `SEQ_STOP`. -/
def execSeqStop (m : Master) (v : Word) (s : State) : Out := done s (accWord m SEQ_STOP_GO.addr v s)

/-- `ATT_CLEAR`. -/
def execAttClear (m : Master) (v : Word) (s : State) : Out := done s (accWord m ATT_CLEAR_GO.addr (v ||| 0x80000000) s)

/-! ### Tongs (R233, R240) -/

/-- `WR_OPEN`. -/
def execWrOpen (m : Master) (v : Word) (s : State) : Out := done s (accWord m (TONGS_WR_OPEN_GO (masterIdx m)).addr v s)

/-- `WR_DATA`. -/
def execWrData (m : Master) (v : Word) (s : State) : Out := done s (accWord m (TONGS_WR_DATA_WORD (masterIdx m)).addr v s)

/-- `WR_CLOSE`. -/
def execWrClose (m : Master) (v : Word) (s : State) : Out := done s (accWord m (TONGS_WR_CLOSE_GO (masterIdx m)).addr v s)

/-- `RD_DATA`. -/
def execRdData (m : Master) (u : Upset) (s : State) : Out := done s (accRead m (TONGS_RD_DATA_WORD (masterIdx m)).addr 4 { up := u } s)

/-- `SKIP`. -/
def execSkip (m : Master) (s : State) : Out := done s (accWord m (TONGS_RD_CTRL_SKIP (masterIdx m)).addr 1 s)

/-- `MARK`. -/
def execMark (m : Master) (q lane : Nat) (s : State) : Out := done s (accWord m TONGS_QCMD_OP.addr (qcmdWord 1 lane q) s)

/-- `REWIND`. -/
def execRewind (m : Master) (q lane : Nat) (s : State) : Out := done s (accWord m TONGS_QCMD_OP.addr (qcmdWord 2 lane q) s)

/-- `RELEASE`. -/
def execRelease (m : Master) (q : Nat) (s : State) : Out := done s (accWord m TONGS_QCMD_OP.addr (qcmdWord 3 0 q) s)

/-- `FLUSH`. -/
def execFlush (m : Master) (q : Nat) (s : State) : Out := done s (accWord m TONGS_QCMD_OP.addr (qcmdWord 4 0 q) s)

/-! ### Events (R247, R248, R250, R369) -/

/-- `TAKE`. -/
def execTake (m : Master) (t : TakeRead) (s : State) : Out := done s (accRead m (EVC_TAKE_RECORD t.target).addr 4 t.x s)

/-- `EOI`. -/
def execEoi (m : Master) (t level : Nat) (s : State) : Out := done s (accWord m (EVC_EOI_LEVEL t).addr (w32 level) s)

/-- `STACK_RESET`. -/
def execStackReset (m : Master) (t : Nat) (s : State) : Out := done s (accWord m (EVC_STACK_RESET_GO t).addr 1 s)

/-- `SOURCE_ENTRY_WRITE`. -/
def execSourceEntryWrite (m : Master) (n : Nat) (v : Word) (s : State) : Out := done s (accWord m (EVC_SRC0_WAKE n).addr v s)

/-! ### Cores and debug (R266, R267, R270) -/

/-- `CORE_RESET`. -/
def execCoreReset (m : Master) (n : Nat) (v : Word) (s : State) : Out := done s (accWord m (CORE_CTRL_RESET n).addr (v ||| 4) s)

/-- `FENCE`. -/
def execFence (m : Master) (n : Nat) (v : Word) (s : State) : Out := done s (accWord m (CORE_CTRL_FENCE n).addr (v ||| 2) s)

/-- `CORE_RUN`. -/
def execCoreRun (m : Master) (n : Nat) (v : Word) (s : State) : Out := done s (accWord m (CORE_CTRL_RUN n).addr (v ||| 1) s)

/-- `WDOG_KICK`. -/
def execWdogKick (m : Master) (n : Nat) (v : Word) (s : State) : Out := done s (accWord m (CORE_WDOG_KICK_KEY n).addr v s)

/-- `HALT`. -/
def execHalt (m : Master) (v : Word) (s : State) : Out := done s (accWord m DBG_HALT_CORE.addr v s)

/-- `STEP`. -/
def execStep (m : Master) (v : StepWrite) (s : State) : Out := done s (accStep m v.word v.xs s)

/-- `REG_DATA`. -/
def execRegData (m : Master) (wr : Bool) (v : Word) (s : State) : Out := done s (if wr then accWord m DBG_REG_DATA_VALUE.addr v s else accWordRead m DBG_REG_DATA_VALUE.addr s)

/-! ### Slices, images and the black box (R366, R373 to R375, R383 to R391) -/

/-- `TEST`. -/
def execSliceTest (m : Master) (x : Nat) (v : Word) (s : State) : Out := done s (accWord m (ANV_SL_CMD_TEST x).addr (v ||| 1) s)

/-- `UNFENCE`. -/
def execUnfence (m : Master) (x : Nat) (v : Word) (s : State) : Out := done s (accWord m (ANV_SL_CMD_TEST x).addr (v ||| 2) s)

/-- `DRAIN`. -/
def execDrain (m : Master) (x : Nat) (v : Word) (s : State) : Out := done s (accWord m (ANV_SL_CMD_TEST x).addr (v ||| 4) s)

/-- `ERASE`. -/
def execImgErase (m : Master) (v : Word) (s : State) : Out := done s (accWord m IMG_CMD_ERASE.addr (v ||| 1) s)

/-- `VERIFY`. -/
def execVerify (m : Master) (v : Word) (s : State) : Out := done s (accWord m IMG_CMD_ERASE.addr (v ||| 2) s)

/-- `IMG_SWAP`. -/
def execImgSwap (m : Master) (v : Word) (s : State) : Out := done s (accWord m IMG_CMD_ERASE.addr (v ||| 4) s)

/-- `CONFIRM`. -/
def execConfirm (m : Master) (v : Word) (s : State) : Out := done s (accWord m IMG_CMD_ERASE.addr (v ||| 8) s)

/-- `LOAD_DATA`. -/
def execLoadData (m : Master) (v : Word) (s : State) : Out := done s (accWord m IMG_LOAD_DATA_WORD.addr v s)

/-- `FREEZE`. -/
def execFreeze (m : Master) (s : State) : Out := done s (accWord m BBOX_CMD_FREEZE.addr 1 s)

/-- `BB_RELEASE`. -/
def execBbRelease (m : Master) (s : State) : Out := done s (accWord m BBOX_CMD_FREEZE.addr 2 s)

/-- `ERASE_COPY`. -/
def execEraseCopy (m : Master) (s : State) : Out := done s (accWord m BBOX_CMD_FREEZE.addr 4 s)

/-- `SW_CODE`. -/
def execSwCode (m : Master) (v : Word) (s : State) : Out := done s (accWord m BBOX_SW_CODE_CODE.addr v s)

/-- `BBOX_SLOT_READ`. -/
def execBboxSlotRead (m : Master) (slot : Nat) (s : State) : Out := done s (accWordRead m (0x28000000 + 16 * slot) s)

/-! ### The ring (R315) -/

/-- `RING_GRANT_WRITE`. -/
def execRingGrantWrite (m : Master) (v : Word) (s : State) : Out := done s (accWord m RING_GRANT_GO.addr (v ||| 0x80000000) s)

/-! ### The end of an unlock (R23) -/

/-- `UNLOCK_EXPIRE`: 1,024 BUS cycles have passed since the second key word. R23 names no KEY_FAIL for the end of an unlock by time, and none is
set (DEDUCED, log entry 12: the list of steps names KEY_FAIL beside this one). -/
def execUnlockExpire (m : Master) (p : Nat) (s : State) : Out :=
  done s (if (s.key p (masterIdx m)).opens then s.setKey p (masterIdx m) (s.key p (masterIdx m)).shut else s)

/-! ### The debug transport (R269, R271) -/

/-- EXTEST and DBGACC are accepted: DBG is READY and not LOCKED. -/
def tapOpen (s : State) : Bool := s.ready 0x5F && !s.on DBG_CTRL_LOCKED

/-- An instruction register value is loaded; one that is not accepted acts as BYPASS. The data register then captures `out`. -/
def tapLoad (ir out : Nat) (s : State) : State := { s with tap := { s.tap with ir := ir, out := out } }

/-- The boundary-scan register captures the pins: their number and order are not in the manual (DESIGN CHOICE, log entry 6). -/
def tapScan (ir : Nat) (s : State) : State :=
  let (v, s1) := s.draw
  tapLoad ir v s1

/-- BYPASS captures 0. -/
def tapBypass (s : State) : State := tapLoad 0x1F 0 s

/-- The response codes of DBGACC. -/
def tapCode : Resp → Nat
  | .ok => 0
  | .notReady => 1
  | .busError => 2

/-- The result of a DBGACC access. -/
def tapDone (r : Reply) (s : State) : State := { s with tap := { s.tap with data := r.data, resp := tapCode r.resp } }

/-- Update-DR of DBGACC: the access as master DBG; while the bus does not run the register answers BUSY. -/
def tapAccess (op a : Nat) (v : Word) (x : Sense) (s : State) : State :=
  if op ≠ 1 ∧ op ≠ 2 then s
  else if !busLive s then { s with tap := { s.tap with resp := 3 } }
  else
    let s1 := if op = 1 then accRead .dbg a 4 x s else accWrite .dbg a 4 v s
    tapDone (SMap.get (fun _ => {}) s1.replies 6) s1

/-- `EXTEST`. -/
def execExtest (s : State) : Out := done s (if tapOpen s then tapScan 0x00 s else tapBypass s)

/-- `SAMPLE_PRELOAD`. -/
def execSamplePreload (s : State) : Out := done s (tapScan 0x01 s)

/-- `IDCODE`. -/
def execIdcode (s : State) : Out := done s (tapLoad 0x02 Config.idcode.toNat s)

/-- `DBGACC`: Capture-DR shows the data and response of the last access, then OP, ADDR and DATA are shifted in and Update-DR performs the
access. -/
def execDbgacc (op a : Nat) (v : Word) (x : Sense) (s : State) : Out :=
  done s (if tapOpen s then
    tapAccess op a v x (tapLoad 0x08 (s.tap.data.toNat * 2 ^ 6 + s.tap.resp * 2 ^ 4) s)
    else tapBypass s)

/-- `BYPASS`: 0x1F and every other code. -/
def execBypass (_ir : Nat) (s : State) : Out := done s (tapBypass s)

end Sys2Proof.Machine
end

