-- ==== Sys2Proof/Machine/BringUp.lean ====
section
/-!
DEFINITION. Sys2Proof/Machine/BringUp.lean: a page restores after a COLD or WARM reset (spec/00_scope.md, R10;
spec/19_bring_up_and_hearth.md, R336 to R339, R345).
-/
namespace Sys2Proof.Machine

/-- A restored word acts as a live write, with no lock check (R10, R337). -/
def liveWrite (p a mask img : Nat) (s : State) : State :=
  if headerWord a then s.setWord a (w32 (without (s.word a).toNat mask + (img &&& mask)))
  else match rowAt a with
    | none => s
    | some (r, _) =>
      if (sharedWord s a).isSome then s
      else
        let old := writeBase s a r.flds
        blockWrite p ((a - 0x40000000) % 0x4000) { m := 6, a := a, old := old, new := without old mask + (img &&& mask), wo := 0, w1c := 0, acts := false } s

/-- The image of TB or CMP after a WARM reset: live writes in ascending offset, but for the fields that WARM leaves unchanged. ARM stands in
ARM_LO, ARM_HI and CTRLn alike and is written once, with CTRLn, after the channel's PERIOD and PHASE (DESIGN CHOICE, log entry 16). -/
def liveImage (p : Nat) (img : List Nat) (s : State) : State :=
  ((imageWords p).zip img).foldl (fun t w => liveWrite p w.1.1 (without w.1.2 (warmMask w.1.1)) w.2 t) s

/-- The black box page after a WARM reset stands but for its Kept fields, which take their Reset values before the image is applied. -/
def keptToReset (p : Nat) (s : State) : State :=
  (imageWords p).foldl (fun t w => t.setWord w.1 (w32 (without (t.word w.1).toNat w.2 + ((regReset w.1).toNat &&& w.2)))) s

/-- The restored low words of PERIOD and PHASE are the last ones written (R50). -/
def cmpLows (s : State) : State :=
  (List.range 64).foldl (fun t n =>
    t.setCmp n { t.cmp n with perLo := t.word (CMP_PER_LO_PER n).addr, phaseLo := t.word (CMP_PHASE_LO_PHASE n).addr }) s

/-- What a restored image does beside its fields: the compare channels hold its low words, and a linked counter that names itself sets
SELF_MASTER (R56). -/
def imageEffects (p : Nat) (s : State) : State := match p with
  | 0x03 => cmpLows s
  | 0x04 => (List.range 16).foldl (fun t n => lcCfgWritten n t) s
  | _ => s

/-- The restored image reaches the page's fields (R10, R337, R345). -/
def imageApplies (warm : Bool) (p : Nat) (img : List Nat) (s : State) : State :=
  if !warm then imageEffects p (applyImage p img (fun _ => 0) s)
  else if p = 0x02 ∨ p = 0x03 then liveImage p img s
  else imageEffects p (applyImage p img warmMask s)

/-- A lower generation than the newest was used: the page's bit in HEARTH.FALLBACK, source 563 and a black-box record. -/
def fellBack (p gen : Nat) (s : State) : State :=
  bbRecord 0x0081 (p + gen * 2 ^ 32) (pulse 563 (s.raise ⟨(HEARTH_FALLBACK_PAGE (p / 32)).addr, p % 32, 1⟩))

/-- Hearth's answer for a page: its fields, PG_GEN and RESTORED or DEFAULTED. -/
def restoreFields (warm : Bool) (p : Nat) (s : State) : State :=
  let s0 := if warm && p == 0x59 then keptToReset p s else s
  match (if bit (s.get SYS_STRAPS_LEVEL) 0 then none else pageGen s p) with
  | some (g, img, _, low) =>
    let s1 := ((imageApplies warm p img s0).set (PG_GEN_GEN p) g).set (PG_STAT_RESTORED p) 1
    let s2 := s1.clear (PG_STAT_DEFAULTED p)
    if low then fellBack p g s2 else s2
  | none => ((s0.set (PG_GEN_GEN p) 0).clear (PG_STAT_RESTORED p)).raise (PG_STAT_DEFAULTED p)

/-- The next page in the order of R336 is `p`, and the clocks that its step of R335 needs run. -/
def restoreDue (s : State) (p : Nat) : Bool :=
  s.boot.todo.head? == some p && !s.pwr.held && !s.pwr.off && decide (s.clksrc < 2) && (p != 0x01 || s.clksrc == 0)

/-- `PAGE_RESTORE`: the page restores, starts its block and becomes READY. -/
def pageRestore (p : Nat) (s : State) : State :=
  if !restoreDue s p then s
  else
    let warm := s.boot.warm
    let s1 := restoreFields warm p { s with boot := { s.boot with todo := s.boot.todo.tail } }
    let s2 := (s1.raise (PG_STAT_READY p)).clear (PG_STAT_BUSY p)
    sampleLevels (refCheck (blockStart (if warm then .warm else .cold) p s2))
def execPageRestore (p : Nat) (s : State) : Out := done s (pageRestore p s)

end Sys2Proof.Machine
end

