-- ==== Sys2Proof/Machine/GlemiExec.lean ====
section
/-!
DEFINITION. Sys2Proof/Machine/GlemiExec.lean: the commands of the Glemi-32 families: core n executes one instruction, or one iteration of a
prefixed string instruction (spec/16_glemi_instruction_set.md). Only a core that runs executes; for any other the command has no effect.
-/
namespace Sys2Proof.Machine

/-! ### The ALU group (R274) -/

/-- `ADD`. -/
def execAdd (n rd ra rb : Nat) (s : State) : Out := done s (settle (instr n 1 (addBody n rd ra rb) s))

/-- `ADC`. -/
def execAdc (n rd ra rb : Nat) (s : State) : Out := done s (settle (instr n 1 (adcBody n rd ra rb) s))

/-- `SUB`. -/
def execSub (n rd ra rb : Nat) (s : State) : Out := done s (settle (instr n 1 (subBody n rd ra rb) s))

/-- `SBC`. -/
def execSbc (n rd ra rb : Nat) (s : State) : Out := done s (settle (instr n 1 (sbcBody n rd ra rb) s))

/-- `CMP`. -/
def execCmp (n ra rb : Nat) (s : State) : Out := done s (settle (instr n 1 (cmpBody n ra rb) s))

/-- `NEG`. -/
def execNeg (n rd ra : Nat) (s : State) : Out := done s (settle (instr n 1 (negBody n rd ra) s))

/-- `AND`. -/
def execAndR (n rd ra rb : Nat) (s : State) : Out := done s (settle (instr n 1 (andBody n rd ra rb) s))

/-- `OR`. -/
def execOrR (n rd ra rb : Nat) (s : State) : Out := done s (settle (instr n 1 (orBody n rd ra rb) s))

/-- `XOR`. -/
def execXorR (n rd ra rb : Nat) (s : State) : Out := done s (settle (instr n 1 (xorBody n rd ra rb) s))

/-- `ANDN`. -/
def execAndnR (n rd ra rb : Nat) (s : State) : Out := done s (settle (instr n 1 (andnBody n rd ra rb) s))

/-- `NOT`. -/
def execNotR (n rd ra : Nat) (s : State) : Out := done s (settle (instr n 1 (notBody n rd ra) s))

/-- `TST`. -/
def execTst (n ra rb : Nat) (s : State) : Out := done s (settle (instr n 1 (tstBody n ra rb) s))

/-- `MOV`. -/
def execMov (n rd ra : Nat) (s : State) : Out := done s (settle (instr n 1 (movBody n rd ra) s))

/-- `LSL`. -/
def execLsl (n rd ra rb : Nat) (s : State) : Out := done s (settle (instr n 1 (lslBody n rd ra rb) s))

/-- `LSR`. -/
def execLsr (n rd ra rb : Nat) (s : State) : Out := done s (settle (instr n 1 (lsrBody n rd ra rb) s))

/-- `ASR`. -/
def execAsr (n rd ra rb : Nat) (s : State) : Out := done s (settle (instr n 1 (asrBody n rd ra rb) s))

/-- `ROR`. -/
def execRor (n rd ra rb : Nat) (s : State) : Out := done s (settle (instr n 1 (rorBody n rd ra rb) s))

/-- `MUL`. -/
def execMul (n rd ra rb : Nat) (s : State) : Out := done s (settle (instr n 1 (mulBody n rd ra rb) s))

/-- `MULHS`. -/
def execMulhs (n rd ra rb : Nat) (s : State) : Out := done s (settle (instr n 1 (mulhsBody n rd ra rb) s))

/-- `MULHU`. -/
def execMulhu (n rd ra rb : Nat) (s : State) : Out := done s (settle (instr n 1 (mulhuBody n rd ra rb) s))

/-- `DIVS`. -/
def execDivs (n rd rr ra rb : Nat) (s : State) : Out := done s (settle (instr n 1 (divsBody n rd rr ra rb) s))

/-- `DIVU`. -/
def execDivu (n rd rr ra rb : Nat) (s : State) : Out := done s (settle (instr n 1 (divuBody n rd rr ra rb) s))

/-- `SEXTB`. -/
def execSextb (n rd ra : Nat) (s : State) : Out := done s (settle (instr n 1 (sextbBody n rd ra) s))

/-- `SEXTH`. -/
def execSexth (n rd ra : Nat) (s : State) : Out := done s (settle (instr n 1 (sexthBody n rd ra) s))

/-- `ZEXTB`. -/
def execZextb (n rd ra : Nat) (s : State) : Out := done s (settle (instr n 1 (zextbBody n rd ra) s))

/-- `ZEXTH`. -/
def execZexth (n rd ra : Nat) (s : State) : Out := done s (settle (instr n 1 (zexthBody n rd ra) s))

/-- `CLZ`. -/
def execClz (n rd ra : Nat) (s : State) : Out := done s (settle (instr n 1 (clzBody n rd ra) s))

/-! ### Immediate instructions (R278) -/

/-- `ADDI`. -/
def execAddi (n rd ra imm : Nat) (s : State) : Out := done s (settle (instr n 1 (addiBody n rd ra imm) s))

/-- `ANDI`. -/
def execAndi (n rd ra imm : Nat) (s : State) : Out := done s (settle (instr n 1 (andiBody n rd ra imm) s))

/-- `ORI`. -/
def execOri (n rd ra imm : Nat) (s : State) : Out := done s (settle (instr n 1 (oriBody n rd ra imm) s))

/-- `XORI`. -/
def execXori (n rd ra imm : Nat) (s : State) : Out := done s (settle (instr n 1 (xoriBody n rd ra imm) s))

/-- `CMPI`. -/
def execCmpi (n ra imm : Nat) (s : State) : Out := done s (settle (instr n 1 (cmpiBody n ra imm) s))

/-- `LSLI`. -/
def execLsli (n rd ra k : Nat) (s : State) : Out := done s (settle (instr n 1 (lsliBody n rd ra k) s))

/-- `LSRI`. -/
def execLsri (n rd ra k : Nat) (s : State) : Out := done s (settle (instr n 1 (lsriBody n rd ra k) s))

/-- `ASRI`. -/
def execAsri (n rd ra k : Nat) (s : State) : Out := done s (settle (instr n 1 (asriBody n rd ra k) s))

/-- `RORI`. -/
def execRori (n rd ra k : Nat) (s : State) : Out := done s (settle (instr n 1 (roriBody n rd ra k) s))

/-- `MOVI`. -/
def execMovi (n rd imm : Nat) (s : State) : Out := done s (settle (instr n 1 (moviBody n rd imm) s))

/-- `MOVH`. -/
def execMovh (n rd imm : Nat) (s : State) : Out := done s (settle (instr n 1 (movhBody n rd imm) s))

/-- `ADR`. -/
def execAdr (n rd imm : Nat) (s : State) : Out := done s (settle (instr n 1 (adrBody n rd imm) s))

/-! ### Loads, stores and exchange (R279, R280) -/

/-- `LDB`. -/
def execLdb (n rd ra imm : Nat) (x : Sense) (s : State) : Out := done s (settle (instr n 1 (ldbBody n rd ra imm x) s))

/-- `LDBU`. -/
def execLdbu (n rd ra imm : Nat) (x : Sense) (s : State) : Out := done s (settle (instr n 1 (ldbuBody n rd ra imm x) s))

/-- `LDH`. -/
def execLdh (n rd ra imm : Nat) (x : Sense) (s : State) : Out := done s (settle (instr n 1 (ldhBody n rd ra imm x) s))

/-- `LDHU`. -/
def execLdhu (n rd ra imm : Nat) (x : Sense) (s : State) : Out := done s (settle (instr n 1 (ldhuBody n rd ra imm x) s))

/-- `LDW`. -/
def execLdw (n rd ra imm : Nat) (x : Sense) (s : State) : Out := done s (settle (instr n 1 (ldwBody n rd ra imm x) s))

/-- `STB`. -/
def execStb (n rd ra imm : Nat) (s : State) : Out := done s (settle (instr n 1 (stbBody n rd ra imm) s))

/-- `STH`. -/
def execSth (n rd ra imm : Nat) (s : State) : Out := done s (settle (instr n 1 (sthBody n rd ra imm) s))

/-- `STW`. -/
def execStw (n rd ra imm : Nat) (s : State) : Out := done s (settle (instr n 1 (stwBody n rd ra imm) s))

/-- `PUSH`. -/
def execPush (n rd : Nat) (s : State) : Out := done s (settle (instr n 1 (pushBody n rd) s))

/-- `POP`. -/
def execPop (n rd : Nat) (x : Sense) (s : State) : Out := done s (settle (instr n 1 (popBody n rd x) s))

/-- `SWP`. -/
def execSwp (n rd ra : Nat) (x : Sense) (s : State) : Out := done s (settle (instr n 1 (swpBody n rd ra x) s))

/-! ### Control transfer (R281, R282) -/

/-- `B`. -/
def execBranch (n cond off : Nat) (s : State) : Out := done s (settle (instr n 1 (branchBody n cond off) s))

/-- `CALL`. -/
def execCall (n off : Nat) (s : State) : Out := done s (settle (instr n 1 (callBody n off) s))

/-- `JR`. -/
def execJr (n ra : Nat) (s : State) : Out := done s (settle (instr n 1 (jrBody n ra) s))

/-- `CALLR`. -/
def execCallr (n ra : Nat) (s : State) : Out := done s (settle (instr n 1 (callrBody n ra) s))

/-! ### System instructions (R283) and undefined words (R272) -/

/-- `MFC`. -/
def execMfc (n rd cr : Nat) (s : State) : Out := done s (settle (instr n 1 (mfcBody n rd cr) s))

/-- `MTC`. -/
def execMtc (n cr ra : Nat) (s : State) : Out := done s (settle (instr n 1 (mtcBody n cr ra) s))

/-- `STSET`. -/
def execStset (n imm : Nat) (s : State) : Out := done s (settle (instr n 1 (stsetBody n imm) s))

/-- `STCLR`. -/
def execStclr (n imm : Nat) (s : State) : Out := done s (settle (instr n 1 (stclrBody n imm) s))

/-- `SYSCALL`. -/
def execSyscall (n imm : Nat) (s : State) : Out := done s (settle (instr n 1 (syscallBody n imm) s))

/-- `BREAK_INSTRUCTION`. -/
def execBreakInstr (n imm : Nat) (s : State) : Out := done s (settle (instr n 1 (breakBody n imm) s))

/-- `ERET`. -/
def execEret (n : Nat) (s : State) : Out := done s (settle (instr n 1 (eretBody n) s))

/-- `WAIT_INSTRUCTION`. -/
def execWaitInstr (n : Nat) (s : State) : Out := done s (settle (instr n 1 (waitBody n) s))

/-- `NOP`. -/
def execNop (n : Nat) (s : State) : Out := done s (settle (instr n 1 (nopBody n) s))

/-- `ILLEGAL`. -/
def execIllegal (n : Nat) (s : State) : Out := done s (settle (instr n 1 (illegalBody n) s))

/-! ### String instructions (R284) and the repeat prefix (R285 to R288) -/

/-- `MOVS`. -/
def execMovs (n size : Nat) (x : Sense) (s : State) : Out := done s (settle (instr n 1 (movsBody n size x) s))

/-- `FILL`. -/
def execFill (n size rv : Nat) (s : State) : Out := done s (settle (instr n 1 (fillBody n size rv) s))

/-- `SCAN`. -/
def execScan (n size rv : Nat) (x : Sense) (s : State) : Out := done s (settle (instr n 1 (scanBody n size rv x) s))

/-- `CMPS`. -/
def execCmps (n size : Nat) (x y : Sense) (s : State) : Out := done s (settle (instr n 1 (cmpsBody n size x y) s))

/-- `LDS`. -/
def execLds (n size rv : Nat) (x : Sense) (s : State) : Out := done s (settle (instr n 1 (ldsBody n size rv x) s))

/-- `STS`. -/
def execSts (n size rv : Nat) (s : State) : Out := done s (settle (instr n 1 (stsBody n size rv) s))

/-- `REP`. -/
def execRep (n : Nat) (o : StrOp) (x y : Sense) (s : State) : Out := done s (settle (instr n 2 (repBody n o x y) s))

/-- `REPZ`. -/
def execRepz (n : Nat) (o : StrOp) (x y : Sense) (s : State) : Out := done s (settle (instr n 2 (repzBody n o x y) s))

/-- `REPNZ`. -/
def execRepnz (n : Nat) (o : StrOp) (x y : Sense) (s : State) : Out := done s (settle (instr n 2 (repnzBody n o x y) s))

/-- `ILLEGAL_PREFIX`. -/
def execIllegalPrefix (n : Nat) (s : State) : Out := done s (settle (instr n 2 (illegalPrefixBody n) s))

end Sys2Proof.Machine
end

