-- ==== Sys2Proof/Machine/HostPort.lean ====
section
/-!
DEFINITION. Sys2Proof/Machine/HostPort.lean: the commands of the host port (spec/17_host_port.md, R290 to R306) and the remote operations
(spec/18_niong_ring.md, R331). A command carries its arguments and data as the host clocked them; what the hub drove stands in `out`.
-/
namespace Sys2Proof.Machine

/-! ### The frame of a transaction (R291, R295, R296) -/

/-- The status byte with RESP. -/
def statusByte (resp : Nat) (s : State) : Nat :=
  128 * b2n (s.on HOST_ATTN_LEVEL) + 64 * b2n (s.on HOST_STAT_WAKE_REQ) + 32 * b2n (s.on HOST_STAT_REMOTE_DONE)
    + 16 * b2n (s.on HOST_STAT_LATE) + 4 * s.host.prev + resp

/-- A command arrives: the port answers while the bus runs. -/
def transaction (f : State → State) (s : State) : State :=
  if !busLive s then s else settle (f { s with host := { s.host with active := true, out := [] } })

/-- The end of a transaction with what the hub drove, unless a reset has cut it. -/
def drove (bytes : List Nat) (s : State) : State :=
  if s.host.active then { s with host := { s.host with active := false, out := bytes } } else s

/-- One access of the host in the transaction, with its response and read data; none once a reset has cut it. -/
def hostRead (a : Nat) (x : Sense) (s : State) : Reply × State := if s.host.active then busRead 4 a 4 x s else ({}, s)
def hostWrite (a : Nat) (v : Word) (s : State) : Reply × State := if s.host.active then busWrite 4 a 4 v.toNat s else ({}, s)

/-- A response as the port reports it. -/
def respCode : Resp → Nat
  | .ok => 0
  | .notReady => 1
  | .busError => 2

/-- The response of several accesses: BUS_ERROR, else NOT_READY, else OK (R296). -/
def worst (rs : List Nat) : Nat := rs.foldl max 0

/-- A write command has ended: PREV, and the record of a failed one (R295). -/
def writeEnds (cmd : HostCmd) (resp tongs addr : Nat) (s : State) : State :=
  let s1 : State := { s with host := { s.host with prev := resp } }
  if resp = 0 ∨ s1.on HOST_LAST_INFO_VALID then s1
  else ((((s1.set HOST_LAST_ADDR_ADDR addr).set HOST_LAST_INFO_CMD cmd.byte).set HOST_LAST_INFO_TONGS tongs).set HOST_LAST_INFO_RESP resp).raise
    HOST_LAST_INFO_VALID

/-- A sticky error of the port: its STAT bit and source 544. -/
def hostError (f : Fld) (s : State) : State := pulse 544 (s.raise f)

/-! ### RD, WR and STATUS (R293 to R296) -/

/-- Accesses of N words in address order: the responses and the words read, a failed access reading 0. -/
def readWords (a : Nat) (xs : List Sense) : Nat → State → List (Nat × Nat) × State
  | 0, s => ([], s)
  | n + 1, s =>
    let r := hostRead a (xs.headD {}) s
    let t := readWords ((a + 4) % 2 ^ 32) xs.tail n r.2
    ((respCode r.1.resp, if r.1.resp = .ok then r.1.data.toNat else 0) :: t.1, t.2)

/-- Writes of words in address order: the responses. -/
def hostWrites (a : Nat) : List Word → State → List (Nat × Nat) × State
  | [], s => ([], s)
  | v :: r, s =>
    let x := hostWrite a v s
    let t := hostWrites ((a + 4) % 2 ^ 32) r x.2
    ((respCode x.1.resp, a) :: t.1, t.2)

/-- Words stored in a bank of registers. -/
def storeBank (f : Nat → Fld) (ws : List Nat) (s : State) : State := (ws.zip (List.range 16)).foldl (fun t w => t.set (f w.2) w.1) s

/-- RD. With a dummy phase that was too short the words go to LATE_DATA and the status is BUSY. -/
def hostRd (a k : Nat) (late : Bool) (xs : List Sense) (s : State) : State :=
  let r := readWords a xs (k + 1) s
  let ws := r.1.map (fun x => x.2)
  let s1 := r.2
  if late then
    if !s1.host.active then s1
    else
      let s2 := (storeBank HOST_LATE_DATA_WORD ws (s1.set HOST_LATE_ADDR_ADDR a)).raise HOST_STAT_LATE
      drove (statusByte 3 s2 :: List.replicate (4 * (k + 1)) 0) s2
  else drove (statusByte (worst (r.1.map (fun x => x.1))) s1 :: ws.flatMap wordBytes) s1

/-- `RD`. -/
def execRdCmd (a k : Nat) (late : Bool) (xs : List Sense) (s : State) : Out := done s (transaction (hostRd a k late xs) s)

/-- WR: the complete words that arrived are written. -/
def hostWr (a : Nat) (ws : List Word) (s : State) : State :=
  let r := hostWrites a ws s
  let w := worst (r.1.map (fun x => x.1))
  if !r.2.host.active then r.2
  else drove [] (writeEnds .wr w 0 (((r.1.find? (fun x => x.1 == w)).map (fun x => x.2)).getD a) r.2)

/-- `WR`. -/
def execWrCmd (a _k : Nat) (ws : List Word) (s : State) : Out := done s (transaction (hostWr a ws) s)

/-- `STATUS`. -/
def execStatus (s : State) : Out :=
  done s (transaction (fun t => drove (statusByte 0 t :: wordBytes (livePage t 0x50 0x44 (t.word HOST_STAT_SLEEP.addr).toNat)) t) s)

/-! ### Queue reads (R297 to R299) -/

/-- TONGS and TONGS_Q have restored. -/
def queuesReady (s : State) : Bool := s.ready 0x40 && s.ready 0x41

/-- The word of the lookahead at the reader's place, if the port holds one there; one taken at a place that the reader has left since (by
REWIND, FLUSH, RELEASE or a reset) is never delivered (DESIGN CHOICE, log entry 31). -/
def aheadWord (s : State) (q : Nat) : Option Ahead :=
  match (s.queue q).place with
  | some r => s.host.ahead.find? (fun h => h.queue == q && h.pkt == r.id && h.at' == r.next)
  | none => none

/-- The port takes the queue's next word into the lookahead, where one is there to take: it stays undelivered (R293, R299). -/
def takeAhead (q : Nat) (u : Upset) (s : State) : State :=
  if ownerOf s q ≠ 4 then tongsFault 2 s
  else if (aheadWord s q).isSome then s
  else match (s.queue q).place with
    | none => s
    | some r => match (s.queue q).find r.id with
      | none => s
      | some p =>
        if p.published ≤ r.next then s
        else
          let h : Ahead := { queue := q, pkt := r.id, at' := r.next, word := s.memWord (p.addr r.next), up := u }
          { s with host := { s.host with ahead := s.host.ahead.filter (fun y => y.queue != q) ++ [h] } }

/-- A read by the host, of the word it holds in the lookahead first. -/
def hostTakes (q : Nat) (u : Upset) (s : State) : ReadOut × State :=
  match aheadWord s q with
  | none => readAs 4 q u s
  | some h =>
    let s1 : State := { s with host := { s.host with ahead := s.host.ahead.filter (fun y => y.queue != q) } }
    if ownerOf s q = 4 then readWord q h.up (some h.word) s1 else readAs 4 q u s1

/-- One word delivered to the host. The delivery of the EOP of a record of its queue is a take (R247). -/
def hostWord (q : Nat) (u : Upset) (s : State) : ReadOut × State :=
  let r := hostTakes q u s
  (r.1, match r.1.evc with
    | some e => takeHost e.1 e.2 r.2
    | none => r.2)

/-- Tag and word pairs, one for each word clocked. -/
def pairsOut (q : Nat) : List Upset → State → List Nat × State
  | [], s => ([], s)
  | u :: us, s =>
    let r := hostWord q u s
    let t := pairsOut q us r.2
    (r.1.tag :: wordBytes (if bit r.1.tag 7 then r.1.word else 0) ++ t.1, t.2)

/-- Where a QRD_P stands: inside a packet that an earlier read began; before a start tag; inside a packet, with LEN, the payload bytes
sent and the POISON met; past the last byte that is not 0. -/
inductive PktPlace where
  | inside
  | start
  | payload (len sent : Nat) (poison : Bool)
  | zeros
deriving DecidableEq, Repr

/-- One word of a QRD_P: the bytes it puts out, and where the read then stands. -/
def packetWord (q : Nat) (u : Upset) (at' : PktPlace) (s : State) : List Nat × PktPlace × State :=
  match at' with
  | .zeros => ([0, 0, 0, 0], .zeros, s)
  | .inside =>
    let (r, s1) := hostWord q u s
    (r.tag :: wordBytes (if bit r.tag 7 then r.word else 0), if bit r.tag 7 && bit r.tag 5 then .start else .inside, s1)
  | .start =>
    let (r, s1) := hostWord q u s
    if !bit r.tag 7 then ([r.tag], .zeros, s1)
    else
      let len := r.word % 2 ^ 16
      (r.tag :: wordBytes r.word, if len = 0xFFFF then .zeros else if len = 0 then .start else .payload len 0 (bit r.tag 4), s1)
  | .payload len sent poison =>
    let (r, s1) := hostWord q u s
    let bad := poison || bit r.tag 4
    let bs := (wordBytes r.word).take (min 4 (len - sent))
    if bit r.tag 5 then (bs ++ [0xA0 + 0x10 * b2n bad + bits r.tag 3 1 * 8], .start, s1)
    else (bs, .payload len (sent + 4) bad, s1)

/-- The words that the host clocks. -/
def packetsOut (q : Nat) : List Upset → PktPlace → State → List Nat × PktPlace × State
  | [], p, s => ([], p, s)
  | u :: us, p, s =>
    let (bs, p1, s1) := packetWord q u p s
    let (cs, p2, s2) := packetsOut q us p1 s1
    (bs ++ cs, p2, s2)

/-- The state of a queue read before its first word: the response, and whether the words are delivered. -/
def queueResp (late : Bool) (s : State) : Nat := if !queuesReady s then 1 else if late then 3 else 0

/-- A queue read whose first word is not ready reports BUSY; the word stays in the lookahead. -/
def queueLate (q : Nat) (late : Bool) (u : Upset) (s : State) : State :=
  if late && queuesReady s then takeAhead q u (s.raise HOST_STAT_LATE) else s

/-- QRD_W. -/
def hostQrdW (q : Nat) (late : Bool) (us : List Upset) (s : State) : State :=
  let resp := queueResp late s
  let s1 := queueLate q late (us.headD .clean) s
  let st := statusByte resp s1
  if resp ≠ 0 then drove (st :: List.replicate (5 * us.length) 0) s1
  else
    let s2 := if us.isEmpty ∧ ownerOf s1 q ≠ 4 then (readAs 4 q .clean s1).2 else s1
    let r := pairsOut q us s2
    drove (st :: r.1) r.2

/-- `QRD_W`: what the pool presented for each word that the host clocked whole. -/
def execQrdW (q : Nat) (late : Bool) (us : List Upset) (s : State) : Out := done s (transaction (hostQrdW q late us) s)

/-- QRD_P. With `under` the word after those of `us` was not available by its first byte. -/
def hostQrdP (q : Nat) (late : Bool) (us : List Upset) (under : Bool) (s : State) : State :=
  let resp := queueResp late s
  let s1 := queueLate q late (us.headD .clean) s
  let st := statusByte resp s1
  if resp ≠ 0 then drove (st :: List.replicate (5 * us.length) 0) s1
  else
    let p0 := if ownerOf s1 q = 4 ∧ (s1.queue q).reader.isSome then PktPlace.inside else .start
    let (bs, p, s2) := packetsOut q us p0 s1
    let s3 := match p with
      | .payload _ _ _ => if under then (hostError HOST_STAT_UNDERRUN s2).fault 0x50 1 else s2
      | _ => s2
    drove (st :: bs) s3

/-- `QRD_P`. -/
def execQrdP (q : Nat) (late : Bool) (us : List Upset) (under : Bool) (s : State) : Out :=
  done s (transaction (hostQrdP q late us under) s)

/-! ### Queue writes (R300) -/

/-- The words that bytes fill, the last one padded with zeros. -/
def wordsOfBytes (bs : List Nat) : Nat → List Word
  | 0 => []
  | n + 1 => w32 (leNat (bs.take 4)) :: wordsOfBytes (bs.drop 4) n

/-- QWR through Tongs write port 4. The address that LAST_ADDR then records is not in the manual (DESIGN CHOICE, log entry 6). -/
def hostQwr (v : Word) (len : Nat) (bs : List Byte) (s : State) : State :=
  let ended (resp tongs : Nat) (t : State) : State :=
    if !t.host.active then t
    else
      let (d, t1) := t.draw
      drove [] (writeEnds .qwr resp tongs d t1)
  if !v.getLsbD 31 then ended 3 0 s
  else
    let whole := bs.length == len
    let n := if whole then (len + 3) / 4 else bs.length / 4
    let o := hostWrite (TONGS_WR_OPEN_GO 4).addr v s
    if o.1.resp ≠ .ok then ended (respCode o.1.resp) 0 o.2
    else
      let r1 := o.2.get (TONGS_WR_STAT_RESULT 4)
      let s1 := (hostWrites' (wordsOfBytes (bs.map (fun b => b.toNat)) n) o.2)
      let s2 := (hostWrite (TONGS_WR_CLOSE_GO 4).addr (if whole then w32 (2 ^ 31 + (4 - len % 4) % 4) else 0xC0000000) s1).2
      let r2 := s2.get (TONGS_WR_STAT_RESULT 4)
      if r1 ≠ 0 then ended 3 r1 s2
      else if r2 = 3 ∨ !whole then ended 3 r2 s2
      else ended 0 r2 s2
where
  /-- Words to WR_DATA of port 4. -/
  hostWrites' (ws : List Word) (s : State) : State := ws.foldl (fun t w => (hostWrite (TONGS_WR_DATA_WORD 4).addr w t).2) s

/-- `QWR`: the WR_OPEN word, LEN and the bytes that arrived. -/
def execQwr (v : Word) (len : Nat) (bs : List Byte) (s : State) : Out := done s (transaction (hostQwr v len bs) s)

/-! ### Remote operations (R301, R331) -/

/-- RESULT from the response codes of the words. -/
def remoteCode (cs : List Nat) : Nat := if cs.contains 2 then 3 else if cs.contains 1 then 2 else 1

/-- A remote operation completes. -/
def remoteDone (result : Nat) (ws : List Nat) (s : State) : State :=
  let s1 := storeBank HOST_REMOTE_DATA_WORD ws (s.set HOST_REMOTE_STAT_RESULT result)
  let s2 : State := { s1 with host := { s1.host with remote := none } }
  pulse 545 (s2.raise HOST_STAT_REMOTE_DONE)

/-- RESP of RRD and RWR: 0 accepted, 3 BUSY, 2 BUS_ERROR. -/
def remoteResp (hub : Nat) (s : State) : Nat :=
  if s.host.remote.isSome then 3 else if !hasRing s.variant ∨ 63 < hub then 2 else 0

/-- An accepted operation: REMOTE_DONE clears and REMOTE_STAT describes it. -/
def remoteAccept (write : Bool) (hub k : Nat) (s : State) : State :=
  (((((s.clear HOST_STAT_REMOTE_DONE).set HOST_REMOTE_STAT_RESULT 0).set HOST_REMOTE_STAT_WRITE (b2n write)).set HOST_REMOTE_STAT_HUB hub).set
    HOST_REMOTE_STAT_N_M1 k)

/-- The operation goes out as one REG_REQ, or ends where it cannot. -/
def remoteSend (hub : Nat) (write : Bool) (n a : Nat) (ws : List Nat) (s : State) : State :=
  if !s.on RING_STAT_NUM_VALID || !ringHere s || (!portUp s 0 && !portUp s 1) then remoteDone 6 [] s
  else if !heldNumber s hub then remoteDone 4 [] s
  else
    let tag := s.host.tag % 256
    let (f, s1) := newFrame hub (.regReq write tag n a ws) s
    let s2 := ringCmd (sendLocal 0 f) s1
    { s2 with host := { s2.host with remote := some { tag := tag, since := s2.clk.age }, tag := (tag + 1) % 256 } }

/-- The hub addressed is this one. -/
def remoteLocal (hub : Nat) (s : State) : Bool := s.on RING_STAT_NUM_VALID && s.get SYS_HUB_NUMBER == hub

/-- RRD: its status byte is that of the moment before the operation. -/
def hostRrd (hub a k : Nat) (xs : List Sense) (s : State) : State :=
  let resp := remoteResp hub s
  let st := statusByte resp s
  if resp ≠ 0 then drove [st] s
  else
    let s1 := remoteAccept false hub k s
    if remoteLocal hub s1 then
      let r := readWords a xs (k + 1) s1
      if r.2.host.active then drove [st] (remoteDone (remoteCode (r.1.map (fun x => x.1))) (r.1.map (fun x => x.2)) r.2) else r.2
    else drove [st] (remoteSend hub false (k + 1) a [] s1)

/-- `RRD`. -/
def execRrd (hub a k : Nat) (xs : List Sense) (s : State) : Out := done s (transaction (hostRrd hub a k xs) s)

/-- RWR: the words that arrived whole are written. -/
def hostRwr (hub a k : Nat) (ws : List Word) (s : State) : State :=
  let resp := remoteResp hub s
  let st := statusByte resp s
  if resp ≠ 0 then drove [st] (writeEnds .rwr resp 0 a s)
  else
    let s1 := writeEnds .rwr 0 0 a (remoteAccept true hub k s)
    if ws.isEmpty then drove [st] (remoteDone 1 [] s1)
    else if remoteLocal hub s1 then
      let r := hostWrites a ws s1
      if r.2.host.active then drove [st] (remoteDone (remoteCode (r.1.map (fun x => x.1))) [] r.2) else r.2
    else drove [st] (remoteSend hub true ws.length a (ws.map (fun w => w.toNat)) s1)

/-- `RWR`. -/
def execRwr (hub a k : Nat) (ws : List Word) (s : State) : Out := done s (transaction (hostRwr hub a k ws) s)

/-- `REMOTE_TIMEOUT`: REMOTE_CFG.TIMEOUT µs have passed since the operation was sent. -/
def execRemoteTimeout (s : State) : Out :=
  done s (match s.host.remote with
    | some r => if passedUs s r.since (max 1 (s.get HOST_REMOTE_CFG_TIMEOUT)) then remoteDone 5 [] s else s
    | none => s)

/-- `REG_RESP`. -/
def takeRegResp (tag : Nat) (codes words : List Nat) (s : State) : State :=
  match s.host.remote with
  | some r =>
    if r.tag ≠ tag then s
    else
      let n := s.get HOST_REMOTE_STAT_N_M1 + 1
      remoteDone (remoteCode (codes.take n)) (if s.on HOST_REMOTE_STAT_WRITE then [] else words.take n) s
  | none => s
def execRegResp (p : Nat) (f : Frame) (s : State) : Out :=
  done s (match f.body with
    | .regResp tag cs ws => ringCmd (receive p f f (takeRegResp tag cs ws)) s
    | _ => s)

/-- The accesses of a REG_REQ as master RING. -/
def ringReads (a : Nat) (xs : List Sense) : Nat → State → List (Nat × Nat) × State
  | 0, s => ([], s)
  | n + 1, s =>
    let x := xs.headD {}
    let r := busRead 5 a 4 x s
    let t := ringReads ((a + 4) % 2 ^ 32) xs.tail n r.2
    ((respCode r.1.resp, if r.1.resp = .ok then r.1.data.toNat else 0) :: t.1, t.2)
def ringWrites (a : Nat) : List Nat → State → List (Nat × Nat) × State
  | [], s => ([], s)
  | v :: r, s =>
    let x := busWrite 5 a 4 v s
    let t := ringWrites ((a + 4) % 2 ^ 32) r x.2
    ((respCode x.1.resp, 0) :: t.1, t.2)

/-- `REG_REQ`: performed in address order and answered by the port it came by. -/
def takeRegReq (p src : Nat) (write : Bool) (tag n a : Nat) (ws : List Nat) (xs : List Sense) (s : State) : State :=
  let r := if write then ringWrites a ws s else ringReads a xs n s
  let codes := r.1.map (fun x => x.1)
  let (f, s1) := newFrame src (.regResp tag (codes ++ List.replicate (16 - codes.length) 0) (if write then [] else r.1.map (fun x => x.2))) r.2
  sendLocal p f s1
def execRegReq (p : Nat) (f : Frame) (xs : List Sense) (s : State) : Out :=
  done s (match f.body with
    | .regReq w tag n a ws => settle (ringCmd (receive p f f (takeRegReq p f.src w tag n a ws xs)) s)
    | _ => s)

/-! ### Width, errors and the other signals -/

/-- `RESET_WIDTH` (R292). -/
def execResetWidth (s : State) : Out := done s (transaction (fun t => drove [] ((t.set HOST_CFG_WIDTH 0).set HOST_CFG_DUMMY 16)) s)

/-- A command byte that is no command performs nothing. -/
def badCmd (s : State) : State :=
  transaction (fun t =>
    let t1 := (hostError HOST_STAT_BAD_CMD t).fault 0x50 0
    drove [statusByte 2 t1] t1) s

/-- `BAD_CMD`: a command byte that R294 does not list. -/
def execBadCmd (c : Nat) (s : State) : Out := done s (if hostCmdOf c = .bad then badCmd s else s)

/-- `ABORTED`: CS_N rises before the arguments of a command are complete. -/
def execAborted (c : Nat) (s : State) : Out :=
  done s (if (hostCmdOf c).args = 0 then s else transaction (fun t => drove [] (hostError HOST_STAT_ABORTED t)) s)

/-- A transaction as the host spelled it, in time and with nothing amiss in the memories; a queue read clocks `n` words. -/
def hostCall (n : Nat) (c : HostCall) (s : State) : Out := match c with
  | .rd a k => execRdCmd a k false [] s
  | .wr a k ws => execWrCmd a k ws s
  | .status => execStatus s
  | .qrdW q => execQrdW q false (List.replicate n .clean) s
  | .qrdP q => execQrdP q false (List.replicate n .clean) false s
  | .qwr v len bs => execQwr v len bs s
  | .rrd hub a k => execRrd hub a k [] s
  | .rwr hub a k ws => execRwr hub a k ws s
  | .resetWidth => execResetWidth s
  | .bad b => execBadCmd b s
  | .aborted b => execAborted b s

/-- `HOST_SELECT`: a falling edge of CS_N pulses source 585 in every power state, and WIDTH takes effect (R291, R359). -/
def hostSelect (s : State) : State :=
  if s.pwr.held || s.pwr.off then s
  else
    let s1 := pulse 585 s
    if busLive s1 then
      let w := s1.get HOST_CFG_WIDTH
      { s1 with host := { s1.host with width := if 5 ≤ w then 0 else w } }
    else s1
def execHostSelect (s : State) : Out := done s (hostSelect s)

/-- `HOST_SLEEP`: the ball takes a level (R303). -/
def hostSleep (level : Bool) (s : State) : State := sleepEval { s with host := { s.host with pin := level } }
def execHostSleep (level : Bool) (s : State) : Out := done s (hostSleep level s)

/-- The 16 BUS cycles of R304 have passed, each of 16 PLL-cycle lengths, or of 64 on the reference. -/
def holdoffOver (s : State) : Bool := passedAge s (some s.host.holdAt) (16 * (if s.clksrc = 0 then 16 else 64))

/-- `ATTN_HOLDOFF_END` (R304). -/
def execAttnHoldoffEnd (s : State) : Out :=
  done s (if s.host.hold && holdoffOver s then attnEval { s with host := { s.host with hold := false } } else s)

end Sys2Proof.Machine
end

