-- ==== Sys2Proof/Machine/Dispatch.lean ====
section
/-!
DEFINITION. Sys2Proof/Machine/Dispatch.lean: one arm per command of spec/opcode_table.json, each a direct call of its meaning.
-/
namespace Sys2Proof.Machine

/-- The effect of a command on everything but the queue. -/
def exec (i : Instr) (s : State) : Host.Outcome State Fault Refusal :=
  match i with
  | .coldReset straps head => Sys2Proof.Machine.execColdReset straps head s
  | .warmReset => Sys2Proof.Machine.execWarmReset s
  | .warmResetGo m => Sys2Proof.Machine.execWarmResetGo m s
  | .pageRestore p => Sys2Proof.Machine.execPageRestore p s
  | .softReset m p => Sys2Proof.Machine.execSoftReset m p s
  | .commit m p v => Sys2Proof.Machine.execCommit m p v s
  | .commitDone bad => Sys2Proof.Machine.execCommitDone bad s
  | .commitCredit => Sys2Proof.Machine.execCommitCredit s
  | .compactionDone => Sys2Proof.Machine.execCompactionDone s
  | .eraseAll m v => Sys2Proof.Machine.execEraseAll m v s
  | .compact m v => Sys2Proof.Machine.execCompact m v s
  | .pgKeyWrite m p v => Sys2Proof.Machine.execPgKeyWrite m p v s
  | .unlockExpire m p => Sys2Proof.Machine.execUnlockExpire m p s
  | .registerWrite m a n v => Sys2Proof.Machine.execRegisterWrite m a n v s
  | .aliasWrite m a v => Sys2Proof.Machine.execAliasWrite m a v s
  | .readClear m a n x => Sys2Proof.Machine.execReadClear m a n x s
  | .refOk => Sys2Proof.Machine.execRefOk s
  | .vcoBand => Sys2Proof.Machine.execVcoBand s
  | .pllLock => Sys2Proof.Machine.execPllLock s
  | .dividerRelease => Sys2Proof.Machine.execDividerRelease s
  | .pllLockLost => Sys2Proof.Machine.execPllLockLost s
  | .refLost => Sys2Proof.Machine.execRefLost s
  | .refRestored => Sys2Proof.Machine.execRefRestored s
  | .xtalFail => Sys2Proof.Machine.execXtalFail s
  | .xtalMeas => Sys2Proof.Machine.execXtalMeas s
  | .tbSnap m => Sys2Proof.Machine.execTbSnap m s
  | .tbNowLoRead m => Sys2Proof.Machine.execTbNowLoRead m s
  | .tbNowHiRead m => Sys2Proof.Machine.execTbNowHiRead m s
  | .ppsCapture edge => Sys2Proof.Machine.execPpsCapture edge s
  | .ppsMissing => Sys2Proof.Machine.execPpsMissing s
  | .ppsCapLoRead m => Sys2Proof.Machine.execPpsCapLoRead m s
  | .ppsExpCommit m v => Sys2Proof.Machine.execPpsExpCommit m v s
  | .tbLoad m => Sys2Proof.Machine.execTbLoad m s
  | .cmpMatch n => Sys2Proof.Machine.execCmpMatch n s
  | .cmpAdvanceDone n => Sys2Proof.Machine.execCmpAdvanceDone n s
  | .cmpCommit m n v => Sys2Proof.Machine.execCmpCommit m n v s
  | .perCommit m n v => Sys2Proof.Machine.execPerCommit m n v s
  | .phaseCommit m n v => Sys2Proof.Machine.execPhaseCommit m n v s
  | .cmpArm m n v => Sys2Proof.Machine.execCmpArm m n v s
  | .cmpAlignDone n => Sys2Proof.Machine.execCmpAlignDone n s
  | .lcCountEvent n k => Sys2Proof.Machine.execLcCountEvent n k s
  | .lcMatch n k => Sys2Proof.Machine.execLcMatch n k s
  | .lcOverflow n k => Sys2Proof.Machine.execLcOverflow n k s
  | .lcLinkAction n => Sys2Proof.Machine.execLcLinkAction n s
  | .lcSnap m v => Sys2Proof.Machine.execLcSnap m v s
  | .lcCountRead m n => Sys2Proof.Machine.execLcCountRead m n s
  | .lcCapRead m n => Sys2Proof.Machine.execLcCapRead m n s
  | .overload n => Sys2Proof.Machine.execOverload n s
  | .openInput n => Sys2Proof.Machine.execOpenInput n s
  | .refFault r => Sys2Proof.Machine.execRefFault r s
  | .vexcOc k => Sys2Proof.Machine.execVexcOc k s
  | .iexcCmpl j => Sys2Proof.Machine.execIexcCmpl j s
  | .pdmStuck t => Sys2Proof.Machine.execPdmStuck t s
  | .hkGo m v => Sys2Proof.Machine.execHkGo m v s
  | .hkEntryDone v => Sys2Proof.Machine.execHkEntryDone v s
  | .hkStale => Sys2Proof.Machine.execHkStale s
  | .thermalTrip => Sys2Proof.Machine.execThermalTrip s
  | .smStart m k v => Sys2Proof.Machine.execSmStart m k v s
  | .smAbort m k v => Sys2Proof.Machine.execSmAbort m k v s
  | .smStateAdvance k => Sys2Proof.Machine.execSmStateAdvance k s
  | .smFail k => Sys2Proof.Machine.execSmFail k s
  | .comparatorChange n nv => Sys2Proof.Machine.execComparatorChange n nv s
  | .firstEvaluation n nv => Sys2Proof.Machine.execFirstEvaluation n nv s
  | .filteredEdge n k => Sys2Proof.Machine.execFilteredEdge n k s
  | .checkSwap m n => Sys2Proof.Machine.execCheckSwap m n s
  | .checkZero m n => Sys2Proof.Machine.execCheckZero m n s
  | .checkHalf m n => Sys2Proof.Machine.execCheckHalf m n s
  | .checkFull m n => Sys2Proof.Machine.execCheckFull m n s
  | .checkDone n hi lo => Sys2Proof.Machine.execCheckDone n hi lo s
  | .pgStart m v => Sys2Proof.Machine.execPgStart m v s
  | .pgPeriodStart g => Sys2Proof.Machine.execPgPeriodStart g s
  | .pgEdge g => Sys2Proof.Machine.execPgEdge g s
  | .trip g => Sys2Proof.Machine.execTrip g s
  | .blankEnd g => Sys2Proof.Machine.execBlankEnd g s
  | .dutyTrip g => Sys2Proof.Machine.execDutyTrip g s
  | .tripClear m v => Sys2Proof.Machine.execTripClear m v s
  | .channelEnable m c v => Sys2Proof.Machine.execChannelEnable m c v s
  | .admission c => Sys2Proof.Machine.execAdmission c s
  | .channelDisable m c v => Sys2Proof.Machine.execChannelDisable m c v s
  | .channelStopDone c => Sys2Proof.Machine.execChannelStopDone c s
  | .descriptorWrite m c j v => Sys2Proof.Machine.execDescriptorWrite m c j v s
  | .groupSync m k => Sys2Proof.Machine.execGroupSync m k s
  | .channelOutput c bs sp st => Sys2Proof.Machine.execChannelOutput c bs sp st s
  | .sampleArrival c v stamp clip marks => Sys2Proof.Machine.execSampleArrival c v stamp clip marks s
  | .deadlineMiss c => Sys2Proof.Machine.execDeadlineMiss c s
  | .dcsumUpdate b => Sys2Proof.Machine.execDcsumUpdate b s
  | .swap m v => Sys2Proof.Machine.execSwap m v s
  | .fadeDone c => Sys2Proof.Machine.execFadeDone c s
  | .retune m c => Sys2Proof.Machine.execRetune m c s
  | .retuneSwitch c => Sys2Proof.Machine.execRetuneSwitch c s
  | .hardyUpdate lane => Sys2Proof.Machine.execHardyUpdate lane s
  | .slotEnable m n v => Sys2Proof.Machine.execSlotEnable m n v s
  | .slotConfigWrite m n j v => Sys2Proof.Machine.execSlotConfigWrite m n j v s
  | .hardySlotRead m n => Sys2Proof.Machine.execHardySlotRead m n s
  | .evaluationPoint => Sys2Proof.Machine.execEvaluationPoint s
  | .ruleWrite m r j v => Sys2Proof.Machine.execRuleWrite m r j v s
  | .event => Sys2Proof.Machine.execEvent s
  | .lineSet => Sys2Proof.Machine.execLineSet s
  | .lineClear => Sys2Proof.Machine.execLineClear s
  | .pgStartAction => Sys2Proof.Machine.execPgStartAction s
  | .burst => Sys2Proof.Machine.execBurst s
  | .burstEnd => Sys2Proof.Machine.execBurstEnd s
  | .retuneAction => Sys2Proof.Machine.execRetuneAction s
  | .flagSet => Sys2Proof.Machine.execFlagSet s
  | .flagClear => Sys2Proof.Machine.execFlagClear s
  | .charReceived p c => Sys2Proof.Machine.execCharReceived p c s
  | .nmeaSentence p c => Sys2Proof.Machine.execNmeaSentence p c s
  | .modbusFrameEnd p => Sys2Proof.Machine.execModbusFrameEnd p s
  | .i2cStretchTo p => Sys2Proof.Machine.execI2cStretchTo p s
  | .sdiRespWait p => Sys2Proof.Machine.execSdiRespWait p s
  | .sdiGap p => Sys2Proof.Machine.execSdiGap p s
  | .pumpOk => Sys2Proof.Machine.execPumpOk s
  | .pumpFault => Sys2Proof.Machine.execPumpFault s
  | .spiAutoGo m p v => Sys2Proof.Machine.execSpiAutoGo m p v s
  | .spiAutoStop m p v => Sys2Proof.Machine.execSpiAutoStop m p v s
  | .spiAutoWord p w => Sys2Proof.Machine.execSpiAutoWord p w s
  | .seqStart m v => Sys2Proof.Machine.execSeqStart m v s
  | .seqStop m v => Sys2Proof.Machine.execSeqStop m v s
  | .opEnd n => Sys2Proof.Machine.execOpEnd n s
  | .opSend n => Sys2Proof.Machine.execOpSend n s
  | .sendDone n cap e rx => Sys2Proof.Machine.execSendDone n cap e rx s
  | .opBreak n => Sys2Proof.Machine.execOpBreak n s
  | .breakDone n => Sys2Proof.Machine.execBreakDone n s
  | .opWait n => Sys2Proof.Machine.execOpWait n s
  | .waitDone n => Sys2Proof.Machine.execWaitDone n s
  | .opRecv n => Sys2Proof.Machine.execOpRecv n s
  | .recvDone n cap e rx => Sys2Proof.Machine.execRecvDone n cap e rx s
  | .recvTimeout n => Sys2Proof.Machine.execRecvTimeout n s
  | .opMatch n => Sys2Proof.Machine.execOpMatch n s
  | .opParse n => Sys2Proof.Machine.execOpParse n s
  | .opEmit n => Sys2Proof.Machine.execOpEmit n s
  | .opRetry n => Sys2Proof.Machine.execOpRetry n s
  | .opBr n => Sys2Proof.Machine.execOpBr n s
  | .opAddr n => Sys2Proof.Machine.execOpAddr n s
  | .opAttend n => Sys2Proof.Machine.execOpAttend n s
  | .opSetv n => Sys2Proof.Machine.execOpSetv n s
  | .opSignal n => Sys2Proof.Machine.execOpSignal n s
  | .opCur n => Sys2Proof.Machine.execOpCur n s
  | .opRaw n => Sys2Proof.Machine.execOpRaw n s
  | .attClear m v => Sys2Proof.Machine.execAttClear m v s
  | .wrOpen m v => Sys2Proof.Machine.execWrOpen m v s
  | .wrData m v => Sys2Proof.Machine.execWrData m v s
  | .wrClose m v => Sys2Proof.Machine.execWrClose m v s
  | .rdData m u => Sys2Proof.Machine.execRdData m u s
  | .skip m => Sys2Proof.Machine.execSkip m s
  | .mark m q lane => Sys2Proof.Machine.execMark m q lane s
  | .rewind m q lane => Sys2Proof.Machine.execRewind m q lane s
  | .release m q => Sys2Proof.Machine.execRelease m q s
  | .flush m q => Sys2Proof.Machine.execFlush m q s
  | .cellTestDone c pass => Sys2Proof.Machine.execCellTestDone c pass s
  | .noticeRelease q => Sys2Proof.Machine.execNoticeRelease q s
  | .sourceAssert n => Sys2Proof.Machine.execSourceAssert n s
  | .rearmExpire n t => Sys2Proof.Machine.execRearmExpire n t s
  | .recordAppend t => Sys2Proof.Machine.execRecordAppend t s
  | .take m t => Sys2Proof.Machine.execTake m t s
  | .eoi m t level => Sys2Proof.Machine.execEoi m t level s
  | .stackReset m t => Sys2Proof.Machine.execStackReset m t s
  | .sourceEntryWrite m n v => Sys2Proof.Machine.execSourceEntryWrite m n v s
  | .wakeLatch n => Sys2Proof.Machine.execWakeLatch n s
  | .coreReset m n v => Sys2Proof.Machine.execCoreReset m n v s
  | .fence m n v => Sys2Proof.Machine.execFence m n v s
  | .coreRun m n v => Sys2Proof.Machine.execCoreRun m n v s
  | .wdogKick m n v => Sys2Proof.Machine.execWdogKick m n v s
  | .wdogWarn n => Sys2Proof.Machine.execWdogWarn n s
  | .wdogExpire n => Sys2Proof.Machine.execWdogExpire n s
  | .eventException n => Sys2Proof.Machine.execEventException n s
  | .waitWake n => Sys2Proof.Machine.execWaitWake n s
  | .halt m v => Sys2Proof.Machine.execHalt m v s
  | .step m v => Sys2Proof.Machine.execStep m v s
  | .regData m wr v => Sys2Proof.Machine.execRegData m wr v s
  | .extest => Sys2Proof.Machine.execExtest s
  | .samplePreload => Sys2Proof.Machine.execSamplePreload s
  | .idcode => Sys2Proof.Machine.execIdcode s
  | .dbgacc op a v x => Sys2Proof.Machine.execDbgacc op a v x s
  | .bypass ir => Sys2Proof.Machine.execBypass ir s
  | .add n rd ra rb => Sys2Proof.Machine.execAdd n rd ra rb s
  | .adc n rd ra rb => Sys2Proof.Machine.execAdc n rd ra rb s
  | .sub n rd ra rb => Sys2Proof.Machine.execSub n rd ra rb s
  | .sbc n rd ra rb => Sys2Proof.Machine.execSbc n rd ra rb s
  | .cmp n ra rb => Sys2Proof.Machine.execCmp n ra rb s
  | .neg n rd ra => Sys2Proof.Machine.execNeg n rd ra s
  | .andR n rd ra rb => Sys2Proof.Machine.execAndR n rd ra rb s
  | .orR n rd ra rb => Sys2Proof.Machine.execOrR n rd ra rb s
  | .xorR n rd ra rb => Sys2Proof.Machine.execXorR n rd ra rb s
  | .andnR n rd ra rb => Sys2Proof.Machine.execAndnR n rd ra rb s
  | .notR n rd ra => Sys2Proof.Machine.execNotR n rd ra s
  | .tst n ra rb => Sys2Proof.Machine.execTst n ra rb s
  | .mov n rd ra => Sys2Proof.Machine.execMov n rd ra s
  | .lsl n rd ra rb => Sys2Proof.Machine.execLsl n rd ra rb s
  | .lsr n rd ra rb => Sys2Proof.Machine.execLsr n rd ra rb s
  | .asr n rd ra rb => Sys2Proof.Machine.execAsr n rd ra rb s
  | .ror n rd ra rb => Sys2Proof.Machine.execRor n rd ra rb s
  | .mul n rd ra rb => Sys2Proof.Machine.execMul n rd ra rb s
  | .mulhs n rd ra rb => Sys2Proof.Machine.execMulhs n rd ra rb s
  | .mulhu n rd ra rb => Sys2Proof.Machine.execMulhu n rd ra rb s
  | .divs n rd rr ra rb => Sys2Proof.Machine.execDivs n rd rr ra rb s
  | .divu n rd rr ra rb => Sys2Proof.Machine.execDivu n rd rr ra rb s
  | .sextb n rd ra => Sys2Proof.Machine.execSextb n rd ra s
  | .sexth n rd ra => Sys2Proof.Machine.execSexth n rd ra s
  | .zextb n rd ra => Sys2Proof.Machine.execZextb n rd ra s
  | .zexth n rd ra => Sys2Proof.Machine.execZexth n rd ra s
  | .clz n rd ra => Sys2Proof.Machine.execClz n rd ra s
  | .addi n rd ra imm => Sys2Proof.Machine.execAddi n rd ra imm s
  | .andi n rd ra imm => Sys2Proof.Machine.execAndi n rd ra imm s
  | .ori n rd ra imm => Sys2Proof.Machine.execOri n rd ra imm s
  | .xori n rd ra imm => Sys2Proof.Machine.execXori n rd ra imm s
  | .cmpi n ra imm => Sys2Proof.Machine.execCmpi n ra imm s
  | .lsli n rd ra k => Sys2Proof.Machine.execLsli n rd ra k s
  | .lsri n rd ra k => Sys2Proof.Machine.execLsri n rd ra k s
  | .asri n rd ra k => Sys2Proof.Machine.execAsri n rd ra k s
  | .rori n rd ra k => Sys2Proof.Machine.execRori n rd ra k s
  | .movi n rd imm => Sys2Proof.Machine.execMovi n rd imm s
  | .movh n rd imm => Sys2Proof.Machine.execMovh n rd imm s
  | .adr n rd imm => Sys2Proof.Machine.execAdr n rd imm s
  | .ldb n rd ra imm x => Sys2Proof.Machine.execLdb n rd ra imm x s
  | .ldbu n rd ra imm x => Sys2Proof.Machine.execLdbu n rd ra imm x s
  | .ldh n rd ra imm x => Sys2Proof.Machine.execLdh n rd ra imm x s
  | .ldhu n rd ra imm x => Sys2Proof.Machine.execLdhu n rd ra imm x s
  | .ldw n rd ra imm x => Sys2Proof.Machine.execLdw n rd ra imm x s
  | .stb n rd ra imm => Sys2Proof.Machine.execStb n rd ra imm s
  | .sth n rd ra imm => Sys2Proof.Machine.execSth n rd ra imm s
  | .stw n rd ra imm => Sys2Proof.Machine.execStw n rd ra imm s
  | .push n rd => Sys2Proof.Machine.execPush n rd s
  | .pop n rd x => Sys2Proof.Machine.execPop n rd x s
  | .swp n rd ra x => Sys2Proof.Machine.execSwp n rd ra x s
  | .branch n cond off => Sys2Proof.Machine.execBranch n cond off s
  | .call n off => Sys2Proof.Machine.execCall n off s
  | .jr n ra => Sys2Proof.Machine.execJr n ra s
  | .callr n ra => Sys2Proof.Machine.execCallr n ra s
  | .mfc n rd cr => Sys2Proof.Machine.execMfc n rd cr s
  | .mtc n cr ra => Sys2Proof.Machine.execMtc n cr ra s
  | .stset n imm => Sys2Proof.Machine.execStset n imm s
  | .stclr n imm => Sys2Proof.Machine.execStclr n imm s
  | .syscall n imm => Sys2Proof.Machine.execSyscall n imm s
  | .breakInstr n imm => Sys2Proof.Machine.execBreakInstr n imm s
  | .eret n => Sys2Proof.Machine.execEret n s
  | .waitInstr n => Sys2Proof.Machine.execWaitInstr n s
  | .nop n => Sys2Proof.Machine.execNop n s
  | .illegal n => Sys2Proof.Machine.execIllegal n s
  | .movs n size x => Sys2Proof.Machine.execMovs n size x s
  | .fill n size rv => Sys2Proof.Machine.execFill n size rv s
  | .scan n size rv x => Sys2Proof.Machine.execScan n size rv x s
  | .cmps n size x y => Sys2Proof.Machine.execCmps n size x y s
  | .lds n size rv x => Sys2Proof.Machine.execLds n size rv x s
  | .sts n size rv => Sys2Proof.Machine.execSts n size rv s
  | .rep n o x y => Sys2Proof.Machine.execRep n o x y s
  | .repz n o x y => Sys2Proof.Machine.execRepz n o x y s
  | .repnz n o x y => Sys2Proof.Machine.execRepnz n o x y s
  | .illegalPrefix n => Sys2Proof.Machine.execIllegalPrefix n s
  | .rdCmd a k late xs => Sys2Proof.Machine.execRdCmd a k late xs s
  | .wrCmd a k ws => Sys2Proof.Machine.execWrCmd a k ws s
  | .status => Sys2Proof.Machine.execStatus s
  | .qrdW q late us => Sys2Proof.Machine.execQrdW q late us s
  | .qrdP q late us under => Sys2Proof.Machine.execQrdP q late us under s
  | .qwr v len bs => Sys2Proof.Machine.execQwr v len bs s
  | .rrd hub a k xs => Sys2Proof.Machine.execRrd hub a k xs s
  | .rwr hub a k ws => Sys2Proof.Machine.execRwr hub a k ws s
  | .resetWidth => Sys2Proof.Machine.execResetWidth s
  | .badCmd c => Sys2Proof.Machine.execBadCmd c s
  | .aborted c => Sys2Proof.Machine.execAborted c s
  | .hostSelect => Sys2Proof.Machine.execHostSelect s
  | .hostSleep level => Sys2Proof.Machine.execHostSleep level s
  | .remoteTimeout => Sys2Proof.Machine.execRemoteTimeout s
  | .attnHoldoffEnd => Sys2Proof.Machine.execAttnHoldoffEnd s
  | .signalDetect p => Sys2Proof.Machine.execSignalDetect p s
  | .alignDone p => Sys2Proof.Machine.execAlignDone p s
  | .trainDone p uid peer => Sys2Proof.Machine.execTrainDone p uid peer s
  | .heal p => Sys2Proof.Machine.execHeal p s
  | .linkDown p errs => Sys2Proof.Machine.execLinkDown p errs s
  | .frameError p unknown => Sys2Proof.Machine.execFrameError p unknown s
  | .dataFrame p f => Sys2Proof.Machine.execDataFrame p f s
  | .beacon p f tin res => Sys2Proof.Machine.execBeacon p f tin res s
  | .pdelayReq p f t2 t3 => Sys2Proof.Machine.execPdelayReq p f t2 t3 s
  | .pdelayResp p f t4 => Sys2Proof.Machine.execPdelayResp p f t4 s
  | .enumJoin p f => Sys2Proof.Machine.execEnumJoin p f s
  | .grant p f => Sys2Proof.Machine.execGrant p f s
  | .hello p f => Sys2Proof.Machine.execHello p f s
  | .refuse p f => Sys2Proof.Machine.execRefuse p f s
  | .regReq p f xs => Sys2Proof.Machine.execRegReq p f xs s
  | .regResp p f => Sys2Proof.Machine.execRegResp p f s
  | .ackFrame p f => Sys2Proof.Machine.execAckFrame p f s
  | .ringGrantWrite m v => Sys2Proof.Machine.execRingGrantWrite m v s
  | .beaconSend tE tW => Sys2Proof.Machine.execBeaconSend tE tW s
  | .pdelayReqSend p t1 => Sys2Proof.Machine.execPdelayReqSend p t1 s
  | .joinSend => Sys2Proof.Machine.execJoinSend s
  | .helloSend => Sys2Proof.Machine.execHelloSend s
  | .memberAbsent n => Sys2Proof.Machine.execMemberAbsent n s
  | .numberHoldExpire n => Sys2Proof.Machine.execNumberHoldExpire n s
  | .beaconMiss => Sys2Proof.Machine.execBeaconMiss s
  | .headTakeover => Sys2Proof.Machine.execHeadTakeover s
  | .dataFrameSend p us => Sys2Proof.Machine.execDataFrameSend p us s
  | .ackSend q => Sys2Proof.Machine.execAckSend q s
  | .retryTimeout q => Sys2Proof.Machine.execRetryTimeout q s
  | .rxGap q => Sys2Proof.Machine.execRxGap q s
  | .pwrReqRun m => Sys2Proof.Machine.execPwrReqRun m s
  | .pwrReqWatch m => Sys2Proof.Machine.execPwrReqWatch m s
  | .pwrReqDoze m => Sys2Proof.Machine.execPwrReqDoze m s
  | .pwrReqOffKeep m => Sys2Proof.Machine.execPwrReqOffKeep m s
  | .pointOfNoReturn => Sys2Proof.Machine.execPointOfNoReturn s
  | .commitWait => Sys2Proof.Machine.execCommitWait s
  | .entryDone => Sys2Proof.Machine.execEntryDone s
  | .wake => Sys2Proof.Machine.execWake s
  | .exitDone => Sys2Proof.Machine.execExitDone s
  | .brownout rails vaon => Sys2Proof.Machine.execBrownout rails vaon s
  | .vaonPowerOn => Sys2Proof.Machine.execVaonPowerOn s
  | .imgErase m v => Sys2Proof.Machine.execImgErase m v s
  | .loadData m v => Sys2Proof.Machine.execLoadData m v s
  | .verify m v => Sys2Proof.Machine.execVerify m v s
  | .imgDone hash sig => Sys2Proof.Machine.execImgDone hash sig s
  | .imgSwap m v => Sys2Proof.Machine.execImgSwap m v s
  | .confirm m v => Sys2Proof.Machine.execConfirm m v s
  | .trialExpire => Sys2Proof.Machine.execTrialExpire s
  | .bootCheck hash0 sig0 hash1 sig1 => Sys2Proof.Machine.execBootCheck hash0 sig0 hash1 sig1 s
  | .residue x => Sys2Proof.Machine.execResidue x s
  | .kat x pass => Sys2Proof.Machine.execKat x pass s
  | .eccUncorr c => Sys2Proof.Machine.execEccUncorr c s
  | .auditMismatch c xPass sparePass agree => Sys2Proof.Machine.execAuditMismatch c xPass sparePass agree s
  | .failoverDone lost => Sys2Proof.Machine.execFailoverDone lost s
  | .sliceTest m x v => Sys2Proof.Machine.execSliceTest m x v s
  | .selfTestDone x pass => Sys2Proof.Machine.execSelfTestDone x pass s
  | .unfence m x v => Sys2Proof.Machine.execUnfence m x v s
  | .drain m x v => Sys2Proof.Machine.execDrain m x v s
  | .drainDone => Sys2Proof.Machine.execDrainDone s
  | .freeze m => Sys2Proof.Machine.execFreeze m s
  | .copyDone => Sys2Proof.Machine.execCopyDone s
  | .bbRelease m => Sys2Proof.Machine.execBbRelease m s
  | .eraseCopy m => Sys2Proof.Machine.execEraseCopy m s
  | .eraseCopyDone => Sys2Proof.Machine.execEraseCopyDone s
  | .swCode m v => Sys2Proof.Machine.execSwCode m v s
  | .bboxSlotRead m slot => Sys2Proof.Machine.execBboxSlotRead m slot s
  | .xtalOk => Sys2Proof.Machine.execXtalOk s
  | .referenceReturns r => Sys2Proof.Machine.execReferenceReturns r s
  | .undefinedOpcode n parity => Sys2Proof.Machine.execUndefinedOpcode n parity s
  | .fetchError n f => Sys2Proof.Machine.execFetchError n f s
  | .resetRises straps head => Sys2Proof.Machine.execResetRises straps head s
  | .eraseAllDone => Sys2Proof.Machine.execEraseAllDone s
  | .loadWordProgrammed => Sys2Proof.Machine.execLoadWordProgrammed s

end Sys2Proof.Machine
end

