-- ==== Sys2Proof/Machine/Step.lean ====
section
/-!
DEFINITION. Sys2Proof/Machine/Step.lean: one step of the hub: the command at the front of the queue, or, with nothing waiting, one update of
the time base (spec/03_clock_root_and_time_base.md, R34; DESIGN CHOICE, log entry 10).
-/
namespace Sys2Proof.Machine

/-- What an idle hub does: the time base makes its next update. -/
def idle (s : State) : State := updateNow s

/-- Take the command at the front of the queue and run it with the rest of the queue. -/
def step (s : State) : Host.Outcome State Fault Refusal :=
  match s.pending with
  | [] => done s (idle s)
  | i :: rest => exec i { s with pending := rest }

/-- The state with the command that a table word spells at the front of its queue. The rows of the table give no bits: no word spells one. -/
def State.withFetchWord (s : State) (nbits w : Nat) : State :=
  match decodeTableWord nbits w with
  | some i => { s with pending := i :: s.pending }
  | none => s

end Sys2Proof.Machine
end

