-- ==== Sys2Proof/Safety.lean ====
section
/-!
DEFINITION. Sys2Proof/Safety.lean: what counts as a safe run of the hub: no step of it stops, and registers and memory keep the one form in
which equal contents are equal data.
-/
namespace Sys2Proof.Machine

/-- Registers and memory are in their canonical forms. -/
def State.canon (s : State) : Bool := SMap.wf regReset s.regs && Memory.wf s.mem

/-- The step from `s` answers a next state. -/
def stepsOn (s : State) : Prop := ∃ t, step s = .next t

/-- `k` steps from `s` all answer a next state, and each leaves registers and memory canonical. -/
def safeRun : Nat → State → Prop
  | 0, s => s.canon = true
  | k + 1, s => s.canon = true ∧ ∃ t, step s = .next t ∧ safeRun k t

end Sys2Proof.Machine
end

