-- ==== Sys2Proof/Certificates/Slice0/Obligations.lean ====
section
/-!
DEFINITION. Sys2Proof/Certificates/Slice0/Obligations.lean: the statements for the provers. Each says of some commands that they complete
and in which state; a frame says what stays. Registers and table words read through `State.word` and `State.get`, memory through
`State.byte`.
-/
open Sys2Proof Sys2Proof.Machine

namespace Sys2Proof.Claims

/-! ### Words the statements share -/

/-- `t` differs from `s` in registers and table words only, and in those at the addresses `as` only: every other word, all of memory, the
queue and every other part of the state are as before. -/
def OnlyRegs (as : List Nat) (s t : State) : Prop := t = { s with regs := t.regs } ∧ ∀ a, a ∉ as → t.word a = s.word a

/-- Nothing a bit of the address list excepted: words other than those at `as` read as before. -/
def WordsKept (as : List Nat) (s t : State) : Prop := ∀ a, a ∉ as → t.word a = s.word a

/-- `t` is the state `u` with the queue of `s`. -/
def Leaves (s u t : State) : Prop := t = { u with pending := s.pending, variant := s.variant }

/-- Every byte of memory outside `n` bytes from `a` up reads as before. -/
def BytesKept (a n : Nat) (s t : State) : Prop := ∀ b, b < a ∨ a + n ≤ b → t.byte b = s.byte b

/-- Words of the source table of the event controller: where the raising of a source leaves its PEND. -/
def eventWord (a : Nat) : Prop := 0x54400000 ≤ a ∧ a < 0x54402800

/-- `WordsKept`, the source table of the event controller apart. -/
def WordsKeptBut (as : List Nat) (s t : State) : Prop := ∀ a, a ∉ as → ¬ eventWord a → t.word a = s.word a

/-- Source `n` has been raised between `s` and `t`: while the bus runs and the source can pend, it is pending at each of its targets. -/
def Raised (n : Nat) (s t : State) : Prop :=
  sourcePresent s.variant n = true → s.busStopped = false → canPend s n = true → ∀ k, k < 5 → targeted s n k = true → t.on (pendBit n k) = true

/-- The black box has taken a record of CODE `code` between `s` and `t` (R383), unless it is frozen, when DROPPED counts it. -/
def Recorded (code : Nat) (s t : State) : Prop :=
  (s.on BBOX_STAT_FROZEN = true → t.get BBOX_DROPPED_COUNT ≠ 0) ∧
  (s.on BBOX_STAT_FROZEN = false → t.load (0x28000000 + 16 * s.get BBOX_STAT_WR_IDX + 6) 2 = code)

/-- The words that a record of the black box changes. -/
def bbWords : List Nat := [BBOX_STAT_WR_IDX.addr, BBOX_DROPPED_COUNT.addr]

/-- Signed saturation. -/
def sat (w : Nat) (i : Int) : Int := max (-(2 ^ (w - 1))) (min (2 ^ (w - 1) - 1) i)

/-- The controller has sampled level source `n`. -/
def Sampled (n : Nat) (t : State) : Prop := (t.source n).level = sourceLevel t n

end Sys2Proof.Claims

open Sys2Proof.Claims

/-! ### The queue, the bus and the page header (spec/02) -/

/-- The front of the queue is the command that a step runs, with the queue's rest; the queue is first in, first out. -/
def Obligations.StepRunsTheFrontCommand : Prop :=
  ∀ (c : Instr) (rest : List Instr) (s : State), s.pending = c :: rest → step s = exec c { s with pending := rest }

/-- Every step answers a next state: none ends in a fault or a refusal. It takes the command at the front from the queue, if the queue holds one,
and changes nothing else of the queue. -/
def Obligations.EveryStepAnswers : Prop :=
  ∀ s : State, ∃ t, step s = .next t ∧ t.variant = s.variant ∧ t.pending = s.pending.tail

namespace Sys2Proof.Claims

/-- Registers and memory are in their canonical forms, so that equal contents are equal data, and channels have the numbers that the tables hold. -/
def Inv (s : State) : Prop := s.canon = true ∧ ∀ d, d ∈ s.chans → d.1 < 256

end Sys2Proof.Claims

/-- R9, R335, R384: what holds at reset: the invariant, an empty queue, TB = 0, SYS READY and no other page, the cause COLD, the RESET record in the black
box, every other register at its Reset value, and zeros in the pool, in the TCMs and in the retained scratch (zeros in memory that nothing has
written are the model's, DESIGN CHOICE of log entry 7; the variant and the levels of straps and HEAD are that of log entry 2). -/
def Obligations.ResetState : Prop :=
  let s := State.reset
  Inv s ∧ s.pending = [] ∧ s.tbf = 0 ∧ s.variant = .f ∧ s.chans = [] ∧ s.host.remote = none ∧
  (∀ p, p < 96 → s.ready p = decide (p = 0)) ∧ s.on SYS_RESET_CAUSE_COLD = true ∧ s.on SYS_HUB_NUM_VALID = false ∧ s.get SYS_HUB_NUMBER = 0 ∧
  s.get BBOX_STAT_WR_IDX = 1 ∧ s.load 0x28000006 2 = 0x0002 ∧
  (∀ a, a ≠ 0x40000008 → a ≠ 0x40164040 → s.word a = regReset a) ∧
  ∀ a, 0x20000000 ≤ a → a < 0x30040000 → ¬ (0x28000000 ≤ a ∧ a < 0x28000010) → s.byte a = 0

/-- The invariant is kept by every step, whatever the command and the state. -/
def Obligations.InvariantIsKept : Prop := ∀ s t : State, Inv s → step s = .next t → Inv t

namespace Sys2Proof.Claims

/-- The pages that R18 lists. -/
def listedPages : List Nat :=
  [0x00, 0x01, 0x02, 0x03, 0x04, 0x08, 0x09, 0x0A, 0x0B, 0x0C, 0x0D, 0x0E, 0x0F, 0x10, 0x11, 0x14, 0x15, 0x18, 0x19, 0x1A, 0x1B, 0x1C] ++
  [0x20, 0x21, 0x22, 0x23, 0x24, 0x25, 0x26, 0x27, 0x28, 0x29, 0x2A, 0x2B, 0x2C, 0x2D, 0x2E, 0x2F, 0x30, 0x31, 0x32, 0x33, 0x34, 0x35, 0x36, 0x37] ++
  [0x38, 0x39, 0x3C, 0x3D, 0x40, 0x41, 0x44, 0x48, 0x49, 0x4A, 0x4B, 0x4C, 0x50, 0x51, 0x52, 0x53, 0x58, 0x59, 0x5A, 0x5F]

/-- The bytes of the table that R25 gives a page, 0 where it has none. -/
def tableBytes (p : Nat) : Nat :=
  match p with
  | 0x1B => 256 * 64 + 256 * 32 | 0x1C => 8192 | 0x38 => 12288 * 4 | 0x39 => 1536 * 16 | 0x3C => 512 * 64 | 0x3D => 4096 * 16
  | 0x41 => 512 * 64 | 0x44 => 640 * 16 | 0x59 => 2048 * 16 | _ => 0

/-- The pages of units that a variant lacks (R2). -/
def absentPage (v : Variant) (p : Nat) : Prop :=
  match v with
  | .f => False
  | .s => 0x0C ≤ p ∧ p ≤ 0x0F ∨ p = 0x1A ∨ 0x30 ≤ p ∧ p ≤ 0x37
  | .l => 0x0A ≤ p ∧ p ≤ 0x0F ∨ p = 0x1A ∨ 0x28 ≤ p ∧ p ≤ 0x37 ∨ p = 0x3C ∨ p = 0x3D ∨ p = 0x4A ∨ p = 0x4B ∨ 0x51 ≤ p ∧ p ≤ 0x53

/-- Cores of a variant. -/
def cores (v : Variant) : Nat := match v with | .l => 2 | _ => 4

/-- KIND 0: an access of master `m` at `a` lies outside every region of R16 and R17, or in a page that R18 does not list. -/
def Unmapped (s : State) (m a : Nat) : Prop :=
  ¬ (a < 0x8000 ∨ (0x08000000 ≤ a ∧ a ≤ 0x0800FFFF ∧ m < cores s.variant) ∨ (0x10000000 ≤ a ∧ a ≤ 0x100FFFFF) ∨
    (0x11000000 ≤ a ∧ a ≤ 0x1103FFFF) ∨ (0x20000000 ≤ a ∧ a ≤ 0x201FFFFF) ∨ (0x28000000 ≤ a ∧ a ≤ 0x2800FFFF) ∨
    (0x30000000 ≤ a ∧ a < 0x30000000 + cores s.variant * 0x10000) ∨
    (0x40000000 ≤ a ∧ a ≤ 0x4017FFFF ∧ (a - 0x40000000) / 0x4000 ∈ listedPages) ∨
    (0x50000000 ≤ a ∧ a ≤ 0x55FFFFFF ∧ (a - 0x50000000) / 0x100000 ∈ listedPages))

/-- The regions that take 32-bit accesses only. -/
def WordsOnly (a : Nat) : Prop :=
  (0x11000000 ≤ a ∧ a ≤ 0x1103FFFF) ∨ (0x20000000 ≤ a ∧ a ≤ 0x201FFFFF) ∨ (0x28000000 ≤ a ∧ a ≤ 0x28007FFF) ∨ 0x40000000 ≤ a

/-- KIND 2: the region takes no writes. -/
def NoWrites (s : State) (a : Nat) : Prop :=
  a < 0x8000 ∨ (0x10000000 ≤ a ∧ a ≤ 0x100FFFFF) ∨ (0x11000000 ≤ a ∧ a ≤ 0x1103FFFF) ∨
    (0x20000000 ≤ a ∧ a ≤ 0x201FFFFF ∧ s.on DBG_CTRL_POOL_WR = false) ∨ (0x28000000 ≤ a ∧ a ≤ 0x28007FFF)

/-- The KIND with which an access ends in a bus error (R16, R17, R19, R25, R26), in the order in which the causes are found. -/
def ErrorKind (s : State) (m a n : Nat) (wr : Bool) (k : Nat) : Prop :=
  (k = 0 ∧ Unmapped s m a) ∨
  (¬ Unmapped s m a ∧
    ((k = 1 ∧ (a % n ≠ 0 ∨ n ≠ 4 ∧ WordsOnly a)) ∨
     (a % n = 0 ∧ ¬ (n ≠ 4 ∧ WordsOnly a) ∧
       ((k = 2 ∧ wr = true ∧ NoWrites s a) ∨
        (k = 3 ∧ 0x40000000 ≤ a ∧ a ≤ 0x4017FFFF ∧ a / 0x1000 % 4 = 3) ∨
        (k = 4 ∧ 0x50000000 ≤ a ∧ ¬ absentPage s.variant ((a - 0x50000000) / 0x100000) ∧
          tableBytes ((a - 0x50000000) / 0x100000) ≤ (a - 0x50000000) % 0x100000)))))

/-- The reply that master `m` last got. -/
def reply (m : Master) (t : State) : Reply := SMap.get (fun _ => {}) t.replies (masterIdx m)

/-- Replies of the other masters stand. -/
def OtherReplies (m : Master) (s t : State) : Prop := ∀ k, k ≠ masterIdx m → SMap.get (fun _ => {}) t.replies k = (SMap.get (fun _ => {}) s.replies k : Reply)

end Sys2Proof.Claims

/-- R16, R17, R19, R25, R26, R27: a read and a write of 8, 16 or 32 bits end in a bus error exactly for the causes of R16 to R25; the read
data are 0 and nothing is written; the first one since VALID was cleared is recorded in SYS with its address, kind, direction and master. -/
def Obligations.BusErrors : Prop :=
  ∀ (s : State) (m : Master) (a n : Nat) (v : Word) (x : Sense) (k : Nat) (wr : Bool) (c : Instr),
  busLive s = true → s.steps = [] → a < 2 ^ 32 → (n = 1 ∨ n = 2 ∨ n = 4) →
  c = (if wr then .registerWrite m a n v else .readClear m a n x) →
  ((∃ k, ErrorKind s (masterIdx m) a n wr k) ↔ ∃ t, exec c s = .next t ∧ (reply m t).resp = .busError) ∧
  (ErrorKind s (masterIdx m) a n wr k → ∃ t, exec c s = .next t ∧ reply m t = { resp := .busError, data := 0 } ∧ OtherReplies m s t ∧
    t = { s with regs := t.regs, replies := t.replies } ∧
    (s.on SYS_BUS_ERR_INFO_VALID = true → t.regs = s.regs) ∧
    (s.on SYS_BUS_ERR_INFO_VALID = false → WordsKept [SYS_BUS_ERR_ADDR_ADDR.addr, SYS_BUS_ERR_INFO_VALID.addr] s t ∧
      t.get SYS_BUS_ERR_ADDR_ADDR = a ∧ t.on SYS_BUS_ERR_INFO_VALID = true ∧ t.get SYS_BUS_ERR_INFO_KIND = k ∧
      t.get SYS_BUS_ERR_INFO_MASTER = masterIdx m ∧ t.on SYS_BUS_ERR_INFO_WRITE = wr))

/-- R16, R17, R26: reads of memory return its bytes, low byte first, and writes of the retained scratch, of a TCM and, with POOL_WR, of pool
cells store the low bytes of the data and nothing else. -/
def Obligations.MemoryAccesses : Prop :=
  ∀ (s : State) (m : Master) (a n : Nat) (v : Word) (x : Sense),
  busLive s = true → s.steps = [] → (n = 1 ∨ n = 2 ∨ n = 4) → a % n = 0 →
  let tcm := 0x30000000 ≤ a ∧ a < 0x30000000 + cores s.variant * 0x10000
  let scratch := 0x28008000 ≤ a ∧ a ≤ 0x2800FFFF
  let pool := 0x20000000 ≤ a ∧ a ≤ 0x201FFFFF ∧ n = 4
  (a < 0x8000 ∨ scratch ∨ pool ∨ (tcm ∧ x.par = false) →
    ∃ t, exec (.readClear m a n x) s = .next t ∧ reply m t = { resp := .ok, data := w32 (s.load a n) } ∧
      t = { s with replies := t.replies } ∧ OtherReplies m s t) ∧
  (scratch ∨ tcm ∨ (pool ∧ s.on DBG_CTRL_POOL_WR = true) →
    ∃ t, exec (.registerWrite m a n v) s = .next t ∧ (reply m t).resp = .ok ∧ t = { s with mem := t.mem, replies := t.replies } ∧
      t.load a n = v.toNat % 256 ^ n ∧ BytesKept a n s t ∧ OtherReplies m s t)

namespace Sys2Proof.Claims

/-- The bus serves master `m` at page `p` now, and no unlock sequence of this master waits for its second word. -/
def Serves (m : Master) (p : Nat) (s : State) : Prop :=
  busLive s = true ∧ pagePresent s.variant p = true ∧ s.ready p = true ∧ (s.key p (masterIdx m)).waits = false ∧ s.steps = []

/-- `t` answers `m` with OK and, beside that, differs from `s` in registers and table words at `as` only. -/
def Writes (m : Master) (as : List Nat) (s t : State) : Prop :=
  (reply m t).resp = .ok ∧ OtherReplies m s t ∧ t = { s with regs := t.regs, replies := t.replies } ∧ WordsKept as s t

end Sys2Proof.Claims

/-- R6, R19, R20: in an RW field (PG_FAULT_EN of four pages) a direct write stores the word, a write through the set alias sets the bits
written 1, and one through the clear alias clears them; in a W1C field (SYS.RESET_CAUSE) the set alias does nothing and the clear alias
clears. Nothing else changes. -/
def Sys2Proof.Claims.AliasWritesActBitByBit : Prop :=
  ∀ (s : State) (m : Master) (p : Nat) (v : Word),
  ((p = 0x01 ∨ p = 0x03 ∨ p = 0x11 ∨ p = 0x1C) → Serves m p s →
    let f := (PG_FAULT_EN_ALL p).addr
    (∃ t, exec (.registerWrite m f 4 v) s = .next t ∧ Writes m [f] s t ∧ t.word f = v) ∧
    (∃ t, exec (.aliasWrite m (f + 0x1000) v) s = .next t ∧ Writes m [f] s t ∧ t.word f = s.word f ||| v) ∧
    (∃ t, exec (.aliasWrite m (f + 0x2000) v) s = .next t ∧ Writes m [f] s t ∧ t.word f = s.word f &&& ~~~v)) ∧
  (Serves m 0 s →
    let c := SYS_RESET_CAUSE_COLD.addr
    (∃ t, exec (.aliasWrite m (c + 0x1000) v) s = .next t ∧ Writes m [] s t) ∧
    (∃ t, exec (.aliasWrite m (c + 0x2000) v) s = .next t ∧ Writes m [c] s t ∧
      ∀ b, b < 6 → t.on ⟨c, b, 1⟩ = (s.on ⟨c, b, 1⟩ && !v.getLsbD b)))

/-- R6, R19, R415: a direct read of SYS.NOT_READY_WRITES returns the word and clears its RC field COUNT, LAST_PAGE staying; a read through
the set or clear alias returns the same word and changes nothing. -/
def Sys2Proof.Claims.ReadClears : Prop :=
  ∀ (s : State) (m : Master) (x : Sense), Serves m 0 s →
  let a := SYS_NOT_READY_WRITES_COUNT.addr
  let w := w32 (liveWord s a)
  (∃ t, exec (.readClear m a 4 x) s = .next t ∧ reply m t = { resp := .ok, data := w } ∧ Writes m [a] s t ∧
    t.get SYS_NOT_READY_WRITES_COUNT = 0 ∧ t.get SYS_NOT_READY_WRITES_LAST_PAGE = s.get SYS_NOT_READY_WRITES_LAST_PAGE) ∧
  (∀ o, o = 0x1000 ∨ o = 0x2000 →
    ∃ t, exec (.readClear m (a + o) 4 x) s = .next t ∧ reply m t = { resp := .ok, data := w } ∧ Writes m [] s t)

/-- R6, R19, R20, R415: writes through the views act bit by bit, and direct reads clear RC fields. -/
def Obligations.RegisterAccesses : Prop := Sys2Proof.Claims.AliasWritesActBitByBit ∧ Sys2Proof.Claims.ReadClears

/-- R2, R26, R27: while a page is not READY a read outside its header answers NOT_READY with 0, and a write other than one of PG_FAULT or of
SOFT_RESET answers NOT_READY, writes nothing and is counted with its page in SYS.NOT_READY_WRITES; a page whose unit is absent reads 0 and
ignores writes with OK and no count. -/
def Obligations.NotReadyAndAbsentPages : Prop :=
  ∀ (s : State) (m : Master) (p o : Nat) (v : Word) (x : Sense), busLive s = true → s.steps = [] → p ∈ listedPages → o < 0x1000 → o % 4 = 0 →
  let a := 0x40000000 + p * 0x4000 + o
  (¬ absentPage s.variant p → s.ready p = false → (s.key p (masterIdx m)).waits = false →
    (0x40 ≤ o → ∃ t, exec (.readClear m a 4 x) s = .next t ∧ reply m t = { resp := .notReady, data := 0 } ∧
      t = { s with replies := t.replies }) ∧
    (o ≠ 0x0C → o ≠ 0x10 → ∃ t, exec (.registerWrite m a 4 v) s = .next t ∧ (reply m t).resp = .notReady ∧
      t = { s with regs := t.regs, replies := t.replies } ∧ WordsKept [SYS_NOT_READY_WRITES_COUNT.addr] s t ∧
      t.get SYS_NOT_READY_WRITES_LAST_PAGE = p ∧
      t.get SYS_NOT_READY_WRITES_COUNT = min (s.get SYS_NOT_READY_WRITES_COUNT + 1) 0xFFFF)) ∧
  (absentPage s.variant p →
    (∃ t, exec (.readClear m a 4 x) s = .next t ∧ reply m t = { resp := .ok, data := 0 } ∧ t = { s with replies := t.replies }) ∧
    (∃ t, exec (.registerWrite m a 4 v) s = .next t ∧ (reply m t).resp = .ok ∧ t = { s with replies := t.replies }))

namespace Sys2Proof.Claims

/-- R23: a write of PG_KEY completes on every page: the first key word begins a sequence, the second right after it unlocks the page for this
master, and any other value, a second word too early, or a first word again, ends the sequence and sets KEY_FAIL; an unlock that stands is not ended
(that no write of PG_KEY ends one is the model's reading, log entry 12). On a page that is not READY the write is discarded with NOT_READY, and
on an absent one ignored; while the bus does not run nothing happens. -/
def KeyWrites : Prop :=
  ∀ (s : State) (m : Master) (p : Nat) (v : Word), s.steps = [] → p ∈ listedPages →
  let k := masterIdx m
  let key := s.key p k
  let fail := PG_FAULT_bit p 29
  let kept (t : State) : Prop := (reply m t).resp = .ok ∧ OtherReplies m s t ∧ (∀ q j, j < 8 → (q, j) ≠ (p, k) → t.key q j = s.key q j) ∧
    t = { s with regs := t.regs, replies := t.replies, keys := t.keys, tbShadows := t.tbShadows, lcShadows := t.lcShadows,
                 pairs := t.pairs, sources := t.sources, lcs := t.lcs } ∧
    WordsKeptBut [fail.addr] s t ∧ (p ≠ 0x02 → t.tbShadows = s.tbShadows) ∧ (p ≠ 0x04 → t.lcShadows = s.lcShadows) ∧
    (p ≠ 0x40 → t.pairs = s.pairs ∧ t.sources = s.sources ∧ t.lcs = s.lcs ∧ WordsKept [fail.addr] s t)
  (busLive s = false → exec (.pgKeyWrite m p v) s = .next s) ∧
  (busLive s = true → absentPage s.variant p →
    ∃ t, exec (.pgKeyWrite m p v) s = .next t ∧ (reply m t).resp = .ok ∧ t = { s with replies := t.replies }) ∧
  (busLive s = true → ¬ absentPage s.variant p → s.ready p = false →
    ∃ t, exec (.pgKeyWrite m p v) s = .next t ∧ (reply m t).resp = .notReady ∧ t = { s with regs := t.regs, replies := t.replies }) ∧
  (busLive s = true → ¬ absentPage s.variant p → s.ready p = true →
    (v = w32 (0x4B450000 + p) → ∃ t, exec (.pgKeyWrite m p v) s = .next t ∧ kept t ∧ t.key p k = (if key.opens then .unlockedFirst else .first) ∧
      t.on fail = (s.on fail || key.waits)) ∧
    (v = w32 (0xB4BA0000 + p) → key.waits = true → ∃ t, exec (.pgKeyWrite m p v) s = .next t ∧ kept t ∧ t.key p k = .unlocked ∧
      t.on fail = s.on fail) ∧
    (v ≠ w32 (0x4B450000 + p) → ¬ (v = w32 (0xB4BA0000 + p) ∧ key.waits = true) →
      ∃ t, exec (.pgKeyWrite m p v) s = .next t ∧ kept t ∧ t.key p k = (if key.opens then .unlocked else .idle) ∧ t.on fail = true))

/-- R23: the end of an unlock by its 1,024 cycles completes in every state: an unlock of this master on this page ends, a first key word behind it
stands, and nothing else changes. -/
def UnlocksExpire : Prop :=
  ∀ (s : State) (m : Master) (p : Nat),
  let k := masterIdx m
  let key := s.key p k
  ∃ t, exec (.unlockExpire m p) s = .next t ∧ t = { s with keys := t.keys } ∧ (∀ q j, j < 8 → (q, j) ≠ (p, k) → t.key q j = s.key q j) ∧
    t.key p k = (if key.opens then (if key.waits then .first else .idle) else key)

/-- R24: SYS.WARM_RESET.GO written 1 without an unlock is discarded and sets LOCKED_WRITE. -/
def LockedWritesAreDiscarded : Prop :=
  ∀ (s : State) (m : Master), Serves m 0 s → (s.key 0 (masterIdx m)).opens = false →
  ∃ t, exec (.warmResetGo m) s = .next t ∧ Writes m [(PG_FAULT_bit 0 28).addr] s t ∧ t.on (PG_FAULT_bit 0 28) = true

end Sys2Proof.Claims

/-- R23, R24: the unlock sequence, its end by time, and a locked write without it. -/
def Obligations.UnlockSequence : Prop := Sys2Proof.Claims.KeyWrites ∧ Sys2Proof.Claims.UnlocksExpire ∧ Sys2Proof.Claims.LockedWritesAreDiscarded

/-- R269, R271: IDCODE, SAMPLE/PRELOAD and BYPASS are accepted always, EXTEST and DBGACC only while DBG is READY and not LOCKED and otherwise
act as BYPASS; DBGACC performs its access as master DBG, shows the response of the access before it, and answers BUSY while the bus does not run.
-/
def Obligations.TapInstructions : Prop :=
  ∀ (s : State) (op a : Nat) (v : Word) (x : Sense) (ir : Nat), op < 4 → a < 2 ^ 32 →
  let opened := s.ready 0x5F = true ∧ s.on DBG_CTRL_LOCKED = false
  let loads (i : Instr) (r : Nat) : Prop := ∃ t, exec i s = .next t ∧ t = { s with tap := t.tap, draws := t.draws } ∧ t.tap.ir = r ∧
    t.tap.data = s.tap.data ∧ t.tap.resp = s.tap.resp
  loads .samplePreload 1 ∧ (∃ t, exec .idcode s = .next t ∧ t = { s with tap := { s.tap with ir := 2, out := Config.idcode.toNat } }) ∧
  (∃ t, exec (.bypass ir) s = .next t ∧ t = { s with tap := { s.tap with ir := 0x1F, out := 0 } }) ∧
  (opened → loads .extest 0) ∧ (¬ opened → loads .extest 0x1F ∧ loads (.dbgacc op a v x) 0x1F) ∧
  (opened → ∃ t, exec (.dbgacc op a v x) s = .next t ∧ t.tap.ir = 8 ∧ t.tap.out = s.tap.data.toNat * 64 + s.tap.resp * 16 ∧
    (op = 0 ∨ op = 3 → t.tap.data = s.tap.data ∧ t.tap.resp = s.tap.resp ∧ t = { s with tap := t.tap }) ∧
    (op = 1 ∨ op = 2 → busLive s = false → t = { s with tap := t.tap } ∧ t.tap.resp = 3) ∧
    (op = 1 → busLive s = true → s.steps = [] → a < 0x8000 → a % 4 = 0 →
      t = { s with tap := t.tap, replies := t.replies } ∧ t.tap.data = w32 (s.load a 4) ∧ t.tap.resp = 0) ∧
    (op = 2 → busLive s = true → s.steps = [] → a < 0x8000 →
      t = { s with tap := t.tap, regs := t.regs, replies := t.replies } ∧ t.tap.resp = 2))

/-! ### The time base (spec/03) -/

namespace Sys2Proof.Claims

/-- The expected second of R40. -/
def expected (s : State) : Nat := s.get TB_PPS_EXP_LO_TB + s.get TB_PPS_EXP_HI_TB * 2 ^ 32

/-- A second in ticks. -/
def second : Nat := 131072000

/-- Shadows of the TB page of masters other than `m` stand. -/
def OtherTbShadows (m : Master) (s t : State) : Prop := ∀ k, k ≠ masterIdx m → t.tbShadow k = s.tbShadow k

end Sys2Proof.Claims

/-- R37, R39: TB_SNAP captures TB and FRAC; NOW_LO returns TB[31:0] and latches TB[63:32] and FRAC for its master; NOW_HI right after it
returns what was latched and otherwise the live word with TORN_RISK; PPS_CAP_LO returns the capture, latches its high word and clears FULL. -/
def Obligations.TimeBaseReads : Prop :=
  ∀ (s : State) (m : Master), Serves m 2 s →
  let Ends (as : List Nat) (t : State) : Prop := (reply m t).resp = .ok ∧ OtherReplies m s t ∧ OtherTbShadows m s t ∧
    t = { s with regs := t.regs, replies := t.replies, tbShadows := t.tbShadows } ∧ WordsKept as s t
  let own (t : State) : TbShadow := t.tbShadow (masterIdx m)
  (∃ t, exec (.tbSnap m) s = .next t ∧ Ends [TB_SNAP_LO_TB.addr, TB_SNAP_HI_TB.addr, TB_SNAP_FRAC_FRAC.addr] t ∧
    t.get TB_SNAP_LO_TB = s.tb % 2 ^ 32 ∧ t.get TB_SNAP_HI_TB = s.tb / 2 ^ 32 ∧ t.get TB_SNAP_FRAC_FRAC = s.frac) ∧
  (∃ t, exec (.tbNowLoRead m) s = .next t ∧ Ends [] t ∧ (reply m t).data = w32 (s.tb % 2 ^ 32) ∧
    (own t).nowFresh = true ∧ (own t).capFresh = false ∧ (own t).hi = w32 (s.tb / 2 ^ 32) ∧ (own t).frac = w32 s.frac) ∧
  ((own s).nowFresh = true → ∃ t, exec (.tbNowHiRead m) s = .next t ∧ Ends [] t ∧ (reply m t).data = (own s).hi) ∧
  ((own s).nowFresh = false → ∃ t, exec (.tbNowHiRead m) s = .next t ∧ Ends [TB_STAT_TORN_RISK.addr] t ∧
    (reply m t).data = w32 (s.tb / 2 ^ 32) ∧ t.on TB_STAT_TORN_RISK = true) ∧
  (∃ t, exec (.ppsCapLoRead m) s = .next t ∧ Ends [TB_PPS_STAT_FULL.addr] t ∧ (reply m t).data = s.word TB_PPS_CAP_LO_TB.addr ∧
    t.on TB_PPS_STAT_FULL = false ∧ t.get TB_PPS_STAT_MISSES = s.get TB_PPS_STAT_MISSES ∧
    (own t).capFresh = true ∧ (own t).nowFresh = false ∧ (own t).capHi = s.word TB_PPS_CAP_HI_TB.addr)

/-- R40, R43, R46: a write of PPS_EXP_HI commits the pair with the low word written before and sets EXP_VALID; an admitted CMD.LOAD puts
LOAD into TB and 0 into FRAC, sets STEPPED, clears LOCKED, raises source 614 and leaves SERVO_INT, TRIM and EXP as they were; while the ring
steers and the hub is not its head the load is refused with RING_OWNED. -/
def Obligations.TimeBaseWrites : Prop :=
  ∀ (s : State) (m : Master) (v w : Word), Serves m 2 s →
  let Kept (as : List Nat) (t : State) : Prop := (reply m t).resp = .ok ∧ OtherReplies m s t ∧
    t = { s with regs := t.regs, replies := t.replies, tbShadows := t.tbShadows } ∧ WordsKept as s t
  (s.timeBase.expLo = w → ∃ t, exec (.ppsExpCommit m v) s = .next t ∧
    Kept [TB_PPS_EXP_LO_TB.addr, TB_PPS_EXP_HI_TB.addr, TB_PPS_STAT_EXP_VALID.addr] t ∧
    t.word TB_PPS_EXP_LO_TB.addr = w ∧ t.word TB_PPS_EXP_HI_TB.addr = v ∧ t.on TB_PPS_STAT_EXP_VALID = true ∧
    t.get TB_PPS_STAT_MISSES = s.get TB_PPS_STAT_MISSES ∧ t.on TB_PPS_STAT_FULL = s.on TB_PPS_STAT_FULL) ∧
  (∃ t, exec (.registerWrite m TB_PPS_EXP_LO_TB.addr 4 w) s = .next t ∧ (reply m t).resp = .ok ∧ t.timeBase.expLo = w ∧ t.regs = s.regs) ∧
  ((s.key 2 (masterIdx m)).opens = true →
    let owned := s.get TB_DISC_CTRL_SRC = 2 ∧ s.variant ≠ .l ∧ s.on SYS_HUB_HEAD = false
    (¬ owned → ∃ t, exec (.tbLoad m) s = .next t ∧ (reply m t).resp = .ok ∧
      t.tbf = (s.get TB_LOAD_LO_TB + s.get TB_LOAD_HI_TB * 2 ^ 32) * 2 ^ 32 ∧ t.on TB_STAT_STEPPED = true ∧ t.on TB_STAT_LOCKED = false ∧
      Raised 614 s t ∧ t.word TB_SERVO_INT_INT.addr = s.word TB_SERVO_INT_INT.addr ∧ t.trim = s.trim ∧ expected t = expected s ∧
      t.key 2 (masterIdx m) = .idle) ∧
    (owned → s.timeBase.loadPending = false → s.timeBase.ringStep = none →
      ∃ t, exec (.tbLoad m) s = .next t ∧ t.tbf = s.tbf ∧ t.on (PG_FAULT_bit 2 1) = true ∧ WordsKept [(PG_FAULT_bit 2 1).addr] s t))

/-- R38 to R43: an edge is accepted that has the polarity of PPS_EDGE, has held for MIN_WIDTH samples and was first seen at a TB that has been,
unless TB coasts; any other is ignored. What an accepted one does: the capture, FULL and OVERRUN, the error against EXP and its realignment, the outlier
test, the servo's arithmetic, the lock counters and EXP; and source 608. -/
def Sys2Proof.Claims.PpsCaptures : Prop :=
  ∀ (s : State) (falling : Bool) (cap held : Nat), cap < 2 ^ 64 →
  let accepted := s.busStopped = false ∧ falling = s.on TB_DISC_CTRL_PPS_EDGE ∧ max 1 (s.get TB_PPS_CFG_MIN_WIDTH) ≤ held ∧ cap ≤ s.tb
  (¬ accepted → exec (.ppsCapture ⟨falling, cap, held⟩) s = .next s) ∧
  (accepted → ∃ (t : State) (e : Int), exec (.ppsCapture ⟨falling, cap, held⟩) s = .next t ∧ t.tbf = s.tbf ∧ t.mem = s.mem ∧ Raised 608 s t ∧
    WordsKeptBut [TB_PPS_CAP_LO_TB.addr, TB_PPS_CAP_HI_TB.addr, TB_PPS_STAT_FULL.addr, TB_STAT_LOCKED.addr, TB_PPS_ERR_ERR.addr,
      TB_PPS_EXP_LO_TB.addr, TB_PPS_EXP_HI_TB.addr, TB_TRIM_TRIM.addr, TB_SERVO_INT_INT.addr] s t ∧
    t.get TB_PPS_CAP_LO_TB + t.get TB_PPS_CAP_HI_TB * 2 ^ 32 = cap ∧ t.on TB_PPS_STAT_FULL = true ∧
    (t.on TB_PPS_STAT_OVERRUN = true ↔ s.on TB_PPS_STAT_OVERRUN = true ∨ s.on TB_PPS_STAT_FULL = true) ∧
    (s.on TB_PPS_STAT_FULL = true → Raised 616 s t) ∧
    t.get TB_PPS_STAT_MISSES = 0 ∧ t.on TB_STAT_HOLDOVER = false ∧ t.on TB_PPS_STAT_EXP_VALID = true ∧ t.getS TB_PPS_ERR_ERR = e ∧
    (s.on TB_PPS_STAT_EXP_VALID = false → e = 0 ∧ expected t = (cap + second) % 2 ^ 64) ∧
    (s.on TB_PPS_STAT_EXP_VALID = true → ∃ k : Int, -65536000 ≤ e ∧ e ≤ 65536000 ∧
      ((cap : Int) - expected s - k * second - e) % 2 ^ 64 = 0 ∧ ((expected t : Int) - expected s - (k + 1) * second) % 2 ^ 64 = 0 ∧
      (((cap : Int) - expected s + 65536000) % 2 ^ 64 ≤ 131072000 → k = 0)) ∧
    (let outlier := s.on TB_STAT_LOCKED = true ∧ s.timeBase.afterCoast = false ∧ s.get TB_PPS_CFG_WINDOW < e.natAbs
     let steers := ¬ outlier ∧ s.get TB_DISC_CTRL_SRC = 1 ∧ s.on TB_DISC_CTRL_SERVO_EN = true
     let i := sat 32 (s.getS TB_SERVO_INT_INT + s.get TB_SERVO_GAIN_KI * e)
     let u := -(s.get TB_SERVO_GAIN_KP * e + i)
     (t.on TB_PPS_STAT_OUTLIER = true ↔ s.on TB_PPS_STAT_OUTLIER = true ∨ outlier) ∧ (outlier → Raised 610 s t) ∧
     (¬ steers → t.trim = s.trim ∧ t.getS TB_SERVO_INT_INT = s.getS TB_SERVO_INT_INT) ∧
     (steers → u.natAbs ≤ 858993 → t.trim = u ∧ t.getS TB_SERVO_INT_INT = i) ∧
     (steers → 858993 < u.natAbs → t.trim = u.sign * 858993 ∧ t.getS TB_SERVO_INT_INT = s.getS TB_SERVO_INT_INT ∧ Raised 615 s t)) ∧
    (e.natAbs ≤ s.get TB_SERVO_GAIN_LOCK_THR → t.timeBase.within = s.timeBase.within + 1 ∧ t.timeBase.beyond = 0 ∧
      (t.on TB_STAT_LOCKED = true ↔ s.on TB_STAT_LOCKED = true ∨ max 1 (s.get TB_SERVO_GAIN_LOCK_CNT) ≤ s.timeBase.within + 1)) ∧
    (s.get TB_SERVO_GAIN_LOCK_THR < e.natAbs → t.timeBase.within = 0 ∧ t.timeBase.beyond = s.timeBase.beyond + 1 ∧
      (t.on TB_STAT_LOCKED = true ↔ s.on TB_STAT_LOCKED = true ∧ s.timeBase.beyond + 1 < 3)))

/-- R40, R43, R44: a second without an edge is counted, raises source 609 and advances EXP, and the last of MISS_LIMIT begins HOLDOVER,
which clears LOCKED and, where the PPS steers, sets TRIM to −SERVO_INT; a measurement window sets XTAL_MEAS and COAST_INC, and one in which
the clock state changed sets neither. -/
def Sys2Proof.Claims.PpsMissesAndCrystal : Prop :=
  ∀ s : State, s.busStopped = false →
  (s.on TB_PPS_STAT_EXP_VALID = true → expected s + s.get TB_PPS_CFG_WINDOW ≤ s.tb →
    ∃ t, exec .ppsMissing s = .next t ∧ t.tbf = s.tbf ∧ t.mem = s.mem ∧ Raised 609 s t ∧
      WordsKeptBut [TB_PPS_STAT_MISSES.addr, TB_PPS_EXP_LO_TB.addr, TB_PPS_EXP_HI_TB.addr, TB_STAT_LOCKED.addr, TB_TRIM_TRIM.addr] s t ∧
      t.get TB_PPS_STAT_MISSES = min (s.get TB_PPS_STAT_MISSES + 1) 0xFFFF ∧ expected t = (expected s + second) % 2 ^ 64 ∧
      (let last := max 1 (s.get TB_PPS_CFG_MISS_LIMIT) ≤ t.get TB_PPS_STAT_MISSES ∧ s.on TB_STAT_HOLDOVER = false
       (last → t.on TB_STAT_HOLDOVER = true ∧ t.on TB_STAT_LOCKED = false ∧ Raised 613 s t ∧
         (s.get TB_DISC_CTRL_SRC = 1 → t.trim = max (-858993) (min 858993 (-(s.getS TB_SERVO_INT_INT)))) ∧
         (s.get TB_DISC_CTRL_SRC ≠ 1 → t.trim = s.trim)) ∧
       (¬ last → t.on TB_STAT_HOLDOVER = s.on TB_STAT_HOLDOVER ∧ t.on TB_STAT_LOCKED = s.on TB_STAT_LOCKED ∧ t.trim = s.trim))) ∧
  (s.clk.winBad = true → ∃ t, exec .xtalMeas s = .next t ∧ t = { s with clk := { s.clk with winStart := s.tb, winBad := false } }) ∧
  (s.clk.winBad = false → s.clk.winStart < 2 ^ 64 →
    let count : Nat := (((s.tb : Int) - s.clk.winStart) % (2 ^ 32 : Nat)).toNat
    let inc : Int := (count : Int) * 2 ^ (17 - min 5 (s.get BELLOWS_COAST_CFG_MEAS_LOG2)) - 4000 * 2 ^ 32
    ∃ t, exec .xtalMeas s = .next t ∧ t = { s with clk := { s.clk with winStart := s.tb, winBad := false }, regs := t.regs, draws := t.draws } ∧
      WordsKept [BELLOWS_XTAL_MEAS_MEAS.addr, BELLOWS_COAST_INC_FRAC.addr] s t ∧ t.get BELLOWS_XTAL_MEAS_MEAS = count ∧
      (-(2 ^ 31) ≤ inc → inc < 2 ^ 31 → t.getS BELLOWS_COAST_INC_FRAC = inc))

/-- R39 to R44: PPS captures, misses, and the measurement of the crystal. -/
def Obligations.PpsAndCrystal : Prop := Sys2Proof.Claims.PpsCaptures ∧ Sys2Proof.Claims.PpsMissesAndCrystal

/-- R30 to R34, R45: the steps of the PLL's start, the release of the dividers at the alignment edge with a reference step of TB and its value in
ALIGN, the return of the reference from coast after one more coast step, losses of lock, of the reference and of the crystal, with their flags, sources and
black-box records. (Which flags fall where the reference and the crystal are both lost is a reading, DEDUCED in log entry 20.) -/
def Obligations.ClockStates : Prop :=
  ∀ s : State,
  let stat := BELLOWS_CLK_STAT_CLKSRC.addr
  let ticks (n : Int) : Nat := (((s.tbf : Int) + n * (2 ^ 32 + s.trim)) % (2 ^ 96 : Nat)).toNat
  let coast : Int := 4000 * 2 ^ 32 + max (-0x7FFFFFFF) (min 0x7FFFFFFF (s.getS BELLOWS_COAST_INC_FRAC + s.getS BELLOWS_COAST_ADJ_FRAC))
  let alive := s.pwr.off = false ∧ s.pwr.held = false
  let wanted := alive ∧ (s.get BELLOWS_PWR_STAT_STATE = 0 ∨ s.pwr.phase = 3)
  let noLoad := s.timeBase.loadPending = false ∧ s.timeBase.ringStep = none
  (s.clk.refPresent = true → wanted → s.on BELLOWS_CLK_STAT_REF_OK = false →
    (s.clksrc = 0 ∨ s.clksrc = 1 → ∃ t, exec .refOk s = .next t ∧ OnlyRegs [stat] s t ∧ t.on BELLOWS_CLK_STAT_REF_OK = true ∧ t.clksrc = s.clksrc) ∧
    (s.clksrc = 2 ∨ s.clksrc = 3 → noLoad → ∃ t, exec .refOk s = .next t ∧ t.on BELLOWS_CLK_STAT_REF_OK = true ∧ t.clksrc = 1 ∧
      t.tbf = (((s.tbf : Int) + (if s.clksrc = 2 then coast else 0) + 3 * (2 ^ 32 + s.trim)) % (2 ^ 96 : Nat)).toNat ∧ t.clk.phase = 1 ∧ t.get TB_PPS_STAT_MISSES = 0)) ∧
  (s.clk.refPresent = true → wanted → s.on BELLOWS_CLK_STAT_REF_OK = true → s.clksrc = 1 →
    ∃ t, exec .vcoBand s = .next t ∧ t = { s with clk := { s.clk with band := true } }) ∧
  (s.clk.refPresent = true → wanted → s.clk.band = true → s.clksrc = 1 →
    ∃ t, exec .pllLock s = .next t ∧ OnlyRegs [stat] s t ∧ t.on BELLOWS_CLK_STAT_PLL_LOCK = true ∧ t.clksrc = 1) ∧
  (wanted → s.on BELLOWS_CLK_STAT_PLL_LOCK = true → s.clksrc = 1 → noLoad →
    ∃ t, exec .dividerRelease s = .next t ∧ t.clksrc = 0 ∧ t.tbf = ticks (if s.clk.phase = 4 then 4 else 3) ∧
      t.get BELLOWS_ALIGN_LO_TB = t.tb % 2 ^ 32 ∧ t.get BELLOWS_ALIGN_HI_TB = t.tb / 2 ^ 32) ∧
  (s.clksrc = 0 → noLoad → ∃ t, exec .pllLockLost s = .next t ∧ t.clksrc = 1 ∧ t.on BELLOWS_CLK_STAT_LOCK_LOST = true ∧
    t.on BELLOWS_CLK_STAT_PLL_LOCK = false ∧ t.tbf = ticks 1 ∧ t.clk.phase = 0 ∧ Raised 576 s t ∧ Recorded 0x0010 s t) ∧
  (s.clk.refPresent = true → alive → ∃ t, exec .refLost s = .next t ∧ t.clk.refPresent = false ∧ t.on BELLOWS_CLK_STAT_REF_LOST = true ∧
    t.clksrc = (if s.on BELLOWS_CLK_STAT_XTAL32_OK then 2 else 3) ∧ t.tbf = s.tbf ∧ Recorded 0x0011 s t ∧
    (s.busStopped = false → t.on TB_STAT_COASTED = true ∧ t.on BELLOWS_CLK_STAT_REF_OK = false)) ∧
  (s.clk.refPresent = false → alive → s.pwr.phase ≠ 2 → ∃ t, exec .refRestored s = .next t ∧ t.clk.refPresent = true ∧
    t.pwr.phase = 3 ∧ t.pwr.refBack = true ∧ t.on BELLOWS_PWR_STAT_BUSY = true ∧ t.tbf = s.tbf ∧
    WordsKept [BELLOWS_PWR_STAT_BUSY.addr, BELLOWS_WAKE_LAST_VALID.addr] s t) ∧
  (s.on BELLOWS_CLK_STAT_XTAL32_OK = true → ∃ t, exec .xtalFail s = .next t ∧ t.on BELLOWS_CLK_STAT_XTAL32_OK = false ∧
    t.clksrc = (if s.clksrc = 2 then 3 else s.clksrc) ∧ t.tbf = s.tbf ∧ WordsKeptBut [stat] s t ∧
    (s.clk.refPresent = true → t.on BELLOWS_CLK_STAT_XTAL32_FAIL = true ∧ Raised 578 s t)) ∧
  (alive → ∃ t, exec .xtalOk s = .next t ∧ OnlyRegs [stat] s t ∧ t.on BELLOWS_CLK_STAT_XTAL32_OK = true ∧
    t.clksrc = (if s.clksrc = 3 then 2 else s.clksrc))

/-! ### Compare channels and linked counters (spec/04) -/

namespace Sys2Proof.Claims

/-- The words of the CMP page. -/
def cmpWord (a : Nat) : Prop := 0x4000C000 ≤ a ∧ a < 0x40010000

/-- Hidden state of compare channels other than `n` stands. -/
def OtherCmps (n : Nat) (s t : State) : Prop := ∀ k, k ≠ n → t.cmp k = s.cmp k

/-- `t` answers `m` with OK and, beside that, changes registers at `as` and the hidden state of compare channel `n` only. -/
def WritesCmp (m : Master) (n : Nat) (as : List Nat) (s t : State) : Prop :=
  (reply m t).resp = .ok ∧ OtherReplies m s t ∧ OtherCmps n s t ∧ t = { s with regs := t.regs, replies := t.replies, cmps := t.cmps } ∧
  WordsKept as s t

end Sys2Proof.Claims

/-- R48, R49: a match sets the HIT bit, raises source n and, where the arming asked for it, sets LATE; a one-shot channel clears ARM, a periodic
one counts what it skipped and has the advance to CMP + (k + 1) PERIOD pending; the end of an advance or of an aligned arming puts the value
in place and clears PENDING. -/
def Sys2Proof.Claims.CompareMatches : Prop :=
  ∀ (s : State) (n : Nat), n < 64 →
  let v := cmpValue s n
  let hit : Fld := ⟨CMP_HIT_LO_HIT.addr + 4 * (n / 32), n % 32, 1⟩
  (s.ready 3 = true → s.on (CMP_CTRL_ARM n) = true → (s.cmp n).adv = none → (s.cmp n).align = none → v ≤ s.tb →
    ∃ t, exec (.cmpMatch n) s = .next t ∧ t.on hit = true ∧ Raised n s t ∧ t.tbf = s.tbf ∧ cmpValue t n = v ∧
      (t.on (CMP_STAT_LATE n) = true ↔ s.on (CMP_STAT_LATE n) = true ∨ (s.cmp n).late = true) ∧ OtherCmps n s t ∧
      (∀ a, cmpWord a → a ∉ [hit.addr, (CMP_CTRL_ARM n).addr, (CMP_STAT_LATE n).addr] → t.word a = s.word a) ∧
      (let p := cmpPeriod s n
       let k := (s.tb - v) / p
       (s.on (CMP_CTRL_PERIODIC n) = false ∨ p = 0 → t.on (CMP_CTRL_ARM n) = false ∧ (t.cmp n).adv = none) ∧
       (s.on (CMP_CTRL_PERIODIC n) = true → p ≠ 0 → t.on (CMP_CTRL_ARM n) = true ∧ t.on (CMP_STAT_PENDING n) = true ∧
         (t.cmp n).adv = some ((v + (k + 1) * p) % 2 ^ 64) ∧
         t.get (CMP_STAT_SKIPPED n) = min (s.get (CMP_STAT_SKIPPED n) + k) 0xFFFF ∧
         (t.on (CMP_STAT_SKIP n) = true ↔ s.on (CMP_STAT_SKIP n) = true ∨ 0 < k)))) ∧
  (∀ x, x < 2 ^ 64 →
    let Puts (t : State) : Prop := t = { s with regs := t.regs, cmps := t.cmps } ∧ cmpValue t n = x ∧ t.on (CMP_STAT_PENDING n) = false ∧
      OtherCmps n s t ∧ WordsKept [(CMP_CMP_LO_CMP n).addr, (CMP_CMP_HI_CMP n).addr, (CMP_STAT_PENDING n).addr] s t ∧
      (t.cmp n).late = (s.cmp n).late
    ((s.cmp n).adv = some x → ∃ t, exec (.cmpAdvanceDone n) s = .next t ∧ Puts t ∧ (t.cmp n).adv = none ∧ (t.cmp n).align = (s.cmp n).align) ∧
    ((s.cmp n).align = some x → ∃ t, exec (.cmpAlignDone n) s = .next t ∧ Puts t ∧ (t.cmp n).align = none ∧ (t.cmp n).adv = (s.cmp n).adv))

/-- R50, R51: a write of CMP_HI, PER_HI or PHASE_HI commits the pair with the low word written before; a commit of CMP cancels what was pending
and notes whether the value is passed; ARM from 0 to 1 takes the CMP in force, or with ALIGN and a PERIOD the smallest value above TB + 256 on
the PHASE grid. -/
def Sys2Proof.Claims.CompareWrites : Prop :=
  ∀ (s : State) (m : Master) (n : Nat) (v : Word), n < 64 → Serves m 3 s →
  let stat := (CMP_STAT_PENDING n).addr
  (∃ t, exec (.cmpCommit m n v) s = .next t ∧ WritesCmp m n [(CMP_CMP_LO_CMP n).addr, (CMP_CMP_HI_CMP n).addr, stat] s t ∧
    t.word (CMP_CMP_LO_CMP n).addr = (s.cmp n).lo ∧ t.word (CMP_CMP_HI_CMP n).addr = v ∧ t.on (CMP_STAT_PENDING n) = false ∧
    t.cmp n = { s.cmp n with adv := none, align := none, late := decide (cmpValue t n ≤ s.tb) }) ∧
  (∃ t, exec (.perCommit m n v) s = .next t ∧ WritesCmp m n [(CMP_PER_LO_PER n).addr, (CMP_PER_HI_PER n).addr] s t ∧ t.cmp n = s.cmp n ∧
    t.word (CMP_PER_LO_PER n).addr = (s.cmp n).perLo ∧ t.get (CMP_PER_HI_PER n) = v.toNat % 2 ^ 16) ∧
  (∃ t, exec (.phaseCommit m n v) s = .next t ∧ WritesCmp m n [(CMP_PHASE_LO_PHASE n).addr, (CMP_PHASE_HI_PHASE n).addr] s t ∧ t.cmp n = s.cmp n ∧
    t.word (CMP_PHASE_LO_PHASE n).addr = (s.cmp n).phaseLo ∧ t.get (CMP_PHASE_HI_PHASE n) = v.toNat % 2 ^ 16) ∧
  (s.on (CMP_CTRL_ARM n) = false →
    ∃ t, exec (.cmpArm m n v) s = .next t ∧ WritesCmp m n [(CMP_CTRL_ARM n).addr, stat] s t ∧ t.on (CMP_CTRL_ARM n) = true ∧
      t.on (CMP_CTRL_PERIODIC n) = v.getLsbD 1 ∧ t.on (CMP_CTRL_ALIGN n) = v.getLsbD 2 ∧ t.get (CMP_CTRL_LOADMODE n) = v.toNat / 8 % 4 ∧
      (let p := cmpPeriod s n
       (v.getLsbD 2 = false ∨ p = 0 → t.cmp n = { s.cmp n with late := (s.cmp n).adv.isNone && decide (cmpValue s n ≤ s.tb) }) ∧
       (v.getLsbD 2 = true → p ≠ 0 → s.tb + 257 + 2 ^ 48 ≤ 2 ^ 64 → t.on (CMP_STAT_PENDING n) = true ∧ (t.cmp n).adv = none ∧
         ∃ x, (t.cmp n).align = some x ∧ s.tb + 256 < x ∧ x ≤ s.tb + 256 + p ∧ ((x : Int) - cmpPhase s n) % (p : Int) = 0)))

/-- R48, R49, R50, R51: the matches of compare units, and what writes of their registers do. -/
def Obligations.CompareUnits : Prop := Sys2Proof.Claims.CompareMatches ∧ Sys2Proof.Claims.CompareWrites

namespace Sys2Proof.Claims

/-- Words of counter or pair `b`. -/
def lcWords (b : Nat) : List Nat :=
  [(LC_COUNT_COUNT b).addr, (LC_COUNT_COUNT (b + 1)).addr, (LC_CAP_CAP b).addr, (LC_CAP_CAP (b + 1)).addr, (LC_STAT_FULL b).addr, LC_RUN_RUN.addr]

/-- No load of TB waits for the next update. -/
def NoLoad (s : State) : Prop := s.timeBase.loadPending = false ∧ s.timeBase.ringStep = none

/-- Nothing is under way on the ports, in the contexts, on the ring links and in the action unit. -/
def Still (s : State) : Prop := s.ports = [] ∧ s.ctxs = [] ∧ s.ring.ports = [] ∧ s.firings = []

/-- What the source of counter `b` has given at the next update, `r` rising and `f` falling edges of its pin among it (R53). -/
def givenBy (s : State) (b r f : Nat) : Nat :=
  let e := s.get (LC_CFG_EDGE b)
  if s.get (LC_CFG_SRC b) = 1 then tbStep s
  else (s.lc b).edges + (if s.get (LC_CFG_SRC b) = 3 then (if e = 1 then 0 else r) + (if e = 1 ∨ e = 2 then f else 0) else 0)

/-- The advance that this gives (R53). -/
def advanceOf (s : State) (b k : Nat) : Nat :=
  if s.get (LC_CFG_SRC b) = 1 then ((s.lc b).presc + k) / (s.get (LC_PRESC_DIV b) + 1)
  else if s.get (LC_CFG_SRC b) = 2 ∨ s.get (LC_CFG_SRC b) = 3 ∨ s.get (LC_CFG_SRC b) = 4 then min 1 k else 0

/-- The counter takes what its source gives (R53, R56, R61, R62). -/
def Counts (s : State) (b : Nat) : Prop := lcRunning s b = true ∧ lcSelPresent s b = true ∧ lcMode s b ≠ 3

/-- `m` waits for counter `n`, named by either half of a pair: it acts in the next cycle (R55). -/
def Sent (t : State) (n : Nat) (m : LcMsg) : Prop := m ∈ (t.lc (lcBase t n)).inbox

end Sys2Proof.Claims

/-- R53, R54, R55, R57: an update of TB adds to COUNT, of 32 bits or of 64 in a pair, what the prescaler or the edges give; where it moves COUNT so
that MATCH lies in (old, new] it sets MATCHED, raises its source with M_EVENT, resets modulo MATCH with M_RESET and sends the other actions, which
act in the next cycle; where it wraps it sets OVERFLOWED, raises with O_EVENT and sends O_STOP and its links. A counter that does not run keeps its
count, and LC_MATCH and LC_OVERFLOW do nothing where no such update is due. -/
def Sys2Proof.Claims.CounterUpdates : Prop :=
  ∀ (s : State) (n r f : Nat), n < 16 → s.busStopped = false → NoLoad s → (∀ c, c < 16 → (s.lc c).inbox = []) →
  let b := lcBase s n
  let w := 2 ^ lcWidth s b
  let old := lcValue s b LC_COUNT_COUNT
  let mt := lcValue s b LC_MATCH_MATCH
  let k := givenBy s b r f
  let d := advanceOf s b k
  let hit (j : Nat) : Prop := mt ≠ 0 ∧ 1 ≤ j ∧ j ≤ d ∧ (old + j) % w = mt ∧ ∀ i, 1 ≤ i → i < j → (old + i) % w ≠ mt
  let count (t : State) : Nat := lcValue t b LC_COUNT_COUNT
  let Ticked (t : State) : Prop := t.tbf = (tbAdvance s).tbf ∧
    (s.get (LC_CFG_SRC b) = 1 → (t.lc b).presc = ((s.lc b).presc + k) % (s.get (LC_PRESC_DIV b) + 1)) ∧
    (t.on (LC_STAT_EDGE_LOST b) = true ↔ s.on (LC_STAT_EDGE_LOST b) = true ∨ (2 ≤ s.get (LC_CFG_SRC b) ∧ s.get (LC_CFG_SRC b) ≤ 4 ∧ 1 < k)) ∧
    ∀ c, c < 16 → lcBase s c = c → c ≠ b → lcRunning s c = false → lcValue t c LC_COUNT_COUNT = lcValue s c LC_COUNT_COUNT
  let link := s.get (LC_ACT_LINK b)
  Counts s b →
  ((∀ j, ¬ hit j) → old + d < w → ∃ t, exec (.lcCountEvent n ⟨r, f⟩) s = .next t ∧ Ticked t ∧ count t = old + d ∧
    (Still s → (∀ c, c < 16 → lcBase s c = c → c ≠ b → lcRunning s c = false) →
      t = { s with tbf := t.tbf, clk := t.clk, regs := t.regs, lcs := t.lcs } ∧
      WordsKept [(LC_COUNT_COUNT b).addr, (LC_COUNT_COUNT (b + 1)).addr, (LC_STAT_EDGE_LOST b).addr] s t)) ∧
  ((∀ j, ¬ hit j) → exec (.lcMatch n ⟨r, f⟩) s = .next s) ∧
  (∀ j, hit j → ∃ t, exec (.lcMatch n ⟨r, f⟩) s = .next t ∧ Ticked t ∧ t.on (LC_STAT_MATCHED b) = true ∧
    (s.on (LC_ACT_M_RESET b) = false → count t = (old + d) % w) ∧
    (s.on (LC_ACT_M_RESET b) = true → count t = (d - j) % mt ∧ (mt ≤ d - j → t.on (LC_STAT_SKIP b) = true)) ∧
    (s.on (LC_ACT_M_EVENT b) = true → Raised (64 + b) s t) ∧ (s.on (LC_ACT_M_STOP b) = true → Sent t b .stop) ∧
    (s.on (LC_ACT_M_CAPTURE b) = true → Sent t b (.capture none)) ∧ (s.on (LC_ACT_M_START_LINK b) = true → Sent t link .start) ∧
    (s.on (LC_ACT_M_RESET_LINK b) = true → Sent t link .reset) ∧ (s.on (LC_ACT_M_STOP_LINK b) = true → Sent t link .stop)) ∧
  (old + d < w → exec (.lcOverflow n ⟨r, f⟩) s = .next s) ∧
  (w ≤ old + d → ∃ t, exec (.lcOverflow n ⟨r, f⟩) s = .next t ∧ Ticked t ∧ t.on (LC_STAT_OVERFLOWED b) = true ∧
    (s.on (LC_ACT_M_RESET b) = false → count t = (old + d) % w) ∧
    (s.on (LC_ACT_O_EVENT b) = true → Raised (64 + b) s t) ∧ (s.on (LC_ACT_O_STOP b) = true → Sent t b .stop) ∧
    (s.on (LC_ACT_O_START_LINK b) = true → Sent t link .start) ∧ (s.on (LC_ACT_O_RESET_LINK b) = true → Sent t link .reset) ∧
    (s.on (LC_ACT_O_STOP_LINK b) = true → Sent t link .stop))

/-- R55, R56, R58 to R60: what reached a counter acts in its next cycle in the order stop, reset, start, its count's advance, capture; a reset of
RESET mode captures the count before it; in CLOCK mode the master's clocks are counted; a snapshot takes the count, both words of a pair; reads
of COUNT and CAP return the word, latch or return the high word of a pair for their master, and a read of CAP clears FULL. -/
def Sys2Proof.Claims.CounterCommands : Prop :=
  ∀ (s : State) (m : Master) (n : Nat), n < 16 →
  let b := lcBase s n
  let ms := (s.lc b).inbox
  let alone := ∀ c, c < 16 → lcBase s c = c → c ≠ b → (s.lc c).inbox = [] ∧ s.on (lcRunBit c) = false
  let old := lcValue s b LC_COUNT_COUNT
  (ms = [] ∨ s.busStopped = true → exec (.lcLinkAction n) s = .next s) ∧
  (ms ≠ [] → s.busStopped = false → NoLoad s → alone →
    (lcMode s b ≠ 3 → s.get (LC_CFG_SRC b) ≠ 1 → (s.lc b).edges = 0 →
      let resets := LcMsg.reset ∈ ms ∨ LcMsg.resetCapture ∈ ms
      let captures := ∃ st, LcMsg.capture st ∈ ms
      ∃ t, exec (.lcLinkAction n) s = .next t ∧ (t.lc b).inbox = [] ∧ t.tbf = (tbAdvance s).tbf ∧
        t.on (lcRunBit b) = (if LcMsg.stop ∈ ms then false else if LcMsg.start ∈ ms then true else s.on (lcRunBit b)) ∧
        (resets → lcValue t b LC_COUNT_COUNT = 0) ∧ (¬ resets → lcValue t b LC_COUNT_COUNT = old) ∧
        (captures → lcValue t b LC_CAP_CAP = lcValue t b LC_COUNT_COUNT) ∧ (¬ captures → LcMsg.resetCapture ∈ ms → lcValue t b LC_CAP_CAP = old) ∧
        (captures ∨ LcMsg.resetCapture ∈ ms → t.on (LC_STAT_FULL b) = true ∧
          (s.on (LC_STAT_FULL b) = true → t.on (LC_STAT_OVERRUN b) = true ∧ Raised (64 + b) s t)) ∧
        (¬ captures → LcMsg.resetCapture ∉ ms → Still s →
          t = { s with tbf := t.tbf, clk := t.clk, regs := t.regs, lcs := t.lcs } ∧ WordsKept (lcWords b) s t)) ∧
    (lcMode s b = 3 → lcRunning s b = true → (∀ x, x ∈ ms → x = .clock) → old + ms.length < 2 ^ lcWidth s b →
      (lcValue s b LC_MATCH_MATCH ≤ old ∨ old + ms.length < lcValue s b LC_MATCH_MATCH) →
      ∃ t, exec (.lcLinkAction n) s = .next t ∧ lcValue t b LC_COUNT_COUNT = old + ms.length ∧ (t.lc b).inbox = [] ∧ t.tbf = (tbAdvance s).tbf)) ∧
  (Serves m 4 s →
    let Ends (as : List Nat) (t : State) : Prop := (reply m t).resp = .ok ∧ OtherReplies m s t ∧
      t = { s with regs := t.regs, replies := t.replies, lcShadows := t.lcShadows } ∧ WordsKept as s t ∧
      ∀ k, k ≠ masterIdx m → t.lcShadow k = s.lcShadow k
    let own (t : State) : LcShadow := t.lcShadow (masterIdx m)
    let Reads (i : Instr) (cap : Bool) (f : Nat → Fld) : Prop :=
      (lcChained s n = false → ∃ t, exec i s = .next t ∧ Ends (if cap then [(LC_STAT_FULL n).addr] else []) t ∧ (reply m t).data = s.word (f n).addr ∧
        (cap = true → t.on (LC_STAT_FULL n) = false)) ∧
      (lcChained s n = true → n % 2 = 0 → ∃ t, exec i s = .next t ∧ Ends (if cap then [(LC_STAT_FULL n).addr] else []) t ∧
        (reply m t).data = s.word (f n).addr ∧ own t = { of := some (cap, n), hi := s.word (f (n + 1)).addr } ∧
        (cap = true → t.on (LC_STAT_FULL n) = false)) ∧
      (lcChained s n = true → n % 2 = 1 → (own s).of = some (cap, n - 1) →
        ∃ t, exec i s = .next t ∧ Ends [] t ∧ (reply m t).data = (own s).hi ∧ (own t).of = none) ∧
      (lcChained s n = true → n % 2 = 1 → (own s).of ≠ some (cap, n - 1) →
        ∃ t, exec i s = .next t ∧ Ends [(LC_STAT_TORN_RISK b).addr] t ∧ (reply m t).data = s.word (f n).addr ∧ t.on (LC_STAT_TORN_RISK b) = true)
    (∀ v : Word, v.toNat = 2 ^ 31 + n → ∃ t, exec (.lcSnap m v) s = .next t ∧ Ends [LC_SNAP_LO_COUNT.addr, LC_SNAP_HI_COUNT.addr] t ∧
      t.get LC_SNAP_LO_COUNT + t.get LC_SNAP_HI_COUNT * 2 ^ 32 = lcValue s b LC_COUNT_COUNT) ∧
    Reads (.lcCountRead m n) false LC_COUNT_COUNT ∧ Reads (.lcCapRead m n) true LC_CAP_CAP)

/-- R53 to R60: the updates of linked counters, and their commands. -/
def Obligations.Counters : Prop := Sys2Proof.Claims.CounterUpdates ∧ Sys2Proof.Claims.CounterCommands

/-! ### The analog front end (spec/05) -/

/-- R67 to R71, R76: an overload, an open input, a lost reference, an excitation fault and a stuck stream set their flags and raise their
sources; every channel on an overloaded input, and every standby filter on it, takes an overload bit; an excitation output that does not drive, and
a current source that is off, has no fault; a reference that returns is available again. -/
def Obligations.FrontEndFaults : Prop :=
  ∀ (s : State) (n r k j x : Nat), Inv s → n < 64 → r < 6 → k < 4 → j < 8 → x < 32 →
  let Only (as : List Nat) (t : State) : Prop := t.tbf = s.tbf ∧ t.mem = s.mem ∧ t.draws = s.draws ∧ WordsKeptBut as s t
  (inputRuns s n = true → refGone s 1 n = false →
    ∃ t, exec (.overload n) s = .next t ∧ Only [(PG_FAULT_bit (8 + n / 8) 0).addr] t ∧ t.on (PG_FAULT_bit (8 + n / 8) (n % 8)) = true ∧
      Raised (112 + n) s t ∧ (∀ c, c ∈ boundChans s 1 n → (t.chan c).clipBit = true) ∧
      (∀ c, standbyOn s c 1 n = true → ((t.chan c).retune.map (fun q => q.clipBit)) = some true) ∧
      ∀ c, c ∉ boundChans s 1 n → standbyOn s c 1 n = false → t.chan c = s.chan c) ∧
  (inputRuns s n = true → s.on (AFE_IN_CFG_BURNOUT (n / 8) (n % 8)) = true →
    ∃ t, exec (.openInput n) s = .next t ∧ Only [(PG_FAULT_bit (8 + n / 8) 0).addr] t ∧ t.on (PG_FAULT_bit (8 + n / 8) (8 + n % 8)) = true ∧
      Raised (112 + n) s t ∧ t.chans = s.chans) ∧
  (∃ t, exec (.refFault r) s = .next t ∧ Only [(PG_FAULT_bit 0x10 0).addr] t ∧ (r ≠ 0 → r ∈ t.badRefs) ∧
    (∀ y, y ≠ r → (y ∈ t.badRefs ↔ y ∈ s.badRefs)) ∧
    ((∃ i, i < 64 ∧ inputRuns s i = true ∧ refGone t 1 i = true) → t.on (PG_FAULT_bit 0x10 0) = true ∧ Sampled 181 t)) ∧
  (∃ t, exec (.referenceReturns r) s = .next t ∧ t = { s with badRefs := t.badRefs } ∧ ∀ y, y ∈ t.badRefs ↔ y ∈ s.badRefs ∧ y ≠ r) ∧
  (s.runs 0x10 = true → s.busStopped = false →
    (vexcDrives s k = true → ∃ t, exec (.vexcOc k) s = .next t ∧ Only [(PG_FAULT_bit 0x10 0).addr] t ∧ t.on (PG_FAULT_bit 0x10 (4 + k)) = true ∧ Sampled 181 t) ∧
    (vexcDrives s k = false → exec (.vexcOc k) s = .next s) ∧
    (s.on ⟨AFE_COM_IEXC_CTRL_EN0.addr, 4 * j + 3, 1⟩ = false → exec (.iexcCmpl j) s = .next s) ∧
    (s.on ⟨AFE_COM_IEXC_CTRL_EN0.addr, 4 * j + 3, 1⟩ = true → ∃ t, exec (.iexcCmpl j) s = .next t ∧ Only [(PG_FAULT_bit 0x10 0).addr] t ∧ t.on (PG_FAULT_bit 0x10 (8 + j)) = true ∧ Sampled 181 t)) ∧
  (s.get PDM_STUCK_CFG_LEN ≠ 0 → streamWatched s x = true →
    ∃ t, exec (.pdmStuck x) s = .next t ∧ Only [PDM_STUCK_STUCK.addr] t ∧ t.on ⟨PDM_STUCK_STUCK.addr, x, 1⟩ = true ∧ Raised (184 + x / 2) s t ∧
      ∀ c, c ∉ boundChans s 2 x → t.chan c = s.chan c)

/-- R79, R83: a start is refused for the first reason of R79 that holds and otherwise enters FILL with SEAM_OUT not measured; an abort or a
failure of the spare before CAL_ZERO releases it at once with RESULT 6 or 8, an abort after it drains, a failure after it ends with RESULT 8. -/
def Sys2Proof.Claims.RecalibrationStartsAndEnds : Prop :=
  ∀ (s : State) (m : Master) (k : Nat) (v : Word), Inv s → k < nSpares s.variant →
  let stat := AFE_COM_SM_STAT_STATE k
  let result := AFE_COM_SM_STAT_RESULT k
  let n := 16 * k + v.toNat % 16
  let cs := runningOn s 1 n
  let noInput := nInputs s.variant ≤ n ∨ s.on (AFE_IN_CFG_ENABLE (n / 8) (n % 8)) = false ∨ cs = []
  let busy := s.get stat ≠ 0
  let noRoom := ∃ c, c ∈ cs ∧ fits s (s.get (SCHED_CH8_ON_SLICE c)) (s.get (SCHED_CH9_LOAD c)) = false
  let Ctrl (t : State) : Prop := (reply m t).resp = .ok ∧ t.get (AFE_COM_SM_CTRL_TARGET k) = v.toNat % 16 ∧
    t.get (AFE_COM_SM_CTRL_OVERLAP k) = v.toNat / 256 % 256 ∧ t.get (AFE_COM_SM_CTRL_CAL_OUTPUTS k) = v.toNat / 65536 % 256 ∧
    t.on (AFE_COM_SM_CTRL_SEAM_COMP k) = v.getLsbD 7 ∧ t.mem = s.mem ∧ t.tbf = s.tbf
  (Serves m 0x10 s → v.getLsbD 25 = false →
    let Refused (c : Nat) : Prop := ∃ t, exec (.smStart m k v) s = .next t ∧ Ctrl t ∧ t.get result = c ∧ t.get stat = s.get stat ∧
      t.recals = s.recals ∧ t.chans = s.chans
    (noInput → Refused 2) ∧ (¬ noInput → busy → Refused 3) ∧ (¬ noInput → ¬ busy → noRoom → Refused 4) ∧
    (¬ noInput → ¬ busy → ¬ noRoom → 1 < cs.length → Refused 5) ∧
    (∀ c, cs = [c] → ¬ noInput → ¬ busy → ¬ noRoom → ∃ t, exec (.smStart m k v) s = .next t ∧ Ctrl t ∧ t.get stat = 1 ∧ t.get result = s.get result ∧
      t.word (AFE_COM_SEAM_OUT_SEAM k).addr = 0x80000000 ∧ t.recal k = { chan := c, input := n } ∧ (t.chan c).shadow ≠ none ∧
      ∀ d, d ≠ c → t.chan d = s.chan d)) ∧
  (Serves m 0x10 s →
    (s.get stat = 1 ∨ s.get stat = 2 → ∃ t, exec (.smAbort m k v) s = .next t ∧ Ctrl t ∧ t.get stat = 0 ∧ t.get result = 6 ∧ Raised (176 + k) s t ∧
      t.recal k = {} ∧ (t.chan (s.recal k).chan).shadow = none) ∧
    (3 ≤ s.get stat → s.get stat ≤ 6 → ∃ t, exec (.smAbort m k v) s = .next t ∧ Ctrl t ∧ t.get stat = 7 ∧ t.get result = s.get result ∧
      (t.recal k).result = 6 ∧ (t.recal k).count = 0 ∧ (t.recal k).delivering = (s.recal k).delivering)) ∧
  (s.get stat ≠ 0 → ∃ t, exec (.smFail k) s = .next t ∧ t.get stat = 0 ∧ t.get result = 8 ∧ t.on (PG_FAULT_bit 0x10 (16 + k)) = true ∧
    Raised (176 + k) s t ∧ t.recal k = {} ∧ (t.chan (s.recal k).chan).shadow = none ∧ t.mem = s.mem ∧ t.tbf = s.tbf ∧
    WordsKeptBut [stat.addr, (PG_FAULT_bit 0x10 0).addr] s t ∧ ∀ d, d ≠ (s.recal k).chan → t.chan d = s.chan d)

/-- R80, R81: the states follow one another when their outputs have been counted; the averages of COMPARE_IN and COMPARE_OUT are SEAM_IN and
SEAM_OUT, those of CAL_ZERO and CAL_POS give OFS and GAIN, which are written to the input unless they lie outside the limits or the primary
overloaded; the last state ends with DONE, with FAIL_CAL, or with the result that a drain keeps. Averages are stated where the sum divides. -/
def Sys2Proof.Claims.RecalibrationStates : Prop :=
  ∀ (s : State) (k : Nat) (a z p : Int), k < nSpares s.variant → (s.recal k).input < 64 → (s.recal k).chan < 256 →
  let r := s.recal k
  let st := s.get (AFE_COM_SM_STAT_STATE k)
  let kk := recalK s k
  let ov := max 1 (s.get (AFE_COM_SM_CTRL_OVERLAP k))
  let cal := max 1 (s.get (AFE_COM_SM_CTRL_CAL_OUTPUTS k))
  let need := if st = 1 ∨ st = 5 ∨ st = 7 then kk else if st = 2 ∨ st = 6 then ov else kk + cal
  let small (i : Int) : Prop := -(2 ^ 31) ≤ i ∧ i < 2 ^ 31
  let To (c : Nat) (t : State) : Prop := exec (.smStateAdvance k) s = .next t ∧ t.get (AFE_COM_SM_STAT_STATE k) = c ∧ t.mem = s.mem ∧ t.tbf = s.tbf ∧
    ∀ d, d ≠ r.chan → t.chan d = s.chan d
  let ended (res : Nat) (t : State) : Prop := To 0 t ∧ t.get (AFE_COM_SM_STAT_RESULT k) = res ∧ Raised (176 + k) s t ∧ t.recal k = {} ∧
    (t.chan r.chan).shadow = none
  (1 ≤ st → r.count < need → exec (.smStateAdvance k) s = .next s) ∧
  (need ≤ r.count →
    (st = 1 → ∃ t, To 2 t ∧ (t.recal k).count = 0) ∧
    (st = 2 → r.sum = a * (256 * ov) → small a → ∃ t, To 3 t ∧ (t.recal k).delivering = true ∧ t.getS (AFE_COM_SEAM_IN_SEAM k) = a ∧
      (t.chan r.chan).seamNext = true) ∧
    (st = 3 → r.sum = a * (256 * cal) → ∃ t, To 4 t ∧ (t.recal k).mZ = a ∧ (t.recal k).count = 0) ∧
    (st = 4 → r.mZ = z → r.sum = p * (256 * cal) → z < p → small z →
      let g : Int := (2 ^ 45 + (p - z)) / (2 * (p - z))
      let good := r.failCal = false ∧ 0x380000 ≤ g ∧ g ≤ 0x480000 ∧ z.natAbs ≤ 2 ^ 20
      ∃ t, To 5 t ∧ t.getS (AFE_COM_CAL_OFS_OFS k) = z ∧ (g < 2 ^ 32 → (t.get (AFE_COM_CAL_GAIN_GAIN k) : Int) = g) ∧
        (let i := r.input / 8
         let n := r.input % 8
         (good → t.getS (AFE_CORR_OFS_OFS i n) = z ∧ (t.get (AFE_CORR_GAIN_GAIN i n) : Int) = g ∧
           t.get (AFE_CAL_TB_TB i n) = s.tb / 2 ^ 24 % 2 ^ 32 ∧ (t.recal k).failCal = false) ∧
         (¬ good → t.word (AFE_CORR_OFS_OFS i n).addr = s.word (AFE_CORR_OFS_OFS i n).addr ∧
           t.word (AFE_CORR_GAIN_GAIN i n).addr = s.word (AFE_CORR_GAIN_GAIN i n).addr ∧ (t.recal k).failCal = true))) ∧
    (st = 5 → ∃ t, To 6 t ∧ (t.recal k).count = 0) ∧
    (st = 6 → r.sum = a * (256 * ov) → small a → ∃ t, ended (if r.failCal then 9 else 1) t ∧ t.getS (AFE_COM_SEAM_OUT_SEAM k) = a) ∧
    (st = 7 → r.result < 16 → ∃ t, ended r.result t))

/-- R79, R80, R81, R83: recalibrations start, run through their states and end. -/
def Obligations.Recalibration : Prop := Sys2Proof.Claims.RecalibrationStartsAndEnds ∧ Sys2Proof.Claims.RecalibrationStates

/-- R77, R78, R356, R357: GO starts a scan at entry 0 with the settings in force; the end of an entry writes its result, 0 for a code that names nothing
present, and goes on to the next; the last one counts the scan, raises source 180 with SCAN_EVT and gives the governor THOT, the hottest of the
three temperatures, from which the highest stage holds whose threshold it has reached or has not left by HYST. -/
def Obligations.Housekeeping : Prop :=
  ∀ (s : State) (m : Master) (v : Word), s.runs 0x10 = true → s.busStopped = false →
  let j := s.get AFE_COM_HK_STAT_ENTRY
  let last := max 2 (s.get AFE_COM_HK_CTRL_SCAN_LEN_M1)
  let code := s.hk.word % 256
  let result : Word := if hkPresent s.variant code then v else 0
  (Serves m 0x10 s → s.hk.busy = false → ∃ t, exec (.hkGo m v) s = .next t ∧ (reply m t).resp = .ok ∧ t.hk.busy = true ∧
    t.get AFE_COM_HK_STAT_ENTRY = 0 ∧ t.hk.osr = (if v.toNat / 4 % 4 = 3 then 1 else v.toNat / 4 % 4) ∧
    t.hk.word = (s.word (AFE_COM_HK_ENTRY_CODE 0).addr).toNat ∧ t.get AFE_COM_HK_CTRL_SCAN_LEN_M1 = v.toNat / 16 % 16 ∧
    t.on AFE_COM_HK_CTRL_SCAN_EVT = v.getLsbD 1 ∧ t.on AFE_COM_HK_CTRL_CONTINUOUS = v.getLsbD 0 ∧ t.mem = s.mem ∧
    WordsKeptBut [AFE_COM_HK_CTRL_GO.addr, AFE_COM_HK_STAT_ENTRY.addr] s t) ∧
  (s.hk.busy = true → s.hk.word.testBit 16 = false →
    (j < last → ∃ t, exec (.hkEntryDone v) s = .next t ∧ t.word (AFE_COM_HK_RESULT_VALUE j).addr = result ∧ t.hk.busy = true ∧
      t.get AFE_COM_HK_STAT_ENTRY = j + 1 ∧ t.hk.word = (s.word (AFE_COM_HK_ENTRY_CODE (j + 1)).addr).toNat ∧ t.mem = s.mem ∧
      WordsKeptBut [(AFE_COM_HK_RESULT_VALUE j).addr, AFE_COM_HK_STAT_ENTRY.addr] s t) ∧
    (last ≤ j → ∃ t, exec (.hkEntryDone v) s = .next t ∧ t.word (AFE_COM_HK_RESULT_VALUE j).addr = result ∧
      t.get AFE_COM_HK_STAT_SCANS = (s.get AFE_COM_HK_STAT_SCANS + 1) % 2 ^ 16 ∧ (s.on AFE_COM_HK_CTRL_SCAN_EVT = true → s.ready 0x5A = false ∨ t.getS THERM_THOT_TEMP < 140 * 256 → Raised 180 s t) ∧
      (s.ready 0x5A = true →
        (∀ i, i < 3 → t.getS (AFE_COM_HK_RESULT_VALUE i) ≤ t.getS THERM_THOT_TEMP) ∧ s.getS THERM_PEAK_TEMP ≤ t.getS THERM_PEAK_TEMP ∧
        t.getS (AFE_COM_HK_RESULT_VALUE (t.get THERM_STAT_SENSOR)) = t.getS THERM_THOT_TEMP ∧
        (s.hk.stale = none → t.getS THERM_THOT_TEMP < 140 * 256 →
          let holds (k : Nat) : Prop := (105 + 10 * k : Int) * 256 ≤ t.getS THERM_THOT_TEMP ∨
            k ≤ s.get THERM_STAT_STAGE ∧ (105 + 10 * k : Int) * 256 - 256 * (max 1 (s.get THERM_CFG_HYST) : Nat) ≤ t.getS THERM_THOT_TEMP
          t.get THERM_STAT_STAGE ≤ 3 ∧ (1 ≤ t.get THERM_STAT_STAGE → holds (t.get THERM_STAT_STAGE)) ∧
          ∀ k, t.get THERM_STAT_STAGE < k → k ≤ 3 → ¬ holds k))))

/-! ### Window monitors and pulse generators (spec/06) -/

namespace Sys2Proof.Claims

/-- Nanovolts at the ball of a threshold code of monitor `n` (R85): 1.171875 mV a step, three times that with ATTEN = 1; results of threshold
arithmetic outside 0 to 1,023 act as the nearer limit (R87). -/
def ballNv (s : State) (n : Nat) (code : Int) : Int :=
  (if s.on (WM_CFG_ATTEN n) then 3 else 1) * 1171875 * max 0 (min 1023 code)

/-- H of a hysteresis code (R87). -/
def hysteresis (h : Nat) : Int := if h = 0 then 0 else 2 ^ h

/-- The levels of one comparator: of assertion, of release, and the band centre (R87, R88). -/
def levelsOfComp (s : State) (n : Nat) (hi : Bool) : Int × Int × Int :=
  let t : Int := if hi then s.get (WM_THR_HI_THR n) else s.get (WM_THR_LO_THR n)
  let h := hysteresis (if hi then s.get (WM_THR_HI_HYST n) else s.get (WM_THR_LO_HYST n))
  if hi then (ballNv s n t, ballNv s n (t - h), ballNv s n (t - h / 2)) else (ballNv s n t, ballNv s n (t + h), ballNv s n (t + h / 2))

/-- The input is above the level for HI, below it for LO. -/
def past (hi : Bool) (nv : Nat) (level : Int) : Prop := if hi then level < nv else (nv : Int) < level

/-- The words of monitor `n` that its comparators change. -/
def wmWords (n : Nat) : List Nat := [(WM_STAT_HI_RAW n).addr, (WM_EVT_SETTLED n).addr]

/-- M and N of FILT (R89). -/
def vote (s : State) (n : Nat) : Nat × Nat := if s.get (WM_CFG_FILT n) = 1 then (5, 7) else if s.get (WM_CFG_FILT n) = 2 then (7, 9) else (3, 5)

end Sys2Proof.Claims

/-- R87 to R90: a comparator that is settled asserts past its threshold, releases past the other end of its band and keeps its state within it;
an unsettled one settles when the input leaves the band; a first evaluation compares with the band centre, notes whether the input lies within
the band and fills the filter; one filter sample moves the filtered output when M of the last N samples show the new state and sets the edge's
flag. -/
def Sys2Proof.Claims.WindowMonitors : Prop :=
  ∀ (s : State) (n nv : Nat) (hi : Bool), wmLive s n = true →
  let c := if hi then compHi n else compLo n
  let l := levelsOfComp s n hi
  let inBand := ¬ past hi nv l.1 ∧ ¬ past (!hi) nv l.2.1
  let Ends (t : State) : Prop := t.tbf = s.tbf ∧ (∀ k, k ≠ n → t.wm k = s.wm k) ∧
    ∀ k, k < 16 → k ≠ n → t.word (WM_STAT_HI_RAW k).addr = s.word (WM_STAT_HI_RAW k).addr
  s.on c.en = true → (s.wm n).checked hi = false →
  ((s.wm n).due hi = false → ∃ t, exec (.comparatorChange n nv) s = .next t ∧ Ends t ∧ (t.wm n).level = nv ∧ Sampled (80 + n) t ∧
    (past hi nv l.1 → t.on c.raw = true) ∧ (¬ past hi nv l.1 → past (!hi) nv l.2.1 → t.on c.raw = false) ∧ (inBand → t.on c.raw = s.on c.raw) ∧
    t.on c.filt = s.on c.filt ∧
    (s.on c.uns = true → inBand → t.on c.uns = true) ∧ (s.on c.uns = true → ¬ inBand → t.on c.uns = false ∧ t.on (WM_EVT_SETTLED n) = true)) ∧
  ((s.wm n).due hi = true → ∃ t, exec (.firstEvaluation n nv) s = .next t ∧ Ends t ∧ (t.on c.raw = true ↔ past hi nv l.2.2) ∧
    t.on c.filt = t.on c.raw ∧ t.on (WM_STAT_INSIDE_F n) = !(t.on (WM_STAT_HI_F n) || t.on (WM_STAT_LO_F n)) ∧ (t.on c.uns = true ↔ inBand ∧ s.get (if hi then WM_THR_HI_HYST n else WM_THR_LO_HYST n) ≠ 0) ∧
    (t.wm n).due hi = false ∧ (t.wm n).hist hi = List.replicate 9 (t.on c.raw)) ∧
  ((s.wm n).due hi = false → ∃ t, exec (.filteredEdge n 1) s = .next t ∧ Ends t ∧ Sampled (80 + n) t ∧ t.on c.raw = s.on c.raw ∧
    (t.wm n).hist hi = (s.on c.raw :: (s.wm n).hist hi).take 9 ∧
    t.on (WM_STAT_INSIDE_F n) = !(t.on (WM_STAT_HI_F n) || t.on (WM_STAT_LO_F n)) ∧
    (let votes := (((t.wm n).hist hi).take (vote s n).2).countP (fun b => b != s.on c.filt)
     ((vote s n).1 ≤ votes → t.on c.filt = !s.on c.filt ∧ t.on (if s.on c.filt then c.fall else c.rise) = true) ∧
     (votes < (vote s n).1 → t.on c.filt = s.on c.filt)))

/-- R93, R94: a check command gives each comparator that it may not check its refusal code, and starts the check on the others; while a check
runs the write is ignored; the end of a check records PASS, FAIL with the page's fault bit, or INCONCLUSIVE, and clears CHECKING. -/
def Sys2Proof.Claims.MonitorChecks : Prop :=
  ∀ (s : State) (m : Master) (n cmd : Nat) (i : Instr) (ph pl : Probe), n < nMonitors s.variant →
  (cmd = 1 ∧ i = .checkSwap m n ∨ cmd = 2 ∧ i = .checkZero m n ∨ cmd = 3 ∧ i = .checkHalf m n ∨ cmd = 4 ∧ i = .checkFull m n) →
  let code (hi : Bool) : Nat :=
    let c := if hi then compHi n else compLo n
    if bit (s.get WM_ENABLE_EN) n = false ∨ s.on c.en = false then 6
    else if armedComp s n hi then 4 else if 3 ≤ cmd ∧ s.on AFE_COM_REF_CTRL_INT_EN = false then 5 else 0
  let kept (code old : Nat) : Nat := if code = 0 then old else code
  (Serves m 0x14 s →
    (s.on (WM_STAT_CHECKING n) = true → ∃ t, exec i s = .next t ∧ (reply m t).resp = .ok ∧ WordsKeptBut [] s t ∧ t.wms = s.wms) ∧
    (s.on (WM_STAT_CHECKING n) = false → ∃ t, exec i s = .next t ∧ (reply m t).resp = .ok ∧
      WordsKeptBut [(WM_CHECK_RESULT_HI n).addr, (WM_STAT_CHECKING n).addr] s t ∧
      t.get (WM_CHECK_RESULT_HI n) = kept (code true) (s.get (WM_CHECK_RESULT_HI n)) ∧
      t.get (WM_CHECK_RESULT_LO n) = kept (code false) (s.get (WM_CHECK_RESULT_LO n)) ∧
      (code true ≠ 0 → code false ≠ 0 → t.on (WM_STAT_CHECKING n) = false ∧ t.wms = s.wms) ∧
      (code true = 0 ∨ code false = 0 → t.on (WM_STAT_CHECKING n) = true ∧
        t.wm n = { s.wm n with check := cmd, checkHi := code true == 0, checkLo := code false == 0 }))) ∧
  (s.on (WM_STAT_CHECKING n) = true → (s.wm n).check = cmd → s.ready 0x14 = true →
    let outcome (hi : Bool) (p : Probe) : Nat :=
      let thr : Int := s.get (if hi then WM_THR_HI_THR n else WM_THR_LO_THR n)
      let lvl : Int := if cmd = 2 then 0 else if cmd = 3 then 512 else 1024
      if cmd = 1 then (if p.before ≠ p.after ∨ p.near = true then 3 else if p.out ≠ p.before then 1 else 2)
      else if (thr - lvl).natAbs ≤ 4 then 3 else if p.out = (if hi then decide (thr < lvl) else decide (lvl < thr)) then 1 else 2
    ∃ t, exec (.checkDone n ph pl) s = .next t ∧ t.on (WM_STAT_CHECKING n) = false ∧ t.tbf = s.tbf ∧
      ((s.wm n).checkHi = true → t.get (WM_CHECK_RESULT_HI n) = outcome true ph ∧ (outcome true ph = 2 → t.on (PG_FAULT_bit 0x14 n) = true)) ∧
      ((s.wm n).checkLo = true → t.get (WM_CHECK_RESULT_LO n) = outcome false pl ∧ (outcome false pl = 2 → t.on (PG_FAULT_bit 0x14 n) = true)) ∧
      ((s.wm n).checkHi = false → t.get (WM_CHECK_RESULT_HI n) = s.get (WM_CHECK_RESULT_HI n)) ∧
      ((s.wm n).checkLo = false → t.get (WM_CHECK_RESULT_LO n) = s.get (WM_CHECK_RESULT_LO n)))

/-- R87 to R90, R93, R94: window monitors follow their operands, and their checks. -/
def Obligations.Monitors : Prop := Sys2Proof.Claims.WindowMonitors ∧ Sys2Proof.Claims.MonitorChecks

namespace Sys2Proof.Claims

/-- Pulse generators other than `g` stand, and so do TB and memory outside the black box. -/
def OnlyPg (g : Nat) (s t : State) : Prop :=
  t.tbf = s.tbf ∧ (∀ k, k ≠ g → t.pg k = s.pg k) ∧
  ∀ k, k < 16 → k ≠ g → pgTripped t k = pgTripped s k ∧ t.word (PG_STAT_CAUSE k).addr = s.word (PG_STAT_CAUSE k).addr

/-- The output of generator `g` follows its schedule, or SAFE while it is tripped (R96, R99). -/
def Drives (g : Nat) (t : State) : Prop := t.on (pgBit PG_OUT_LEVEL g) = pgActive t g

end Sys2Proof.Claims

/-- R96 to R98, R100: a software start begins a period at TB with the timing in force, PG_LAT 4 or 8 ticks by the clock state, the active time cut
at the period's end with the fault bit; with RESTART = 0 a running generator ignores it; the next period begins at S + PERIOD until NPER are done
or RUN is 0; the edges whose instant has come are taken in order and the output follows. -/
def Sys2Proof.Claims.PulsePeriods : Prop :=
  ∀ (s : State) (m : Master) (g : Nat), pgLive s g = true →
  let p := s.pg g
  let period := max 8 (s.get (PG_PERIOD_TICKS g))
  let delay := s.get (PG_DELAY_TICKS g)
  let width := s.get (PG_WIDTH_TICKS g)
  let active := if period < delay + width then period - delay else width
  let Began (start lat : Nat) (left : Option Nat) (t : State) : Prop :=
    (t.pg g).running = true ∧ (t.pg g).start = start ∧ (t.pg g).lat = lat ∧ (t.pg g).period = period ∧ (t.pg g).delay = delay ∧
    (t.pg g).width = active ∧ (t.pg g).left = left ∧ t.on (PG_STAT_RUNNING g) = true ∧ t.on (PG_STAT_PERIOD_EVT g) = true ∧
    (period < delay + width → t.on (PG_FAULT_bit 0x15 g) = true) ∧ OnlyPg g s t
  let lat := if s.clksrc = 0 then 4 else 8
  let left := if s.get (PG_CFG_NPER g) = 0 then none else some (s.get (PG_CFG_NPER g) - 1)
  (Serves m 0x15 s → pgRun s g = true →
    (p.running = false → p.edges = [] → ∃ t, exec (.pgStart m (w32 (2 ^ g))) s = .next t ∧ (reply m t).resp = .ok ∧ Began s.tb lat left t ∧
      (t.pg g).edges = if active = 0 then [] else [(s.tb + lat + delay, true), (s.tb + lat + delay + active, false)]) ∧
    (p.running = true → s.on (PG_CFG_RESTART g) = false →
      ∃ t, exec (.pgStart m (w32 (2 ^ g))) s = .next t ∧ Writes m [] s t) ∧
    (p.running = true → s.on (PG_CFG_RESTART g) = true →
      ∃ t, exec (.pgStart m (w32 (2 ^ g))) s = .next t ∧ (reply m t).resp = .ok ∧ Began s.tb lat left t)) ∧
  (p.running = true → p.start + p.period ≤ s.tb →
    let more := pgRun s g = true ∧ p.left ≠ some 0
    (more → ∃ t, exec (.pgPeriodStart g) s = .next t ∧ Began (p.start + p.period) p.lat (p.left.map (· - 1)) t) ∧
    (¬ more → ∃ t, exec (.pgPeriodStart g) s = .next t ∧ OnlyPg g s t ∧ (t.pg g).running = false ∧ t.on (PG_STAT_RUNNING g) = false ∧
      (p.tripped = false → pgTripped s g = false → t.get (PG_STAT_RETRIES g) = 0))) ∧
  (p.edges.length ≤ 8 → ∃ t, exec (.pgEdge g) s = .next t ∧ OnlyPg g s t ∧
    (t.pg g).edges = p.edges.dropWhile (fun e => decide (e.1 ≤ s.tb)) ∧
    (t.pg g).active = (((p.edges.takeWhile (fun e => decide (e.1 ≤ s.tb))).getLast?.map Prod.snd).getD p.active))

/-- R91, R92, R99 to R101: an asserted line outside blanking and a duty sum above the ceiling trip the generator, with CAUSE 1 and 2, TRIP_EVT,
the output at SAFE, LOCKOUT at RETRY_LIMIT and a black-box record; a line still asserted when blanking ends trips; a software clear with the line
released and the sum within the ceiling clears TRIPPED, LOCKOUT and RETRIES. -/
def Sys2Proof.Claims.PulseTrips : Prop :=
  ∀ (s : State) (m : Master) (g : Nat), pgLive s g = true →
  let line := tripLine s g = true
  let ceiling := dutyCeiling s g < dutySum s g
  let locks := s.get (PG_CFG_RETRY_LIMIT g) ≠ 0 ∧ s.get (PG_STAT_RETRIES g) = s.get (PG_CFG_RETRY_LIMIT g)
  let Trips (i : Instr) (cause : Nat) : Prop := ∃ t, exec i s = .next t ∧ OnlyPg g s t ∧ pgTripped t g = true ∧ Drives g t ∧
    t.get (PG_STAT_CAUSE g) = cause ∧ t.on (PG_STAT_TRIP_EVT g) = true ∧ Recorded 0x0020 s t ∧ Sampled (96 + g) t ∧
    (locks → t.on (PG_STAT_LOCKOUT g) = true ∧ t.on (PG_STAT_LOCKOUT_EVT g) = true) ∧
    (¬ locks → t.on (PG_STAT_LOCKOUT g) = s.on (PG_STAT_LOCKOUT g)) ∧ t.get (PG_STAT_RETRIES g) = s.get (PG_STAT_RETRIES g) ∧
    (t.pg g).start = (s.pg g).start ∧ (t.pg g).running = (s.pg g).running ∧ (t.pg g).edges = (s.pg g).edges
  (pgTripped s g = false →
    (line → blanked s g = false → Trips (.trip g) 1) ∧
    (¬ (line ∧ blanked s g = false) → ceiling → Trips (.dutyTrip g) 2) ∧
    (¬ line → ¬ ceiling → exec (.trip g) s = .next s ∧ exec (.dutyTrip g) s = .next s) ∧
    (blanked s g = false → line → Trips (.blankEnd g) 1)) ∧
  (blanked s g = false → ¬ line → ¬ ceiling → ∃ t, exec (.blankEnd g) s = .next t ∧ t = { s with pgs := t.pgs } ∧ (t.pg g).blank = none ∧
    ∀ k, k ≠ g → t.pg k = s.pg k) ∧
  (Serves m 0x15 s → pgTripped s g = true → ¬ line → ¬ ceiling →
    ∃ t, exec (.tripClear m (w32 (2 ^ g))) s = .next t ∧ (reply m t).resp = .ok ∧ OnlyPg g s t ∧ pgTripped t g = false ∧
      t.on (PG_STAT_LOCKOUT g) = false ∧ t.get (PG_STAT_RETRIES g) = 0 ∧ t.on (pgBit PG_OUT_LEVEL g) = (s.pg g).active ∧ t.mem = s.mem)

/-- R91, R92, R96 to R101: the periods of pulse generators, and their trips. -/
def Obligations.PulseGenerators : Prop := Sys2Proof.Claims.PulsePeriods ∧ Sys2Proof.Claims.PulseTrips

/-! ### Channels of Anvil (spec/07, spec/08) -/

namespace Sys2Proof.Claims

/-- The RW bits of words 0 to 7 of a channel descriptor (R116). -/
def descBits (i : Nat) : Word :=
  match i with
  | 0 => 0xFFF0FF3F | 1 => 0xF000FFFF | 2 => 0x3FFFFFFF | 3 => 0x000FFFFF | 4 => 0x8FFFCFFF | 5 => 0xFCFDFFE0 | 6 => 0xFFFFE000 | _ => 0xFFFFFFFF

/-- Words 12, 13 and 15 of a channel descriptor (R131). -/
def readBackWords (c : Nat) : List Nat := [descAddr c 12, descAddr c 13, descAddr c 15]

/-- Channels other than `c` stand. -/
def OtherChans (c : Nat) (s t : State) : Prop := ∀ d, d ≠ c → t.chan d = s.chan d ∧ t.word (descAddr d 8) = s.word (descAddr d 8)

/-- The outputs of a fresh run that carry SETTLING: K of R133, and those whose windows include empty entries of the phase-delay line. -/
def settleLeft (s : State) (g : Cfg) : Nat :=
  max (settleCount s g) (if g.delay = 0 then 0 else (g.delay + spanInputs s g - 1) / max 1 (g.r * g.d))

/-- The integrators of a CIC without shifts take one more input, sample by sample (R107, R108), modulo 2^56. -/
def accumulate : List Int → Int → List Int
  | [], _ => []
  | y :: ys, x => Int.bmod (y + x) (2 ^ 56) :: accumulate ys (Int.bmod (y + x) (2 ^ 56))

end Sys2Proof.Claims

/-- R116 to R118, R132, R135, R137: EN from 0 to 1 starts admission of an OFF channel, is held by a stopping one, and from 1 to 0 stops it; words of
an OFF channel are written and its read-back follows them, locked ones of a running channel are not; a group SYNC waits for its compare channel; swaps and retunes are accepted
or refused with the results of their rules. -/
def Obligations.ChannelCommands : Prop :=
  ∀ (s : State) (m : Master) (c i k : Nat) (v : Word), Serves m 0x1B s → c < nChannels s.variant → i < 16 → k < 64 →
  let st := chState s c
  let g := chCfg s c
  let word0 := descAddr c 0
  let Ends (t : State) : Prop := (reply m t).resp = .ok ∧ t.tbf = s.tbf ∧ OtherChans c s t
  (st = 0 → s.on (SCHED_CH0_EN c) = false →
    ∃ t, exec (.channelEnable m c v) s = .next t ∧ Ends t ∧ WordsKept (word0 :: readBackWords c) s t ∧ t.word word0 &&& descBits 0 = (v ||| 0x80000000) &&& descBits 0 ∧
      t.chan c = { s.chan c with admitting := true }) ∧
  (st = 3 → s.on (SCHED_CH0_EN c) = false → v ||| 0x80000000 = s.word word0 ||| 0x80000000 →
    ∃ t, exec (.channelEnable m c v) s = .next t ∧ Ends t ∧ t.on (SCHED_CH0_EN c) = true ∧ chState t c = 3 ∧
      t.chan c = { s.chan c with heldEnable := true }) ∧
  (st = 1 ∨ st = 2 → s.on (SCHED_CH0_EN c) = true → v &&& 0x7FFFFFFF = s.word word0 &&& 0x7FFFFFFF →
    ∃ t, exec (.channelDisable m c v) s = .next t ∧ Ends t ∧ t.on (SCHED_CH0_EN c) = false ∧ chState t c = 3 ∧ (t.chan c).fade = none ∧
      (t.chan c).retune = none ∧ (t.chan c).batch = (s.chan c).batch) ∧
  (st = 0 → 1 ≤ i → i < 8 → ∃ t, exec (.descriptorWrite m c i v) s = .next t ∧ Writes m (descAddr c i :: readBackWords c) s t ∧
    t.word (descAddr c i) &&& descBits i = v &&& descBits i ∧
    ((s.chan c).flt = {} → (s.chan c).lineLen = 0 → t.get (SCHED_CH15_SETTLE_LEFT c) = settleLeft t (chCfg t c))) ∧
  (st = 2 → (s.key 0x1B (masterIdx m)).opens = false → i = 1 ∨ i = 2 ∨ i = 3 ∨ i = 7 → v &&& descBits i ≠ s.word (descAddr c i) &&& descBits i →
    ∃ t, exec (.descriptorWrite m c i v) s = .next t ∧ Writes m [(PG_FAULT_bit 0x1B 28).addr] s t ∧ t.on (PG_FAULT_bit 0x1B 28) = true) ∧
  (∃ t, exec (.groupSync m k) s = .next t ∧ Writes m [SCHED_SYNC_PEND_LO_PEND.addr + 4 * (k / 32)] s t ∧
    t.on ⟨SCHED_SYNC_PEND_LO_PEND.addr + 4 * (k / 32), k % 32, 1⟩ = true ∧
    ∀ j, j < 64 → j ≠ k → t.on ⟨SCHED_SYNC_PEND_LO_PEND.addr + 4 * (j / 32), j % 32, 1⟩ = s.on ⟨SCHED_SYNC_PEND_LO_PEND.addr + 4 * (j / 32), j % 32, 1⟩) ∧
  (v.toNat % 256 = c →
    let bank := v.toNat / 2 ^ 24 % 16
    let len := v.toNat / 2 ^ 16 % 256 + 1
    let bad := badBank s g g.bank bank = true
    let room := fits s (s.get (SCHED_CH8_ON_SLICE c)) (firLoad s g bank) = true
    let Result (r : Nat) : Prop := ∃ t, exec (.swap m v) s = .next t ∧ Ends t ∧ t.get (SCHED_CH14_SWAP_RESULT c) = r ∧ t.chan c = s.chan c ∧
      WordsKeptBut [descAddr c 14, (PG_FAULT_bit 0x1B 0).addr] s t
    let able := st = 2 ∧ g.firEn = true ∧ (s.chan c).retune = none
    (¬ able → Result 5) ∧ (able → (s.chan c).queued = none → (s.chan c).fade = none → bad → Result 4) ∧
    (able → (s.chan c).queued = none → (s.chan c).fade = none → ¬ bad → ¬ room → Result 3) ∧
    (able → (s.chan c).queued = none → (s.chan c).fade = none → ¬ bad → room → ∃ t, exec (.swap m v) s = .next t ∧ Ends t ∧ t.get (SCHED_CH14_FADE_LEFT c) = len ∧
      t.get (SCHED_CH14_FADE_BANK c) = bank ∧ ((t.chan c).fade.map (fun f => (f.bank, f.len, f.done))) = some (bank, len, 0)) ∧
    (able → (s.chan c).queued ≠ none → Result 2)) ∧
  (let gs := standbyCfg s c
   let room := fits s (s.get (SCHED_CH8_ON_SLICE c)) (chanLoad s gs) = true
   let Refused (r : Nat) : Prop := ∃ t, exec (.retune m c) s = .next t ∧ Ends t ∧ t.get (SCHED_CH14_RETUNE_RESULT c) = r ∧ Raised 519 s t ∧
     t.chan c = s.chan c ∧ WordsKeptBut [descAddr c 8, descAddr c 14, (PG_FAULT_bit 0x1B 0).addr] s t
   (st ≠ 2 → Refused 5) ∧ (st = 2 → (s.chan c).retune ≠ none → Refused 2) ∧
   (st = 2 → (s.chan c).retune = none → descReason s gs ≠ 0 → Refused 4) ∧
   (st = 2 → (s.chan c).retune = none → descReason s gs = 0 → ¬ room → Refused 3) ∧
   (st = 2 → (s.chan c).retune = none → descReason s gs = 0 → room → ∃ t, exec (.retune m c) s = .next t ∧ Ends t ∧
     t.on (SCHED_CH14_RETUNING c) = true ∧ (t.chan c).retune ≠ none ∧ (t.chan c).flt = (s.chan c).flt ∧ (t.chan c).seq = (s.chan c).seq))

/-- R111, R117, R122, R132, R135, R137: an admission refuses with its reason or puts the channel into WAIT_SYNC on its slice with its load; a stop
ends OFF with the load released; an overwritten block restarts the filter with its flags and counts and
marks every output whose window spans the lost block; DCSUM is the sum of the coefficients; the last fade output takes the new bank; the switch of
a retune exchanges the descriptors, and where a recalibration's shadow delivers, the filter that does not restarts from zero. -/
def Obligations.ChannelEvents : Prop :=
  ∀ (s : State) (c b : Nat), c < nChannels s.variant → b < 16 →
  let st := chState s c
  let g := chCfg s c
  let x := s.chan c
  ((s.chan c).admitting = true →
    let load := chanLoad s g
    let Refused (r : Nat) : Prop := ∃ t, exec (.admission c) s = .next t ∧ t.on (SCHED_CH0_EN c) = false ∧ t.get (SCHED_CH8_REASON c) = r ∧
      t.on (PG_FAULT_bit 0x1B 0) = true ∧ Raised 512 s t ∧ (t.chan c).admitting = false ∧ chState t c = st ∧ OtherChans c s t ∧
      (s.on SCHED_LAST_REFUSAL_VALID = false → t.on SCHED_LAST_REFUSAL_VALID = true ∧ t.get SCHED_LAST_REFUSAL_REASON = r ∧
        t.get SCHED_LAST_REFUSAL_CHANNEL = c)
    (descReason s g ≠ 0 → Refused (descReason s g)) ∧ (descReason s g = 0 → place s g load = none → Refused 1) ∧
    ∀ y, descReason s g = 0 → place s g load = some y →
      (g.watch = true → watchFits s load = false → Refused 2) ∧
      ((g.watch = true → watchFits s load = true) → load < 2 ^ 32 → ∃ t, exec (.admission c) s = .next t ∧ chState t c = 1 ∧
        t.get (SCHED_CH8_ON_SLICE c) = y ∧ t.get (SCHED_CH9_LOAD c) = load ∧ (t.chan c).seq = 0 ∧ t.on (SCHED_CH0_EN c) = s.on (SCHED_CH0_EN c) ∧
        OtherChans c s t)) ∧
  (st = 3 → x.fifo = [] → ∃ t, exec (.channelStopDone c) s = .next t ∧ chState t c = 0 ∧ t.get (SCHED_CH9_LOAD c) = 0 ∧
    (t.chan c).batch = none ∧ (t.chan c).admitting = x.heldEnable ∧ (t.chan c).flt = {} ∧ t.tbf = s.tbf) ∧
  (st = 2 → g.oneBit = true → ∃ t, exec (.deadlineMiss c) s = .next t ∧ t.on (SCHED_CH8_DEADLINE_MISS c) = true ∧ t.on (PG_FAULT_bit 0x1B 2) = true ∧
    t.get SCHED_MISS_COUNT_COUNT = min (s.get SCHED_MISS_COUNT_COUNT + 1) 0xFFFFFFFF ∧ Raised 514 s t ∧ chState t c = 2 ∧
    (t.chan c).gapNext = true ∧ (t.chan c).flt.y = [0, 0, 0, 0, 0] ∧ (t.chan c).flt.fir = [] ∧ (t.chan c).flt.nIn = 0 ∧
    (t.chan c).edge = x.edge / 32 * 32 + 32 ∧ (t.chan c).seq = x.seq ∧
    (t.chan c).gapRun = (spanInputs t (chCfg t c) - 1) / max 1 ((chCfg t c).r * (chCfg t c).d) ∧ OtherChans c s t) ∧
  (∃ t, exec (.dcsumUpdate b) s = .next t ∧ OnlyRegs [(COEF_DCSUM_SUM b).addr] s t ∧
    t.getS (COEF_DCSUM_SUM b) = ((List.range (min 128 (s.get (COEF_TAPS_TAPS b)))).map (fun i => s.getS (COEF_COEF_COEF (b * 128 + i)))).sum) ∧
  (∀ f, x.fade = some f → f.len ≤ f.done → f.bank < 16 → f.normM < 2 ^ 32 → f.normE < 128 →
    ∃ t, exec (.fadeDone c) s = .next t ∧ t.get (SCHED_CH4_BANK c) = f.bank ∧ t.get (SCHED_CH10_NORM_M c) = f.normM ∧
      t.get (SCHED_CH11_NORM_E c) = f.normE ∧ t.get (SCHED_CH14_SWAP_RESULT c) = 1 ∧ t.get (SCHED_CH14_FADE_LEFT c) = 0 ∧ Raised 516 s t ∧
      t.chan c = { x with fade := none } ∧ OtherChans c s t) ∧
  (∀ r, x.retune = some r → r.oldStopped = true → r.held ≠ [] →
    ∃ t, exec (.retuneSwitch c) s = .next t ∧ (∀ i, 1 ≤ i → i < 8 → t.word (descAddr c i) = s.word (standbyAddr c i) ∧
        t.word (standbyAddr c i) = s.word (descAddr c i)) ∧
      t.word (descAddr c 0) = (s.word (descAddr c 0) &&& 0xF0000000) ||| (s.word (standbyAddr c 0) &&& 0x0FFFFFFF) ∧
      t.on (SCHED_CH14_RETUNING c) = false ∧ t.get (SCHED_CH14_RETUNE_RESULT c) = (if r.withHold then 1 else 6) ∧ Raised 518 s t ∧
      (t.chan c).retune = none ∧ ((∀ k, recalOf s c = some k → (s.recal k).delivering = false) → (t.chan c).flt = r.flt) ∧
      (∀ k, recalOf s c = some k → (s.recal k).delivering = true → (t.chan c).flt = r.flt.clear r.settle))

/-- R106 to R108, R114, R115, R122: a bit of a running one-bit channel becomes +1 or −1 and passes its integrators; a sample that bypasses CIC and
FIR gives an output, counted in the sequence number; a sample takes its place and its deadline in the input FIFO, and one that finds four waiting
is dropped with its flags; the deadline is MIN_INTERVAL after the arrival, or after the previous deadline where the sample comes sooner than
MIN_INTERVAL after the previous one (R121); single-bit errors of the state words that are corrected meanwhile are counted on the slice (R360). -/
def Obligations.ChannelInputs : Prop :=
  ∀ (s : State) (c : Nat) (v : Word) (stamp corr : Nat) (clip poison bit' : Bool), c < nChannels s.variant → stamp < 2 ^ 96 →
  let g := chCfg s c
  let x := s.chan c
  let ecc := ANV_ECC_CNT_CORR (s.get (SCHED_CH8_ON_SLICE c))
  (chState s c = 2 → g.oneBit = true → g.cicEn = true → g.delay = 0 → g.lockin = false → 3 ≤ g.order → g.order ≤ 5 → (∀ h, h ∈ g.shifts.take g.order → h = 0) →
    x.flt.y.length = 5 → x.flt.nIn + 1 < g.ratio → x.gone = false → x.clearAt = none → x.retune = none → x.shadow = none → refGone s g.srcType g.srcNum = false →
    (g.srcType = 1 → s.on (AFE_IN_CFG_CHOP (g.srcNum / 8) (g.srcNum % 8)) = false) → (g.srcType = 2 → bit (s.get PDM_STREAM_EN_EN) g.srcNum = true) →
    ∃ t, exec (.channelOutput c { bits := [bit'] } [] []) s = .next t ∧ t = { s with chans := t.chans } ∧ OtherChans c s t ∧ (t.chan c).edge = x.edge + 1 ∧
      (t.chan c).flt.nIn = x.flt.nIn + 1 ∧
      (t.chan c).flt.y = accumulate (x.flt.y.take g.order) (if bit' then 1 else -1) ++ x.flt.y.drop g.order ∧ (t.chan c).seq = x.seq) ∧
  (∀ i, chState s c = 2 → g.oneBit = false → g.cicEn = false → g.firEn = false → g.delay = 0 → g.lockin = false → g.hcount = 0 → x.fifo = [i] → i.src = g.src → x.clearAt = none →
    x.startAt = none → x.retune = none → x.restart = none → x.fade = none → x.queued = none → x.shadow = none → x.flt.settle = 0 → i.flags.early = false →
    ∃ t, exec (.channelOutput c {} [] []) s = .next t ∧ (t.chan c).fifo = [] ∧ (t.chan c).seq = (x.seq + 1) % 256 ∧ (t.chan c).flt.prev = some i.stamp ∧
      (t.chan c).gapNext = false ∧ t.tbf = s.tbf) ∧
  ((chState s c = 1 ∨ chState s c = 2) → g.oneBit = false → (∀ i, i ∈ x.fifo → s.tb < i.deadline) → s.get (SCHED_CH8_ON_SLICE c) < 3 →
    (x.fifo.length < 4 → ∃ t, exec (.sampleArrival c v stamp clip ⟨poison, corr⟩) s = .next t ∧ t = { s with chans := t.chans, regs := t.regs } ∧
      OtherChans c s t ∧ WordsKept [ecc.addr] s t ∧ t.get ecc = min (s.get ecc + corr) 0xFFFF ∧
      (let d := if ∀ a, x.arrival = some a → a + g.minInterval ≤ s.tb then s.tb + g.minInterval else x.deadline + g.minInterval
       let entry : InSample := { value := sx 32 v.toNat, stamp := stamp, deadline := d, src := g.src, flags := { clip := clip, poison := poison } }
       t.chan c = { x with deadline := d, arrival := some s.tb, fifo := x.fifo ++ [entry] })) ∧
    (x.fifo.length = 4 → ∃ t, exec (.sampleArrival c v stamp clip ⟨poison, corr⟩) s = .next t ∧ t.chan c = { x with gapNext := true } ∧
      (∀ d, d ≠ c → t.chan d = s.chan d) ∧ t.on (SCHED_CH8_OVERRATE c) = true ∧ t.on (PG_FAULT_bit 0x1B 3) = true ∧ Raised 515 s t ∧
      WordsKeptBut [descAddr c 8, (PG_FAULT_bit 0x1B 0).addr, ecc.addr] s t))

/-! ### Sensor ports (spec/09) -/

/-- R142, R145 to R160: a character that the port completes enters the FIFO with its flags or is lost; one that ends while the port drives the line is
compared with the echo, and a difference ends the operation LINK; the end of a sentence or of a Modbus frame checks it; the port's timers end
the operation that waits, with their flags, once its time has passed; the pump; an automatic read starts, takes its words and stops after the word in flight. -/
def Obligations.PortEvents : Prop :=
  ∀ (s : State) (m : Master) (p : Nat) (c : RxChar) (v w : Word) (r : Recv) (a : AutoRead), p < 24 →
  let x := s.port p
  let k := s.ctx p
  let mode := portMode s p
  let live := portLive s p = true
  let d := c.data % 2 ^ dataBits s p
  let bad := parityBad s p c || !c.stop
  let lost := PORT_ERR_CNT_LOST p
  let failed := PORT_ERR_CNT_FRAMES_FAILED p
  let stat := (SEQ_CTX_STAT_STATE p).addr
  let err := (PORT_ERR_NOISE p).addr
  let Fails (t : State) : Prop := t.get failed = min (s.get failed + 1) 0xFFFF
  let Same (t : State) : Prop := t.get failed = s.get failed
  let taken := live ∧ c.start = true ∧ portTakes s p (charCycles s p) = true
  let answer (r : Recv) : Nat := if r.entered || r.answered then 1 else if r.silent then 2 else 0
  let Receives := taken ∧ underDrive s p = false ∧ k.op = .none ∧ c.noise = false ∧ allSpacing s p c = false
  let Ends (t : State) (st rr : Nat) : Prop := (t.ctx p).op = .none ∧ t.get (SEQ_CTX_STAT_STATE p) = 1 ∧ t.get (SEQ_CTX_STAT_ST p) = st ∧
    t.get (SEQ_CTX_STAT_RR p) = rr
  (¬ live → exec (.charReceived p c) s = .next s ∧ exec (.modbusFrameEnd p) s = .next s ∧ exec (.i2cStretchTo p) s = .next s ∧
    exec (.sdiRespWait p) s = .next s ∧ exec (.sdiGap p) s = .next s ∧ exec (.spiAutoWord p w) s = .next s) ∧
  (Receives → mode = 1 → ∃ t, exec (.charReceived p c) s = .next t ∧ (t.port p).lastAct = some s.clk.age ∧
    t.on (PORT_ERR_FRAMING_PARITY p) = (s.on (PORT_ERR_FRAMING_PARITY p) || bad) ∧
    (rxLevel s p < 32 → (t.port p).rx = x.rx ++ [.char d bad c.cap] ∧ t.get lost = s.get lost) ∧
    (32 ≤ rxLevel s p → (t.port p).rx = x.rx ∧ t.on (PORT_ERR_RX_OVERRUN p) = true ∧ t.get lost = min (s.get lost + 1) 0xFFFF)) ∧
  (taken → underDrive s p = true → charMode mode = true → s.on (PORT_MODE_ECHO p) = true → ∀ e l, x.echo = e :: l →
    (e % 2 ^ dataBits s p = d → exec (.charReceived p c) s = .next (s.setPort p { x with echo := l })) ∧
    (e % 2 ^ dataBits s p ≠ d → ∃ t, exec (.charReceived p c) s = .next t ∧ t.on (PORT_ERR_COLLISION p) = true ∧ (t.port p).rx = x.rx ∧
      (∀ b1 b2 b3, k.op = .send b1 b2 b3 → Ends t 10 (s.get (SEQ_CTX_STAT_RR p)) ∧ (t.port p).sending = false))) ∧
  (taken → underDrive s p = false → charMode mode = true → allSpacing s p c = true →
    ∃ t, exec (.charReceived p c) s = .next t ∧ (t.port p).rx = x.rx ∧ t.on (PORT_ERR_BREAK_DET p) = true) ∧
  (mode ≠ 5 ∨ d ≠ 10 → exec (.nmeaSentence p c) s = .next s) ∧
  (let cs := x.chars ++ [10]
   Receives → mode = 5 → d = 10 → bad = false → x.chars ≠ [] → rxLevel s p < 32 → cs.length ≤ 82 →
    ∃ t, exec (.nmeaSentence p c) s = .next t ∧ (t.port p).chars = [] ∧
      (nmeaCheck cs = some true → (t.port p).rx = x.rx ++ [.char 10 false c.cap, .frame false false] ∧ Same t ∧ WordsKeptBut [] s t) ∧
      (nmeaCheck cs = some false → (t.port p).rx = x.rx ++ [.char 10 false c.cap, .frame true false] ∧ Fails t ∧ t.on (PORT_ERR_NMEA_CKSUM p) = true) ∧
      (nmeaCheck cs = none → (t.port p).rx = x.rx ++ [.char 10 false c.cap, .frame (s.pon p (PORT_FRAME_NMEA_REQ p)) false] ∧
        t.on (PORT_ERR_NMEA_NOCKSUM p) = true)) ∧
  (live → mode = 6 → lineIdle s p (t35 s p) = false → exec (.modbusFrameEnd p) s = .next s) ∧
  (live → mode = 6 → x.chars ≠ [] → k.op = .none → lineIdle s p (t35 s p) = true →
    let crcBad := crc16 0xFFFF x.chars != 0
    (x.chars.length ≤ 256 → ∃ t, exec (.modbusFrameEnd p) s = .next t ∧ (t.port p).chars = [] ∧ (t.port p).rx = x.rx ++ [.frame crcBad x.gap] ∧
      (crcBad = true → t.on (PORT_ERR_MB_CRC p) = true) ∧ (crcBad = true ∨ x.gap = true → Fails t) ∧ (crcBad = false → x.gap = false → Same t)) ∧
    (256 < x.chars.length → ∃ t, exec (.modbusFrameEnd p) s = .next t ∧ (t.port p).chars = [] ∧ t.on (PORT_ERR_MB_LONG p) = true)) ∧
  (∀ b1 b2 b3, live → mode = 3 → s.pget p (PORT_I2C_STRETCH_TO p) ≠ 0 → k.op = .send b1 b2 b3 →
    ∃ t, exec (.i2cStretchTo p) s = .next t ∧ Ends t 10 1 ∧ Fails t ∧ t.on (PORT_ERR_I2C_STRETCH_TO p) = true ∧
      (t.port p).sending = false) ∧
  (live → mode = 3 → s.pget p (PORT_I2C_STRETCH_TO p) ≠ 0 → k.op = .recv r →
    ∃ t, exec (.i2cStretchTo p) s = .next t ∧ Ends t 10 (answer r) ∧ Fails t ∧ t.on (PORT_ERR_I2C_STRETCH_TO p) = true) ∧
  (live → mode = 2 → k.op = .recv r → k.flags = {} →
    (respWaited s p = false → exec (.sdiRespWait p) s = .next s) ∧ (lineIdle s p (usCycles 1660 + 1) = false → exec (.sdiGap p) s = .next s) ∧
    (r.resp = true → respWaited s p = true → r.got = 0 → r.chars = [] → r.entered = false → r.answered = false → x.acc = [] → ∃ t, exec (.sdiRespWait p) s = .next t ∧ Ends t 1 2 ∧ WordsKept [stat] s t) ∧
    (0 < r.got → r.met = false → r.crc = false ∨ crLf r.chars = false → lineIdle s p (usCycles 1660 + 1) = true →
      ∃ t, exec (.sdiGap p) s = .next t ∧ Ends t 3 (answer r) ∧ Fails t ∧ t.on (PORT_ERR_SDI_CRC_GAP p) = true ∧
      (t.ctx p).buf = k.buf)) ∧
  (pumpRuns s = false → exec .pumpOk s = .next s ∧ exec .pumpFault s = .next s) ∧
  (pumpRuns s = true → exec .pumpOk s = .next { s with pumpOk := true } ∧
    ∃ t, exec .pumpFault s = .next t ∧ t.pumpOk = false ∧ ∀ j, j ∈ directPorts s → t.on (PG_FAULT_bit (0x20 + j) 1) = true) ∧
  (Serves m (0x20 + p) s →
    (∃ t, exec (.spiAutoStop m p v) s = .next t ∧ (reply m t).resp = .ok ∧ t.ctxs = s.ctxs ∧
      (∀ a, x.auto = some a → a.cur ≠ none → (t.port p).auto = some { a with stopping := true }) ∧
      ((∀ a, x.auto = some a → a.cur = none) → (t.port p).auto = none)) ∧
    (live → bit v.toNat 30 = false → x.auto = none →
      (mode ≠ 4 → ∃ t, exec (.spiAutoGo m p v) s = .next t ∧ (t.port p).auto = none) ∧
      (mode = 4 → csValid s p = false → ∃ t, exec (.spiAutoGo m p v) s = .next t ∧ (t.port p).auto = none ∧ t.on (PORT_ERR_SPI_CS_INVALID p) = true) ∧
      (mode = 4 → csValid s p = true → ∃ t, exec (.spiAutoGo m p v) s = .next t ∧ (reply m t).resp = .ok ∧ (t.port p).auto = some { s := s.tb } ∧
        (∀ b1 b2 b3, k.op = .send b1 b2 b3 → k.flags = {} → t.get (SEQ_CTX_STAT_ST p) = 9 ∧ (t.ctx p).op = .none)))) ∧
  (live → x.auto = some a → portHeld s p = false ∨ a.cur ≠ none →
    let n := s.get (PORT_SPI_AUTO_CHANNEL p)
    let bits' := spiBits s p
    ∃ t, exec (.spiAutoWord p w) s = .next t ∧ (a.stopping = true → (t.port p).auto = none) ∧
    (a.stopping = false → ∃ b, (t.port p).auto = some b ∧ b.s = a.s ∧ b.k = a.k + 1 ∧ b.cur = none ∧ b.stopping = false) ∧
    (boundTo s n p = true → (s.chan n).fifo = [] → t.get lost = s.get lost ∧ ∃ i, (t.chan n).fifo = [i] ∧
      i.value = (if s.on (PORT_SPI_AUTO_SIGNED p) then sx bits' (w.toNat % 2 ^ bits') else sx 32 (w.toNat % 2 ^ bits'))) ∧
    (boundTo s n p = false → t.on (PORT_ERR_SRC_MISMATCH p) = true ∧ t.chans = s.chans ∧
      t.get lost = min (s.get lost + 1) 0xFFFF ∧ WordsKeptBut [err, lost.addr] s t))

/-! ### Poll programs and attendance (spec/10) -/

namespace Sys2Proof.Claims

/-- Context `n` has a turn and fetches word `w` with opcode `op` at `pc` (R167). -/
def Fetches (s : State) (n op w pc : Nat) : Prop :=
  n < 24 ∧ seqLive s n = true ∧ ctxState s n = 1 ∧ s.get (SEQ_CTX_STAT_PC n) = pc ∧ inRegion s n pc = true ∧ progWord s pc = w ∧ w / 2 ^ 26 = op

/-- Context `n` has halted with FAULT_KIND `k` (R184). -/
def Faulted (n k : Nat) (t : State) : Prop :=
  ctxState t n = 3 ∧ t.get (SEQ_CTX_STAT_ST n) = 14 ∧ t.get (SEQ_CTX_STAT_FAULT_KIND n) = k ∧ t.on (SEQ_CTX_EVT_FAULT n) = true ∧
  t.on (PG_FAULT_bit 0x38 n) = true ∧ (t.ctx n).op = .none ∧ (t.ctx n).stage = []

/-- Context `n` runs on at `pc` with status `st`. -/
def RunsAt (n pc st : Nat) (t : State) : Prop :=
  ctxState t n = 1 ∧ t.get (SEQ_CTX_STAT_PC n) = pc % 2 ^ 14 ∧ t.get (SEQ_CTX_STAT_ST n) = st

end Sys2Proof.Claims

/-- R165 to R171, R178, R184 to R186: starts, which take the region as it stands, and stops; END; SEND, BREAK, WAIT and RECV are faults, end at once or
wait, and do nothing while a stopped program's send still transmits (DESIGN CHOICE of log entry 24); what ends their wait, once its time has passed, leaves the
status, the response register and STAMP of its rule; a fetch outside the region, of an undefined opcode or with a parity error is a fault. -/
def Obligations.ProgramsStartWaitAndEnd : Prop :=
  ∀ (s : State) (m : Master) (v : Word) (n w pc cap : Nat) (e : LineEnd) (rx : List Word) (r : Recv) (b1 b2 b3 : Bool), n < 24 →
  let x := s.ctx n
  let mode := portMode s n
  let st := s.get (SEQ_CTX_STAT_ST n)
  let running := ctxState s n = 1 ∨ ctxState s n = 2
  let stat := (SEQ_CTX_STAT_STATE n).addr
  let onLine := (s.port n).started = true
  let free := lineTaken s n = false
  let Waits (op : CtxOp) (k : Nat) (t : State) : Prop := ctxState t n = 2 ∧ (t.ctx n).op = op ∧ t.get (SEQ_CTX_STAT_PC n) = (pc + k) % 2 ^ 14
  (Serves m 0x38 s → n < nPorts s.variant →
    (bit v.toNat n = true → s.isUp 0x38 = true → ¬ running → ∃ t, exec (.seqStart m v) s = .next t ∧ (reply m t).resp = .ok ∧
      RunsAt n (s.get (SEQ_CTX_ENTRY_ENTRY n)) 0 t ∧ t.get (SEQ_CTX_STAT_RR n) = 0 ∧ t.get (SEQ_CTX_STAT_A n) = 0 ∧ t.get (SEQ_CTX_V0_V n) = 0 ∧
      t.get (SEQ_CTX_V1_V n) = 0 ∧ t.ctx n = { startTb := s.tb, stamp := x.stamp, base := s.get (SEQ_CTX_REGION_BASE n), limit := s.get (SEQ_CTX_REGION_LIMIT n) }) ∧
    (bit v.toNat n = true → s.isUp 0x38 = true → running → ∃ t, exec (.seqStart m v) s = .next t ∧ ctxState t n = ctxState s n ∧ t.ctx n = x ∧
      t.on (SEQ_CTX_EVT_START_MISSED n) = true ∧ t.get (SEQ_CTX_EVT_MISSED n) = min (s.get (SEQ_CTX_EVT_MISSED n) + 1) 0xFF) ∧
    (bit v.toNat n = true → ∃ t, exec (.seqStop m v) s = .next t ∧ ctxState t n = 0 ∧ t.ctx n = { x with op := .none, flags := {}, stage := [] }) ∧
    (bit v.toNat n = false → (∃ t, exec (.seqStart m v) s = .next t ∧ t.word stat = s.word stat ∧ t.ctx n = x) ∧
      ∃ t, exec (.seqStop m v) s = .next t ∧ t.word stat = s.word stat ∧ t.ctx n = x)) ∧
  (Fetches s n 0x00 w pc → ∃ t, exec (.opEnd n) s = .next t ∧ ctxState t n = 0 ∧ t.on (SEQ_CTX_EVT_DONE n) = true ∧ (t.ctx n).stage = [] ∧
    WordsKeptBut [stat, (SEQ_CTX_EVT_DONE n).addr] s t) ∧
  (lineTaken s n = true → (Fetches s n 0x01 w pc → exec (.opSend n) s = .next s) ∧ (Fetches s n 0x02 w pc → exec (.opBreak n) s = .next s) ∧
    (Fetches s n 0x04 w pc → exec (.opRecv n) s = .next s)) ∧
  (Fetches s n 0x01 w pc → free →
    let len := w % 256
    (len = 0 ∨ mode = 7 → ∃ t, exec (.opSend n) s = .next t ∧ Faulted n 1 t) ∧
    (0 < len → mode ≠ 2 → mode ≠ 4 → mode ≠ 7 → ∀ z, lineBar s n = some z → ∃ t, exec (.opSend n) s = .next t ∧ RunsAt n (pc + 1 + (len + 3) / 4) z t ∧
      t.ports = s.ports ∧ WordsKept [stat] s t) ∧
    (0 < len → mode ≠ 2 → mode ≠ 4 → mode ≠ 7 → lineBar s n = none → ∃ t, exec (.opSend n) s = .next t ∧
      Waits (.send (bit w 25) (bit w 22) (bit w 23)) (1 + (len + 3) / 4) t ∧ (t.port n).sending = true ∧
      (t.port n).tx = sendBytes (portLatch n s) n (bit w 24) (literal s pc len) ∧
      (csClash s = [] → WordsKept [stat] s t))) ∧
  (portLive s n = true → onLine → portTakes s n (sendUnit s n) = true → (s.port n).sending = true → x.op = .send b1 b2 b3 → x.flags = {} →
    (mode ≠ 3 → mode ≠ 4 → ∃ t, exec (.sendDone n cap e rx) s = .next t ∧ ctxState t n = 1 ∧ t.get (SEQ_CTX_STAT_ST n) = 0 ∧ (t.ctx n).op = .none ∧
      (t.port n).sending = false ∧ (b1 = true → (t.ctx n).stamp = cap ∧ (t.ctx n).stampValid = true) ∧
      (b1 = false → (t.ctx n).stamp = x.stamp ∧ (t.ctx n).stampValid = x.stampValid) ∧ WordsKept [stat] s t) ∧
    (mode = 3 → e = .addrNack → ∃ t, exec (.sendDone n cap e rx) s = .next t ∧ ctxState t n = 1 ∧ t.get (SEQ_CTX_STAT_ST n) = 4 ∧
      t.get (SEQ_CTX_STAT_RR n) = 2 ∧ t.on (PORT_ERR_I2C_NACK n) = true) ∧
    (mode = 3 → e = .ok → ∃ t, exec (.sendDone n cap e rx) s = .next t ∧ ctxState t n = 1 ∧ t.get (SEQ_CTX_STAT_ST n) = 0 ∧
      t.get (SEQ_CTX_STAT_RR n) = 1 ∧ (t.port n).noStop = b3) ∧
    (mode = 4 → b2 = true → x.buf.length + (spiRxBytes s n rx).length ≤ 256 → ∃ t, exec (.sendDone n cap e rx) s = .next t ∧ ctxState t n = 1 ∧
      t.get (SEQ_CTX_STAT_ST n) = 0 ∧ (t.ctx n).buf = x.buf ++ spiRxBytes s n rx)) ∧
  (Fetches s n 0x02 w pc → free → (mode = 3 ∨ mode = 4 ∨ mode = 7 → ∃ t, exec (.opBreak n) s = .next t ∧ Faulted n 1 t) ∧
    (mode = 1 → lineBar s n = none → ∃ t, exec (.opBreak n) s = .next t ∧ Waits .brk 1 t ∧ (t.port n).brk = some (max 13 (w % 256), 1) ∧
      (t.port n).sending = true)) ∧
  (x.op = .brk → portLive s n = true → onLine → portTakes s n (sendLead s n) = true → ∃ t, exec (.breakDone n) s = .next t ∧ ctxState t n = 1 ∧ t.get (SEQ_CTX_STAT_ST n) = stOf x.flags ∧
    (t.ctx n).op = .none ∧ (t.port n).sending = false ∧ (t.port n).brk = none) ∧
  (Fetches s n 0x03 w pc → ∃ t, exec (.opWait n) s = .next t ∧ Waits (.wait (if bit w 25 then w % 2 ^ 24 * 2621440 else (w % 2 ^ 24 * 262144 + 99) / 100)) 1 t ∧ t.get (SEQ_CTX_STAT_ST n) = st ∧ WordsKept [stat] s t) ∧
  (∀ k, x.op = .wait (k + 1) → exec (.waitDone n) s = .next s) ∧
  (x.op = .wait 0 → seqLive s n = true → ∃ t, exec (.waitDone n) s = .next t ∧ ctxState t n = 1 ∧ t.get (SEQ_CTX_STAT_ST n) = st ∧
    (t.ctx n).op = .none ∧ WordsKept [stat] s t) ∧
  (Fetches s n 0x04 w pc → free →
    let w1 := progWord s (pc + 1)
    let ends := w / 2 ^ 24 % 4
    let count := w1 / 2 ^ 24 % 256
    let total := w1 % 2 ^ 24 + (if bit w 21 then 1000 * s.get (SEQ_CTX_V1_V n) else 0)
    (ends = 3 ∨ mode = 7 ∨ ((mode = 3 ∨ mode = 4) ∧ ends ≠ 2) ∨ (ends = 2 ∧ count = 0) → ∃ t, exec (.opRecv n) s = .next t ∧ Faulted n 1 t) ∧
    (ends = 2 → 0 < count → mode ≠ 4 → mode ≠ 7 →
      (∀ z, lineBar s n = some z → ∃ t, exec (.opRecv n) s = .next t ∧ RunsAt n (pc + 2) z t ∧ t.get (SEQ_CTX_STAT_RR n) = 0 ∧ WordsKept [stat] s t) ∧
      (lineBar s n = none → (s.port n).rx = [] → ∃ t q, exec (.opRecv n) s = .next t ∧ Waits (.recv q) 2 t ∧ q.ends = ends ∧ q.count = count ∧
        q.stamp = bit w 23 ∧ q.crc = bit w 22 ∧ q.got = 0 ∧ q.met = false ∧ q.left = (if total = 0 then none else some (total * 2621440)) ∧
        (t.ctx n).buf = (if bit w 19 then x.buf else []) ∧ (csClash s = [] → WordsKept [stat] s t)))) ∧
  (x.op = .recv r → seqLive s n = true → x.flags = {} →
    let answer (silent : Bool) : Nat := if r.entered || r.answered then 1 else if silent then 2 else 0
    (r.left ≠ some 0 → exec (.recvTimeout n) s = .next s) ∧
    (portLive s n = true → charMode mode = true → r.met = false → exec (.recvDone n cap e rx) s = .next s) ∧
    (portLive s n = true → charMode mode = true → r.met = true → r.crc = false → ∃ t, exec (.recvDone n cap e rx) s = .next t ∧
      ctxState t n = 1 ∧ t.get (SEQ_CTX_STAT_ST n) = 0 ∧ t.get (SEQ_CTX_STAT_RR n) = answer r.silent ∧ (t.ctx n).op = .none ∧ (t.ctx n).buf = x.buf ∧
      (∀ z, r.stamp = true → r.first = some z → (t.ctx n).stamp = z)) ∧
    (r.left = some 0 → r.met = false → r.crc = false → ∃ t, exec (.recvTimeout n) s = .next t ∧ ctxState t n = 1 ∧ t.get (SEQ_CTX_STAT_ST n) = 1 ∧
      t.get (SEQ_CTX_STAT_RR n) = answer (r.silent || (r.got == 0 && (s.port n).acc.isEmpty)) ∧ (t.ctx n).op = .none)) ∧
  (seqLive s n = true → ctxState s n = 1 → s.get (SEQ_CTX_STAT_PC n) = pc →
    (inRegion s n pc = false → ∃ t, exec (.undefinedOpcode n b1) s = .next t ∧ Faulted n 2 t) ∧
    (inRegion s n pc = true → b1 = true → ∃ t, exec (.undefinedOpcode n b1) s = .next t ∧ Faulted n 3 t) ∧
    (inRegion s n pc = true → b1 = false → 0x10 ≤ progWord s pc / 2 ^ 26 → ∃ t, exec (.undefinedOpcode n b1) s = .next t ∧ Faulted n 1 t))

/-- R172 to R177, R179 to R183, R186: MATCH, PARSE and CUR on the reply buffer, EMIT of the stage, RETRY, BR, ADDR, SETV, SIGNAL, RAW and ATTEND have
the effects of their rules and go on at the next word or at the target, a target outside the region being a fault. -/
def Obligations.ProgramOperations : Prop :=
  ∀ (s : State) (m : Master) (v : Word) (n w pc : Nat), n < 24 →
  let x := s.ctx n
  let st := s.get (SEQ_CTX_STAT_ST n)
  let a := s.get (SEQ_CTX_STAT_A n)
  let ent := attEntry n a
  let stat := (SEQ_CTX_STAT_STATE n).addr
  let imm := sx 16 (w % 2 ^ 16)
  let V := vReg n (w / 2 ^ 16 % 2)
  let Goes (c : Instr) (op k z : Nat) (as : List Nat) (Q : State → Prop) : Prop :=
    Fetches s n op w pc → ∃ t, exec c s = .next t ∧ t = { s with regs := t.regs, ctxs := t.ctxs } ∧ RunsAt n (pc + k) z t ∧ WordsKept (stat :: as) s t ∧
      (∀ d, d ≠ n → t.ctx d = s.ctx d) ∧ Q t
  let Faults (c : Instr) (op k : Nat) : Prop := Fetches s n op w pc → ∃ t, exec c s = .next t ∧ Faulted n k t
  let Jumps (c : Instr) (op target : Nat) (as : List Nat) (Q : State → Prop) : Prop :=
    (inRegion s n target = true → Fetches s n op w pc → ∃ t, exec c s = .next t ∧ t = { s with regs := t.regs, ctxs := t.ctxs } ∧ RunsAt n target st t ∧
      WordsKept (stat :: as) s t ∧ Q t) ∧ (inRegion s n target = false → Faults c op 2)
  (let len := w % 256
   let lit := literal s pc len
   let rest := x.buf.drop x.cur
   let hit := if bit w 25 then findLit (bit w 24) lit rest 0 else if matchAt (bit w 24) lit rest then some 0 else none
   (len = 0 → Faults (.opMatch n) 0x05 1) ∧
   (0 < len → Goes (.opMatch n) 0x05 (1 + (len + 3) / 4) (if hit.isSome then 0 else 5) [] (fun t =>
     (∀ i, hit = some i → t.ctx n = { x with cur := x.cur + i + len }) ∧ (hit = none → t.ctx n = x)))) ∧
  (let f := w / 2 ^ 23 % 8
   let width := w / 2 ^ 16 % 16
   let cs := x.buf.drop x.cur
   let k := sepLen (w / 2 ^ 20 % 4) cs
   let q := parseField w (cs.drop k) s
   (5 ≤ f ∨ (3 ≤ f ∧ (width = 0 ∨ 4 < width)) → Faults (.opParse n) 0x06 1) ∧
   (f ≤ 4 → f ≠ 2 → (3 ≤ f → 1 ≤ width ∧ width ≤ 4) →
     (q.1.found = false → Goes (.opParse n) 0x06 1 6 [] (fun t => t.ctx n = { x with cur := x.cur + k })) ∧
     (q.1.found = true → bit w 22 = true → Goes (.opParse n) 0x06 1 (if q.2.1 then 7 else 0) [(vReg n (w % 2)).addr] (fun t =>
       t.get (vReg n (w % 2)) = ux 32 q.1.value ∧ t.ctx n = { x with cur := x.cur + k + q.1.len })) ∧
     (q.1.found = true → bit w 22 = false → 16 ≤ x.stage.length → Goes (.opParse n) 0x06 1 12 [] (fun t => t.ctx n = { x with cur := x.cur + k + q.1.len })) ∧
     (q.1.found = true → bit w 22 = false → x.stage.length < 16 → Goes (.opParse n) 0x06 1 (if q.2.1 then 7 else 0) [] (fun t =>
       t.ctx n = { x with cur := x.cur + k + q.1.len, stage := x.stage ++ [(w % 256, sx 32 (ux 32 q.1.value), q.2.1)] })))) ∧
  ((w / 2 ^ 24 % 4 = 3 → Faults (.opEmit n) 0x07 1) ∧
   (w / 2 ^ 24 % 4 ≠ 3 → x.stage = [] → Goes (.opEmit n) 0x07 1 st [] (fun t => t.ctx n = x)) ∧
   (w / 2 ^ 24 % 4 ≠ 3 → x.stage ≠ [] → (∀ e, e ∈ x.stage → boundTo s e.1 n = false) → Fetches s n 0x07 w pc →
     ∃ t, exec (.opEmit n) s = .next t ∧ RunsAt n (pc + 1) st t ∧ t.chans = s.chans ∧ t.on (PORT_ERR_SRC_MISMATCH n) = true ∧ t.ctx n = { x with stage := [] }) ∧
   (∀ e, w / 2 ^ 24 % 4 ≠ 3 → x.stage = [e] → e.1 < 256 → boundTo s e.1 n = true → (s.chan e.1).fifo = [] → Fetches s n 0x07 w pc →
     ∃ t i, exec (.opEmit n) s = .next t ∧ RunsAt n (pc + 1) st t ∧ t.ctx n = { x with stage := [] } ∧ (t.chan e.1).fifo = [i] ∧ i.value = e.2.1 ∧
       i.stamp = (if w / 2 ^ 24 % 4 = 2 then s.tb * 2 ^ 32 else if w / 2 ^ 24 % 4 = 0 ∧ x.stampValid = true then x.stamp else x.startTb * 2 ^ 32))) ∧
  (let target := w % 2 ^ 14
   (x.rc < w / 2 ^ 22 % 16 → Jumps (.opRetry n) 0x08 target [] (fun t => t.ctx n = { x with rc := x.rc + 1, retried := portMode s n == 2 })) ∧
   (w / 2 ^ 22 % 16 ≤ x.rc → Goes (.opRetry n) 0x08 1 st [] (fun t => t.ctx n = { x with rc := 0 })) ∧
   let cond := w / 2 ^ 22 % 16
   let arg := w / 2 ^ 16 % 64
   let down := s.get V + 2 ^ 32 - 1
   let hit := cond = 0 ∨ (cond = 1 ∧ st = arg % 16) ∨ (cond = 2 ∧ st ≠ arg % 16) ∨ (cond = 3 ∧ s.on (flagBit arg) = true) ∨
     (cond = 4 ∧ s.on (flagBit arg) = false) ∨ (cond = 5 ∧ down % 2 ^ 32 ≠ 0) ∨ (cond = 6 ∧ s.get (SEQ_CTX_STAT_RR n) = arg % 4) ∨
     (cond = 7 ∧ s.on (ATT_ENT0_PRESENT ent) = true)
   let counted (t : State) : Prop := t.get V = (if cond = 5 then down % 2 ^ 32 else s.get V) ∧ t.ctx n = x
   (8 ≤ cond → Faults (.opBr n) 0x09 1) ∧ (cond < 8 → hit → Jumps (.opBr n) 0x09 target [V.addr] counted) ∧
   (cond < 8 → ¬ hit → Goes (.opBr n) 0x09 1 st [V.addr] counted)) ∧
  (let kind := w / 2 ^ 24 % 4
   let sel := w / 2 ^ 22 % 4
   let arg := w % 64
   let lo := if x.visited then a + 1 else a
   let hi := if portMode s n = 2 then min arg 61 else arg
   let ok (b : Nat) : Prop := lo ≤ b ∧ b ≤ hi ∧ (sel = 1 → s.on (ATT_ENT0_PRESENT (attEntry n b)) = true) ∧
     (sel = 2 → s.on (ATT_ENT0_PRESENT (attEntry n b)) = false)
   (kind = 0 → Goes (.opAddr n) 0x0A 1 0 [] (fun t => t.get (SEQ_CTX_STAT_A n) = arg ∧ t.ctx n = { x with visited := false })) ∧
   (kind = 1 → sel ≠ 3 → ∀ b, b < 64 → ok b → (∀ d, d < b → ¬ ok d) →
     Goes (.opAddr n) 0x0A 1 0 [] (fun t => t.get (SEQ_CTX_STAT_A n) = b ∧ t.ctx n = { x with visited := true })) ∧
   (kind = 1 → sel ≠ 3 → (∀ d, d < 64 → ¬ ok d) → Goes (.opAddr n) 0x0A 1 11 [] (fun t => t.get (SEQ_CTX_STAT_A n) = a ∧ t.ctx n = x)) ∧
   (2 ≤ kind ∨ (kind = 1 ∧ sel = 3) → Faults (.opAddr n) 0x0A 1)) ∧
  ((w / 2 ^ 24 % 4 = 0 → Goes (.opSetv n) 0x0C 1 st [V.addr] (fun t => t.get V = ux 32 imm ∧ t.ctx n = x)) ∧
   (w / 2 ^ 24 % 4 = 1 → Goes (.opSetv n) 0x0C 1 st [V.addr] (fun t => t.get V = ux 32 (s.get V + imm) ∧ t.ctx n = x)) ∧
   (w / 2 ^ 24 % 4 = 2 → Goes (.opSetv n) 0x0C 1 st [V.addr] (fun t => t.get V = a ∧ t.ctx n = x)) ∧
   (w / 2 ^ 24 % 4 = 3 → Goes (.opSetv n) 0x0C 1 st [] (fun t => t.get (SEQ_CTX_STAT_A n) = s.get V % 64 ∧ t.ctx n = x))) ∧
  ((w / 2 ^ 24 % 4 = 0 → Goes (.opSignal n) 0x0D 1 st [SEQ_FLAGS_FLAG.addr] (fun t => t.on (flagBit (w % 32)) = true)) ∧
   (w / 2 ^ 24 % 4 = 1 → Goes (.opSignal n) 0x0D 1 st [SEQ_FLAGS_FLAG.addr] (fun t => t.on (flagBit (w % 32)) = false)) ∧
   (w / 2 ^ 24 % 4 = 2 → Fetches s n 0x0D w pc → ∃ t, exec (.opSignal n) s = .next t ∧ RunsAt n (pc + 1) st t ∧ t.get (SEQ_CTX_EVT_CODE n) = w % 256 ∧
     t.on (SEQ_CTX_EVT_SIGNAL n) = true ∧ t.ctx n = x) ∧
   (w / 2 ^ 24 % 4 = 3 → Faults (.opSignal n) 0x0D 1)) ∧
  (let len : Int := x.buf.length
   let k := w / 2 ^ 24 % 4
   let c : Int := if k = 0 then imm else if k = 1 then x.cur + imm else len
   let z := if c < 0 then 0 else if len < c then len else c
   (k = 3 → Faults (.opCur n) 0x0E 1) ∧ (k ≠ 3 → Goes (.opCur n) 0x0E 1 (if z = c then 0 else 7) [] (fun t => t.ctx n = { x with cur := z.toNat }))) ∧
  ((s.on SEQ_QUEUES_RAW_EN = false → Goes (.opRaw n) 0x0F 1 st [] (fun t => t.ctx n = x)) ∧
   (s.on SEQ_QUEUES_RAW_EN = true → Fetches s n 0x0F w pc → ∃ t, exec (.opRaw n) s = .next t ∧ RunsAt n (pc + 1) 0 t ∧ t.ctx n = x)) ∧
  (Fetches s n 0x0B w pc → s.on SEQ_QUEUES_ATT_EN = false → bit w 25 = false →
    let seen := s.tb / 2 ^ 24 % 2 ^ 32
    let rr := s.get (SEQ_CTX_STAT_RR n)
    let misses := min (s.get (ATT_ENT0_MISSES ent) + 1) 0xFF
    (rr = 1 → ∃ t, exec (.opAttend n) s = .next t ∧ RunsAt n (pc + 1) st t ∧ t.on (ATT_ENT0_PRESENT ent) = true ∧ t.on (ATT_ENT0_KNOWN ent) = true ∧
      t.get (ATT_ENT0_MISSES ent) = 0 ∧ t.get (ATT_ENT1_LAST_SEEN ent) = seen ∧
      (s.on (ATT_ENT0_PRESENT ent) = false → t.get (ATT_ENT3_FIRST_SEEN ent) = seen ∧ t.on ATT_EVT_JOIN = true ∧
        t.get (ATT_ENT0_JOINS ent) = min (s.get (ATT_ENT0_JOINS ent) + 1) 0xFF ∧ t.get ATT_COUNTS_JOINS = min (s.get ATT_COUNTS_JOINS + 1) 0xFFFF)) ∧
    (rr = 2 → ∃ t, exec (.opAttend n) s = .next t ∧ RunsAt n (pc + 1) st t ∧ t.get (ATT_ENT0_MISSES ent) = misses ∧
      (s.on (ATT_ENT0_PRESENT ent) = true → max 1 (s.get (SEQ_CTX_CFG_LEAVE_MISSES n)) ≤ misses → t.on (ATT_ENT0_PRESENT ent) = false ∧
        t.on ATT_EVT_LEAVE = true ∧ t.get ATT_COUNTS_LEAVES = min (s.get ATT_COUNTS_LEAVES + 1) 0xFFFF)) ∧
    (rr = 0 → ∃ t, exec (.opAttend n) s = .next t ∧ RunsAt n (pc + 1) st t ∧ WordsKept [stat] s t)) ∧
  (Serves m 0x39 s →
    let p := v.toNat % 32
    (nPorts s.variant ≤ p → ∃ t, exec (.attClear m v) s = .next t ∧ WordsKeptBut [] s t) ∧
    (p < nPorts s.variant → ∃ t, exec (.attClear m v) s = .next t ∧ (reply m t).resp = .ok ∧
      (∀ i, i < 256 → t.word ((ATT_ENT0_PRESENT (64 * p)).addr + 4 * i) = 0) ∧
      ∀ b, ¬ eventWord b → ¬ ((ATT_ENT0_PRESENT (64 * p)).addr ≤ b ∧ b < (ATT_ENT0_PRESENT (64 * p)).addr + 1024) → t.word b = s.word b))

/-! ### Hardy (spec/11, spec/12) -/

namespace Sys2Proof.Claims

/-- Slot `n` takes update `u` of its own channel in a sample-count window: it is enabled and attached, nothing restarts it, the flags do not exclude the
update, and its open sub-window `w` began at `k`. -/
def Takes (s : State) (u : Update) (w : SubWin) (k : Nat) : Prop :=
  let n := u.slot
  n < 512 ∧ s.runs 0x3C = true ∧ s.on (HARDYF_SLOT0_EN n) = true ∧ s.on (HARDYF_SLOT12_ATTACHED n) = true ∧
  s.get (HARDYF_SLOT12_CHANNEL n) = u.chan ∧ u.sync = false ∧ u.stop = false ∧ (s.slot n).restartNext = false ∧ (s.slot n).machinesNext = false ∧
  s.on (HARDYF_SLOT0_WMODE n) = false ∧ excluded s n u.flags = false ∧ (s.slot n).cur = some (w, k) ∧ k ≤ u.stamp

/-- The least and the greatest of a sub-window and one more value. -/
def minWith (w : SubWin) (v : Int) : Int := if w.n = 0 then v else min w.lo v
def maxWith (w : SubWin) (v : Int) : Int := if w.n = 0 then v else max w.hi v

end Sys2Proof.Claims

/-- R188 to R191, R193 to R195, R199 to R202: in DOZE Hardy is off; an update for a slot that another channel holds is a conflict; one that a sub-window takes is counted in n, the
sums, MIN, MAX and COUNT_ABOVE, and the one that completes a window of one sub-window publishes them with its point; an enable is admitted or
refused by its configuration and ends the attachment; a write of an enabled slot restarts it or its machines; a read of RESULT0 latches the words behind it. -/
def Obligations.HardySlots : Prop :=
  ∀ (s : State) (u : Update) (r : List Update) (w : SubWin) (k n i : Nat) (m : Master) (v : Word) (lane : Nat), n < 512 → i < 7 → lane < 2 →
  let Waits := (lane = 0 → s.lane0 = u :: r) ∧ (lane = 1 → s.lane1 = u :: r)
  let c := Instr.hardyUpdate lane
  let thr := s.getS (HARDYF_SLOT4_THRESH u.slot)
  let addr (j : Nat) : Nat := (HARDYF_SLOT0_EN n).addr + 4 * j
  let wd (j : Nat) : Nat := (s.word (addr j)).toNat
  let Popped (t : State) : Prop := (lane = 0 → t.lane0 = r ∧ t.lane1 = s.lane1) ∧ (lane = 1 → t.lane1 = r ∧ t.lane0 = s.lane0)
  (s.busStopped = true → exec c s = .next s) ∧
  (s.busStopped = false → Waits → u.stop = false → s.runs 0x3C = false ∨ s.on (HARDYF_SLOT0_EN u.slot) = false → ∃ t, exec c s = .next t ∧ Popped t ∧
    t = { s with lane0 := t.lane0, lane1 := t.lane1 }) ∧
  (s.busStopped = false → Waits → u.slot < 512 → u.stop = false → s.runs 0x3C = true → s.on (HARDYF_SLOT0_EN u.slot) = true → s.on (HARDYF_SLOT12_ATTACHED u.slot) = true →
    s.get (HARDYF_SLOT12_CHANNEL u.slot) ≠ u.chan → stillNames s (s.get (HARDYF_SLOT12_CHANNEL u.slot)) u.slot = true →
    ∃ t, exec c s = .next t ∧ Popped t ∧ t.slots = s.slots ∧ t.on (HARDYF_SLOT12_CONFLICT u.slot) = true ∧ t.on (PG_FAULT_bit 0x3C 1) = true ∧
      t.get (HARDYF_SLOT12_CHANNEL u.slot) = s.get (HARDYF_SLOT12_CHANNEL u.slot)) ∧
  (s.busStopped = false → Waits → Takes s u w k →
    (w.n + 1 < slotQ s u.slot → ∃ t z, exec c s = .next t ∧ Popped t ∧ (t.slot u.slot).cur = some (z, k) ∧ z.n = w.n + 1 ∧ z.s1 = w.s1 + u.v ∧
      z.s2 = w.s2 + (u.v * u.v).toNat ∧ z.lo = minWith w u.v ∧ z.hi = maxWith w u.v ∧ z.above = w.above + (if thr < u.v then 1 else 0) ∧
      (t.slot u.slot).prev = some (u.v, u.stamp) ∧ ∀ d, d ≠ u.slot → t.slot d = s.slot d) ∧
    (slotQ s u.slot ≤ w.n + 1 → s.get (HARDYF_SLOT0_NSUB_LOG2 u.slot) = 0 → w.n + 1 < 2 ^ 32 → u.stamp < 2 ^ 64 →
      ∃ t, exec c s = .next t ∧ Popped t ∧ (t.slot u.slot).cur = none ∧ (t.slot u.slot).published = true ∧
        t.get (HARDYF_SLOT12_PUB_SEQ u.slot) = (s.get (HARDYF_SLOT12_PUB_SEQ u.slot) + 1) % 256 ∧ t.on (HARDYF_SLOT12_FULL u.slot) = true ∧
        t.get (HARDYF_SLOT13_N u.slot) = w.n + 1 ∧ t.get (HARDYF_SLOT14_WEND_LO u.slot) = u.stamp % 2 ^ 32 ∧
        t.get (HARDYF_SLOT15_WEND_HI u.slot) = u.stamp / 2 ^ 32 ∧
        (∀ j, j < 4 → (featCode s u.slot j = 1 → t.get (resultFld u.slot j) = ux 32 (minWith w u.v) ∧ t.on (nodataFld u.slot j) = false) ∧
          (featCode s u.slot j = 2 → t.get (resultFld u.slot j) = ux 32 (maxWith w u.v) ∧ t.on (nodataFld u.slot j) = false)) ∧
        (s.enabled 0x3D = true → s.points.length < 256 → t.points = s.points ++ [{ slot := u.slot, kind := .both, te := u.stamp }]))) ∧
  (Serves m 0x3C s →
    let Kept (t : State) : Prop := (reply m t).resp = .ok ∧ t.lane0 = s.lane0 ∧ t.lane1 = s.lane1 ∧ ∀ d, d ≠ n → t.slot d = s.slot d
    (s.on (HARDYF_SLOT0_EN n) = false → slotConfigOk (v ||| 0x80000000).toNat (wd 1) (wd 2) = true →
      ∃ t, exec (.slotEnable m n v) s = .next t ∧ Kept t ∧ t.word (addr 0) &&& 0xFFF0FFFF = (v ||| 0x80000000) &&& 0xFFF0FFFF ∧
        t.slot n = { flagNext := (s.slot n).flagNext } ∧ t.on (HARDYF_SLOT12_REFUSED n) = false ∧ t.on (HARDYF_SLOT12_ATTACHED n) = false ∧ t.get (HARDYF_SLOT12_CHANNEL n) = s.get (HARDYF_SLOT12_CHANNEL n) ∧
        WordsKept [addr 0, addr 12] s t) ∧
    (s.on (HARDYF_SLOT0_EN n) = false → slotConfigOk (v ||| 0x80000000).toNat (wd 1) (wd 2) = false →
      ∃ t, exec (.slotEnable m n v) s = .next t ∧ Kept t ∧ t.on (HARDYF_SLOT0_EN n) = false ∧ t.on (HARDYF_SLOT12_REFUSED n) = true ∧
        t.on (HARDYF_SLOT12_ATTACHED n) = false ∧
        t.on (PG_FAULT_bit 0x3C 2) = true ∧ t.slot n = s.slot n) ∧
    (s.on (HARDYF_SLOT0_EN n) = false → (i = 0 → bit v.toNat 31 = false) → ∃ t, exec (.slotConfigWrite m n i v) s = .next t ∧ Kept t ∧
      t.slot n = s.slot n ∧ WordsKept [addr i] s t) ∧
    (s.on (HARDYF_SLOT0_EN n) = true →
      (3 ≤ i → ∃ t, exec (.slotConfigWrite m n i v) s = .next t ∧ Kept t ∧ WordsKept [addr i] s t ∧ (i ≤ 5 → t.word (addr i) = v) ∧
        t.slot n = (if i = 3 ∨ i = 5 then { s.slot n with machinesNext := true } else s.slot n)) ∧
      (i = 1 → slotConfigOk (wd 0) v.toNat (wd 2) = true → ∃ t, exec (.slotConfigWrite m n i v) s = .next t ∧ Kept t ∧ WordsKept [addr i] s t ∧
        t.word (addr i) = v ∧ t.slot n = { s.slot n with restartNext := true }) ∧
      (i = 1 → slotConfigOk (wd 0) v.toNat (wd 2) = false → ∃ t, exec (.slotConfigWrite m n i v) s = .next t ∧ Kept t ∧
        t.word (addr i) = s.word (addr i) ∧ t.slot n = s.slot n ∧ t.on (HARDYF_SLOT12_REFUSED n) = true ∧ t.on (PG_FAULT_bit 0x3C 2) = true)) ∧
    (∃ t, exec (.hardySlotRead m n) s = .next t ∧ t = { s with replies := t.replies, hfShadows := t.hfShadows } ∧
      reply m t = { resp := .ok, data := s.word (addr 8) } ∧
      SMap.get (fun _ => {}) t.hfShadows (masterIdx m) = ({ slot := some n, words := (List.range 7).map (fun j => s.word (addr (9 + j))) } : SlotShadow)))

/-- R205 to R218: in DOZE the rule stage and the action unit are off; a point is evaluated by the rules it concerns; a rule whose condition holds fires: it is counted, its hold-off begins, and it waits
in the FIFO of 64 whatever its chain holds, or is lost; a burst starts its count at the firing; the action unit performs the action in front: lines, flags, packets, generators, bursts and retunes, refusals counted; a write of
words 0 and 3 of a rule clears its hidden state. -/
def Obligations.HardyRulesAndActions : Prop :=
  ∀ (s : State) (p : Point) (rest : List Point) (r i : Nat) (f : Firing) (fs : List Firing) (m : Master) (v : Word) (b : Burst),
  r < 4096 → i < 4 →
  let x := s.rule r
  let te := p.te
  let act := s.get (HARDYK_RULE3_ACT r)
  let ra := (HARDYK_RULE0_EN r).addr
  (s.busStopped = true → ∀ c, c ∈ [Instr.evaluationPoint, .event, .lineSet, .lineClear, .pgStartAction, .burst, .retuneAction, .flagSet, .flagClear, .burstEnd] →
    exec c s = .next s) ∧
  (s.busStopped = false → s.points = p :: rest → s.runs 0x3D = false → exec .evaluationPoint s = .next { s with points := rest }) ∧
  (s.busStopped = false → s.points = p :: rest → s.runs 0x3D = true → concernedRules { s with points := rest } p = [r] → s.get (HARDYK_RULE0_OP r) = 0 →
    s.get (HARDYK_RULE3_SMODE r) = 0 → x.lastT ≤ te →
    (termTrue s r p (termA s r) = true → x.holdEnd ≤ te → ∃ t, exec .evaluationPoint s = .next t ∧ t.points = rest ∧
      t.get HARDYK_FIRES_COUNT = min (s.get HARDYK_FIRES_COUNT + 1) 0xFFFFFFFF ∧ t.on HARDYK_LAST_FIRE_VALID = true ∧
      t.get HARDYK_LAST_FIRE_RULE = r ∧ (t.rule r).holdEnd = te + timeCode (s.get (HARDYK_RULE3_H r)) ∧ (t.rule r).lastT = te ∧
      (t.rule r).fires = (x.fires + 1) % 256 ∧ (t.rule r).armed = false ∧ (∀ d, d ≠ r → t.rule d = s.rule d) ∧
      (s.firings.length < 64 →
        t.firings = s.firings ++ [{ rule := r, te := te, slot := p.slot, resultA := (termResult s p (termA s r)).1, next := act }]) ∧
      (64 ≤ s.firings.length → t.firings = s.firings ∧ t.get HARDYK_LOST_FIRINGS = min (s.get HARDYK_LOST_FIRINGS + 1) 0xFFF ∧
        t.on (PG_FAULT_bit 0x3D 1) = true)) ∧
    (termTrue s r p (termA s r) = false ∨ te < x.holdEnd → ∃ t, exec .evaluationPoint s = .next t ∧ t = { s with points := rest, rules := t.rules } ∧
      (t.rule r).lastT = te ∧ (t.rule r).holdEnd = x.holdEnd ∧ (t.rule r).fires = x.fires ∧ ∀ d, d ≠ r → t.rule d = s.rule d)) ∧
  (Serves m 0x3D s → ∃ t, exec (.ruleWrite m r i v) s = .next t ∧ (reply m t).resp = .ok ∧ WordsKept [ra + 4 * i] s t ∧
    t.word (ra + 4 * i) = v ∧ (∀ d, d ≠ r → t.rule d = s.rule d) ∧
    t.rule r = (if i = 0 ∨ i = 3 then { x with armed := false, ta := 0, holdEnd := 0, lastT := 0 } else x)) ∧
  (s.busStopped = false → s.firings = f :: fs → 1 ≤ f.left → f.next < 256 → s.on (HARDYK_ACT_W0_NEXT_EN f.next) = false →
    let kind := s.get (HARDYK_ACT_W0_KIND f.next)
    let arg := s.get (HARDYK_ACT_W0_ARG f.next)
    let arg1 := s.get (HARDYK_ACT_W1_ARG1 f.next)
    let s' : State := { s with firings := fs }
    let Acts (c : Instr) (u : State) : Prop := ∃ t, exec c s = .next t ∧ Leaves s u t
    (kind = 1 → Acts .event (hardyPacket (arg % 512) (arg / 512 % 4) 2
      [f.te % 2 ^ 32, f.te / 2 ^ 32 % 2 ^ 32, arg1 % 256 * 2 ^ 24 + f.rule * 2 ^ 12 + f.slot, f.resultA] s')) ∧
    (kind = 2 → ∃ t, exec .lineSet s = .next t ∧ t.on (lineBit (arg % 128)) = true ∧ WordsKeptBut [(lineBit (arg % 128)).addr] s t) ∧
    (kind = 3 → ∃ t, exec .lineClear s = .next t ∧ t.on (lineBit (arg % 128)) = false ∧ WordsKeptBut [(lineBit (arg % 128)).addr] s t) ∧
    (kind = 4 → let g := arg % 16
      let turned := pgLive s g = false ∨ pgRun s g = false ∨ ((s.pg g).running = true ∧ s.on (PG_CFG_RESTART g) = false)
      (turned → ∃ t, exec .pgStartAction s = .next t ∧ OnlyRegs [HARDYK_ACT_REFUSED_COUNT.addr] s { t with firings := s.firings } ∧
        t.get HARDYK_ACT_REFUSED_COUNT = min (s.get HARDYK_ACT_REFUSED_COUNT + 1) 0xFFFFFFFF) ∧
      (¬ turned → Acts .pgStartAction (pgStart g s.tb s') ∧ ∃ t, exec .pgStartAction s = .next t ∧
        t.get HARDYK_ACT_REFUSED_COUNT = s.get HARDYK_ACT_REFUSED_COUNT ∧ (t.pg g).start = s.tb)) ∧
    (kind = 5 → let q := arg % 512
      let lane := arg / 512 % 4
      let full := (s.queue q).mark.isSome = true ∨ 32 ≤ (s.bursts.filter (fun b => !burstOver b)).length
      let post := arg1 / 2 ^ 16 % 256
      let already : Nat := SMap.get (fun _ => 0) f.closes (4 * q + lane)
      (full ∨ post ≤ already → ∃ t, exec .burst s = .next t ∧ t.bursts.length = s.bursts.length) ∧
      (¬ full → already < post → ∃ t e, exec .burst s = .next t ∧ t.bursts = s.bursts ++ [e] ∧ e.queue = q ∧ e.lane = lane ∧
        e.rule = f.rule ∧ e.te = f.te ∧ e.post = post ∧ e.noticeQueue = arg1 / 2 ^ 7 % 512 ∧ e.noticeLane = arg1 / 2 ^ 5 % 4 ∧
        e.counted = already)) ∧
    (kind = 6 → let q := retuneRequest (arg % 256) s'
      Acts .retuneAction (if q.1 then q.2 else q.2.inc HARDYK_ACT_REFUSED_COUNT)) ∧
    (kind = 7 → ∃ t, exec .flagSet s = .next t ∧ t.on (flagBit arg) = true ∧ OnlyRegs [SEQ_FLAGS_FLAG.addr] s { t with firings := s.firings } ∧
      ∀ j, j < 32 → j ≠ arg % 32 → t.on (flagBit j) = s.on (flagBit j)) ∧
    (kind = 8 → ∃ t, exec .flagClear s = .next t ∧ t.on (flagBit arg) = false ∧ OnlyRegs [SEQ_FLAGS_FLAG.addr] s { t with firings := s.firings } ∧
      ∀ j, j < 32 → j ≠ arg % 32 → t.on (flagBit j) = s.on (flagBit j))) ∧
  (s.busStopped = false → s.bursts.find? burstOver = none → exec .burstEnd s = .next s) ∧
  (s.busStopped = false → s.bursts.find? burstOver = some b → ∃ t, exec .burstEnd s = .next t ∧
    Leaves s (burstPacket b false { s with bursts := s.bursts.erase b }) t)

/-! ### Tongs (spec/13) -/

namespace Sys2Proof.Claims

/-- Master `m` has a software port of its own. -/
def hasPort (s : State) (m : Master) : Prop := masterIdx m < cores s.variant ∨ m = .host

/-- Packets of a queue are told apart by their identities: what a queue keeps from its packets' births on. -/
def distinctIds (x : Queue) : Prop := (x.pkts.map (fun p => p.id)).Nodup

end Sys2Proof.Claims

/-- R219, R221, R222, R225, R226, R231, R240: an open takes a free cell for the descriptor or answers why not; a word goes to the next place of the
open packet; a close writes LEN, and POISON where a word was written poisoned, and makes
the packet readable; a port without an open packet answers NO_OPEN, and one whose packet was refused
ignores the words. -/
def Obligations.QueueWrites : Prop :=
  ∀ (s : State) (m : Master) (v : Word) (p : Packet) (q : Nat), Serves m 0x40 s → q < 512 →
  let k := masterIdx m
  let x := s.queue q
  let stat := (TONGS_WR_STAT_OPEN k).addr
  let bad := (PG_FAULT_bit 0x40 5).addr
  let Ignored (i : Instr) : Prop := ∃ t, exec i s = .next t ∧ (reply m t).resp = .ok ∧ t.tongs = s.tongs ∧ t.mem = s.mem ∧ WordsKeptBut [] s t
  let Stat (t : State) (isOpen : Bool) (r : Nat) (w : WritePort) : Prop := (reply m t).resp = .ok ∧ t.on (TONGS_WR_STAT_OPEN k) = isOpen ∧
    t.get (TONGS_WR_STAT_RESULT k) = r ∧ t.wport k = w ∧ ∀ j, j ≠ k → t.wport j = s.wport j
  (¬ hasPort s m → Ignored (.wrOpen m v) ∧ Ignored (.wrData m v) ∧ Ignored (.wrClose m v) ∧ Ignored (.skip m)) ∧
  (hasPort s m →
    (bit v.toNat 31 = true → (∀ j, s.wport k ≠ .opened j) →
      let type := v.toNat / 2 ^ 16 % 16
      let sub := v.toNat / 2 ^ 20 % 1024
      let lane := v.toNat / 2 ^ 9 % 4
      (type ≠ 5 → type ≠ 8 → ∃ t, exec (.wrOpen m v) s = .next t ∧ Stat t false 5 (s.wport k) ∧ t.on (PG_FAULT_bit 0x40 5) = true ∧
        WordsKeptBut [stat, bad] s t) ∧
      (v.toNat % 512 = q → type = 5 ∨ type = 8 →
        (s.on (TONGSQ_Q0_EN q) = false → ∃ t, exec (.wrOpen m v) s = .next t ∧ Stat t false 1 .refused ∧ t.on (PG_FAULT_bit 0x40 3) = true ∧
          t.get (TONGSQ_Q11_REFUSED q) = min (s.get (TONGSQ_Q11_REFUSED q) + 1) 0xFFFFFFFF ∧ t.queue q = x) ∧
        (s.on (TONGSQ_Q0_EN q) = true → hasRoom q s = false → s.on (TONGSQ_Q0_FULL_POLICY q) = false →
          ∃ t, exec (.wrOpen m v) s = .next t ∧ Stat t false 2 .refused ∧ t.on (TONGSQ_Q5_OVERRUN q) = true ∧
            t.get (TONGSQ_Q11_REFUSED q) = min (s.get (TONGSQ_Q11_REFUSED q) + 1) 0xFFFFFFFF ∧ t.queue q = x) ∧
        (s.on (TONGSQ_Q0_EN q) = true → hasRoom q s = true → ∃ t z c, exec (.wrOpen m v) s = .next t ∧ Stat t true 0 (.opened q) ∧
          (t.queue q).pkts = x.pkts ++ [z] ∧ z.lane = lane ∧ z.writer = .software k ∧ z.cells = [c] ∧ c < 32768 ∧ c ∉ busyCells s ∧
          z.words = 1 ∧ z.opened = true ∧ z.readable = false ∧ t.memWord (0x20000000 + c * 64) = 0xFFFF + type * 2 ^ 16 + sub * 2 ^ 20 ∧
          BytesKept (0x20000000 + c * 64) 4 s t))) ∧
    (s.wport k = .idle → ∃ t, exec (.wrData m v) s = .next t ∧ Stat t (s.on (TONGS_WR_STAT_OPEN k)) 4 .idle ∧
      t.on (PG_FAULT_bit 0x40 5) = true ∧ WordsKeptBut [stat, bad] s t) ∧
    (s.wport k = .refused → Ignored (.wrData m v)) ∧
    (s.wport k = .opened q → distinctIds x → x.openOf (.software k) = some p → p.offed = false → s.on (TONGSQ_Q0_EN q) = true → p.words < 16384 →
      p.words % 16 ≠ 0 → ∃ t z, exec (.wrData m v) s = .next t ∧ t.wport k = .opened q ∧ (t.queue q).find p.id = some z ∧ z.words = p.words + 1 ∧
        z.cells = p.cells ∧ z.opened = true ∧ z.writer = p.writer ∧ t.memWord (p.addr p.words) = v.toNat ∧ BytesKept (p.addr p.words) 4 s t) ∧
    (bit v.toNat 31 = true →
      (s.wport k = .idle → ∃ t, exec (.wrClose m v) s = .next t ∧ Stat t (s.on (TONGS_WR_STAT_OPEN k)) 4 .idle ∧
        t.on (PG_FAULT_bit 0x40 5) = true ∧ WordsKeptBut [stat, bad] s t) ∧
      (s.wport k = .refused → ∃ t, exec (.wrClose m v) s = .next t ∧ t.wport k = .idle ∧ t.mem = s.mem ∧ WordsKeptBut [] s t) ∧
      (s.wport k = .opened q → distinctIds x → x.openOf (.software k) = some p → p.done = false → (∀ c, c ∈ p.cells → c < 32768) →
        let len := 4 * (p.words - 1) - (if p.words ≤ 1 then 0 else v.toNat % 4)
        ∃ t z, exec (.wrClose m v) s = .next t ∧ Stat t false 0 .idle ∧ (t.queue q).find p.id = some z ∧ z.opened = false ∧ z.readable = true ∧
          z.words = p.words ∧ z.cells = p.cells ∧ t.memWord (p.addr 0) % 2 ^ 16 = len % 2 ^ 16 ∧
          (bit v.toNat 30 = true → bit (t.memWord (p.addr 0)) 30 = true) ∧ (p.bad ≠ [] → bit (t.memWord (p.addr 0)) 31 = true) ∧
          t.get (TONGSQ_Q14_CLOSED q) = (s.get (TONGSQ_Q14_CLOSED q) + 1) % 2 ^ 32)))

/-- R227, R228, R230, R233, R239, R302, R376: the owner's reads deliver a packet word by word with its SOP and EOP, and the packet is freed after its
EOP; no other master gets data; a skip abandons the packet; MARK, REWIND, RELEASE and FLUSH have their results and leave the mark, the reader and
the packets as their rules say; a notice is released when its hold ends; a tested cell returns or is retired. -/
def Obligations.QueueReadsAndMarks : Prop :=
  ∀ (s : State) (m : Master) (p : Packet) (q lane c : Nat) (pass : Bool), q < 512 → lane < 4 → c < 32768 →
  let k := masterIdx m
  let x := s.queue q
  let Result (i : Instr) (r : Nat) (Q : State → Prop) : Prop := ∃ t, exec i s = .next t ∧ (reply m t).resp = .ok ∧ t.get TONGS_QCMD_STAT_RESULT = r ∧ Q t
  let refused (t : State) : Prop := t.on (PG_FAULT_bit 0x40 4) = true ∧ t.tongs = s.tongs ∧ t.mem = s.mem
  (Serves m 0x40 s → (hasPort s m → s.get (TONGS_RD_SEL_QUEUE k) = q →
    let Reads (tag data : Nat) (Q : State → Prop) : Prop := ∃ t, exec (.rdData m .clean) s = .next t ∧ reply m t = { resp := .ok, data := w32 data } ∧
      t.get (TONGS_RD_TAG_TAG k) = tag ∧ Q t
    (ownerOf s q ≠ k → Reads 0 0 (fun t => t.on (PG_FAULT_bit 0x40 2) = true ∧ t.tongs = s.tongs)) ∧
    (ownerOf s q = k → x.reader = none → x.head = none → Reads 0 0 (fun t => t.tongs = s.tongs)) ∧
    (ownerOf s q = k → distinctIds x → x.find p.id = some p → p.opened = false → p.bad = [] →
      (x.reader = none → x.head = some p → 2 ≤ p.words → Reads 0xC0 (s.memWord (p.addr 0)) (fun t =>
        (t.queue q).reader = some { id := p.id, next := 1 } ∧ t.mem = s.mem ∧ (t.queue q).pkts = x.pkts)) ∧
      (x.reader = none → x.head = some p → p.words = 1 → Reads (0xE0 + 8 * b2n (bit (s.memWord (p.addr 0)) 31)) (s.memWord (p.addr 0)) (fun t =>
        (t.queue q).reader = none ∧ ∀ z, (t.queue q).find p.id = some z → z.done = true)) ∧
      (∀ n, 0 < n → n < p.words → x.reader = some { id := p.id, next := n } →
        (n + 1 < p.words → Reads 0x80 (s.memWord (p.addr n)) (fun t => (t.queue q).reader = some { id := p.id, next := n + 1 } ∧
          (t.queue q).pkts = x.pkts)) ∧
        (n + 1 = p.words → Reads (0xA0 + 8 * b2n (bit (s.memWord (p.addr 0)) 31)) (s.memWord (p.addr n)) (fun t => (t.queue q).reader = none ∧
          (x.held p = false → (t.queue q).find p.id = none) ∧ ∀ z, (t.queue q).find p.id = some z → z.done = true)))) ∧
    (ownerOf s q = k → ∃ t, exec (.skip m) s = .next t ∧ (reply m t).resp = .ok ∧ (t.queue q).reader = none ∧
      (x.reader = none → t.tongs = s.tongs)) ∧
    (ownerOf s q ≠ k → ∃ t, exec (.skip m) s = .next t ∧ (reply m t).resp = .ok ∧ t.tongs = s.tongs)) ∧
  (x.mark.isSome = true → Result (.mark m q lane) 2 refused) ∧
  (x.mark = none → Result (.mark m q lane) 1 (fun t => (t.queue q).pkts = x.pkts ∧ t.on (TONGSQ_Q5_MARK_SET q) = true ∧
    t.get (TONGSQ_Q5_MARK_LANE q) = lane ∧
    (t.queue q).mark = some ⟨lane, (x.pkts.find? (fun y => y.lane == lane && y.readable && !y.done)).map (fun y => y.id)⟩)) ∧
  (x.mark = none ∨ (∃ l i, x.mark = some ⟨l, i⟩ ∧ l ≠ lane) → Result (.rewind m q lane) 2 refused) ∧
  (∀ i, x.mark = some ⟨lane, i⟩ → Result (.rewind m q lane) 1 (fun t => (t.queue q).mark = x.mark ∧
    (i.isSome = true → ∀ z, z ∈ (t.queue q).pkts → ((t.queue q).held z = true → z.done = false) ∧
      ((t.queue q).held z = false → z.lane = lane → z.readable = true → z.done = true)))) ∧
  Result (.release m q) 1 (fun t => (t.queue q).mark = none ∧ t.on (TONGSQ_Q5_MARK_SET q) = false ∧ ∀ b, b ∈ t.bursts → b.queue = q → b.counted < b.post → b.markLost = true) ∧
  Result (.flush m q) 1 (fun t => (t.queue q).mark = none ∧ (t.queue q).reader = none ∧
    ∀ z, z ∈ (t.queue q).pkts → ¬ (z.readable = true ∧ z.opened = false))) ∧
  (releasable s q = true → s.on (TONGSQ_Q5_NOTICE q) = true → ∃ t, exec (.noticeRelease q) s = .next t ∧ (t.queue q).released = true ∧
    (t.queue q).pkts = x.pkts ∧ WordsKeptBut [] s t) ∧
  (releasable s q = false → exec (.noticeRelease q) s = .next s) ∧
  (c ∉ s.tongs.withdrawn → exec (.cellTestDone c pass) s = .next s) ∧
  (c ∈ s.tongs.withdrawn →
    (∃ t, exec (.cellTestDone c true) s = .next t ∧ t.tongs.withdrawn = s.tongs.withdrawn.erase c ∧ (t.cellErr c).tested = true ∧
      t.tongs.queues = s.tongs.queues) ∧
    (∀ j, j < 256 → s.on (TONGS_RETIRE_VALID j) = false → (∀ i, i < j → s.on (TONGS_RETIRE_VALID i) = true) →
      ∃ t, exec (.cellTestDone c false) s = .next t ∧ t.tongs.withdrawn = s.tongs.withdrawn.erase c ∧ t.on (TONGS_RETIRE_VALID j) = true ∧
        t.get (TONGS_RETIRE_CELL j) = c ∧ t.on (PG_FAULT_bit 0x40 6) = true ∧ Recorded 0x0090 s t))

/-- R229: a read of a queue by a master that does not own it, by its owner while it has no readable packet, or that meets WAIT returns data 0 with VALID
= 0; only one that meets WAIT sets WAIT, and none moves the reader's position. -/
def Obligations.ReadsThatFindNoWord : Prop :=
  ∀ (s : State) (m : Master) (q : Nat) (x : Sense) (r : Reader) (p : Packet), Serves m 0x40 s → hasPort s m → q < 512 →
  s.get (TONGS_RD_SEL_QUEUE (masterIdx m)) = q →
  let k := masterIdx m
  let y := s.queue q
  let Finds (waits : Bool) : Prop := ∃ t, exec (.rdData m x.up) s = .next t ∧ reply m t = { resp := .ok, data := 0 } ∧
    bit (t.get (TONGS_RD_TAG_TAG k)) 7 = false ∧ bit (t.get (TONGS_RD_TAG_TAG k)) 1 = waits ∧ (t.queue q).reader = y.reader
  (ownerOf s q ≠ k → Finds false) ∧
  (ownerOf s q = k → y.reader = none → y.head = none → Finds false) ∧
  (ownerOf s q = k → y.reader = some r → y.find r.id = some p → p.published ≤ r.next → (r.cutThrough = true → p.opened = true ∨ r.next < p.words) →
    Finds true)

/-! ### The event controller (spec/14) -/

/-- R53, R241 to R246, R252, R253: an assertion of a pulse source is counted by the linked counters that follow it, enabled or not, and pends at each
of its targets or is coalesced; PEND of a level-sensed source follows its assertion; an interval of REARM runs from the last append, and its end
changes nothing by itself; an append takes an eligible source of the highest level into the core's ring; while the bus stands only a
wake latch takes an assertion, which sets it at the next AON edge. -/
def Obligations.SourcesPendAndAppend : Prop :=
  ∀ (s : State) (n k t : Nat), n < 640 → k < 5 → t < 5 →
  let src1 := (EVC_SRC1_PEND n).addr
  let p := s.pair n k
  let Heard (u : State) : Prop := ∀ j, j < 16 → u.lc j =
    if s.get (LC_CFG_SRC j) = 2 ∧ s.get (LC_CFG_SEL j) = n then { s.lc j with edges := (s.lc j).edges + 1 } else s.lc j
  (isPulse n = true → s.busStopped = false →
    (sourcePresent s.variant n = false → exec (.sourceAssert n) s = .next s) ∧
    (sourcePresent s.variant n = true → canPend s n = false → ∃ u, exec (.sourceAssert n) s = .next u ∧ u = { s with lcs := u.lcs } ∧ Heard u) ∧
    (sourcePresent s.variant n = true → canPend s n = true →
      ∃ u, exec (.sourceAssert n) s = .next u ∧ u = { s with regs := u.regs, pairs := u.pairs, lcs := u.lcs } ∧ WordsKept [src1] s u ∧ Heard u ∧
        (targeted s n k = true → u.on (pendBit n k) = true ∧
          (s.on (pendBit n k) = false → u.pair n k = { p with coal := 0, lost := false, time := s.tb, waked := false }) ∧
          (s.on (pendBit n k) = true → u.pair n k = if p.coal < 255 then { p with coal := p.coal + 1 } else { p with lost := true })) ∧
        (targeted s n k = false → u.on (pendBit n k) = s.on (pendBit n k) ∧ u.pair n k = p) ∧ u.on (outBit n k) = s.on (outBit n k))) ∧
  (isPulse n = false → sourcePresent s.variant n = true → levelSensed s n = true → s.busStopped = false →
    let high := canPend s n = true ∧ assertedNow s n = true ∧ targeted s n k = true ∧ s.on (outBit n k) = false
    ∃ u, exec (.sourceAssert n) s = .next u ∧ WordsKept [src1] s u ∧ (u.source n).level = sourceLevel s n ∧
      (high → u.on (pendBit n k) = true) ∧ (¬ high → p.stays = false → u.on (pendBit n k) = false)) ∧
  (exec (.rearmExpire n k) s = .next s ∧ (p.last = none → rearmPassed s n k = true) ∧
    ∀ a, p.last = some a → (rearmPassed s n k = true ↔ s.get (EVC_SRC0_REARM n) = 0 ∨ a + 2 ^ (s.get (EVC_SRC0_REARM n) + 6) ≤ s.tb)) ∧
  (∀ j, appendOpen s t = true → winner s t = some j → j < 640 →
    eligible s j t = true ∧ (∀ i, i ∈ pendingSources s t → eligible s i t = true → s.get (EVC_SRC0_LVL i) ≤ s.get (EVC_SRC0_LVL j)) ∧
    let a := 0x30000000 + t * 0x10000 + s.get (EVC_RQ_CFG_BASE t) * 2048 + 8 * s.get (EVC_RQ_IDX_WR t)
    (t < 4 → ∃ u, exec (.recordAppend t) s = .next u ∧ u.memWord a = recordWord0 s j t % 2 ^ 32 ∧ u.memWord (a + 4) = recordWord1 s j t ∧
      BytesKept a 8 s u ∧ u.get (EVC_RQ_IDX_WR t) = (s.get (EVC_RQ_IDX_WR t) + 1) % 256 ∧ u.get (EVC_RQ_IDX_COUNT t) = s.get (EVC_RQ_IDX_COUNT t) + 1 ∧
      u.on (pendBit j t) = false ∧ u.on (outBit j t) = true ∧ (u.pair j t).last = some s.tb ∧ u.get (EVC_SRC2_LAST_TB j) = recordWord1 s j t ∧
      u.get (EVC_SRC3_RECORDS j) = (s.get (EVC_SRC3_RECORDS j) + 1) % 2 ^ 16 ∧
      WordsKept [(EVC_RQ_IDX_WR t).addr, (EVC_SRC1_PEND j).addr, (EVC_SRC2_LAST_TB j).addr, (EVC_SRC3_RECORDS j).addr] s u) ∧
    (t = 4 → ∃ u, exec (.recordAppend t) s = .next u ∧
      ((u.on (outBit j 4) = true ∧ u.get (EVC_RQ_IDX_COUNT 4) = s.get (EVC_RQ_IDX_COUNT 4) + 1) ∨
       (u.on EVC_HOST_RQ_STALL = true ∧ u.on (PG_FAULT_bit 0x44 7) = true ∧ u.get (EVC_RQ_IDX_COUNT 4) = s.get (EVC_RQ_IDX_COUNT 4))))) ∧
  (let wakes := s.busStopped = true ∧ s.on (EVC_SRC0_WAKE n) = true ∧ sourcePresent s.variant n = true
   (wakes → ∃ u, exec (.wakeLatch n) s = .next u ∧ u = { s with sources := u.sources } ∧ u.source n = { s.source n with set := true } ∧
      (∀ j, j ≠ n → u.source j = s.source j) ∧ ((aonEdge u).source n).latch = some (match (s.source n).latch with
        | none => { time := s.tb }
        | some l => if l.count < 255 then { l with count := l.count + 1 } else { l with lost := true })) ∧
   (¬ wakes → exec (.wakeLatch n) s = .next s))

/-- R247 to R250, R254: a core takes the oldest record of its ring into its stack, a byte of it with bad parity setting TCM_PAR_EXT (R262), an EOI of the level on top completes it, any other is an ORDER
error that freezes the stack, while which EOIs are counted; a stack reset completes everything; a write of an entry drops the PENDs it no longer
targets. -/
def Obligations.TakesAndCompletions : Prop :=
  ∀ (s : State) (m : Master) (t level n : Nat) (v : Word) (y : Sense), Serves m 0x44 s → t < 5 → level < 16 → n < 640 →
  let x := s.target t
  let mine := masterIdx m = t ∨ m = .dbg
  let absent := cores s.variant ≤ t ∧ t ≠ 4
  let a := 0x30000000 + t * 0x10000 + s.get (EVC_RQ_CFG_BASE t) * 2048 + 8 * s.get (EVC_RQ_IDX_RD t)
  let w := s.memWord a
  let frozen := s.on (EVC_STACK_FROZEN t) = true
  let Order (cause named : Nat) (u : State) : Prop := u.on (EVC_STACK_FROZEN t) = true ∧ u.on (PG_FAULT_bit 0x44 t) = true ∧
    u.on (EVC_ORDER_INFO_VALID t) = true ∧ u.get (EVC_ORDER_INFO_CAUSE t) = cause ∧ u.get (EVC_ORDER_INFO_NAMED t) = named ∧
    u.get (EVC_ORDER_INFO_TOP t) = x.top % 16 ∧ Recorded 0x0030 s u
  (t < cores s.variant → mine →
    (s.get (EVC_RQ_IDX_COUNT t) = 0 → ∃ u, exec (.take m ⟨t, y⟩) s = .next u ∧ reply m u = { resp := .ok, data := 0 } ∧ Writes m [] s u) ∧
    (s.get (EVC_RQ_IDX_COUNT t) ≠ 0 → ∃ u, exec (.take m ⟨t, y⟩) s = .next u ∧ (y.par = true → u.on (PG_FAULT_bit (0x48 + t) 3) = true) ∧
      reply m u = { resp := .ok, data := w32 w } ∧
      u.get (EVC_TAKE_TB_TB t) = s.memWord (a + 4) ∧ u.get (EVC_RQ_IDX_RD t) = (s.get (EVC_RQ_IDX_RD t) + 1) % 256 ∧
      u.get (EVC_RQ_IDX_COUNT t) = s.get (EVC_RQ_IDX_COUNT t) - 1 ∧
      (¬ frozen → x.stack.length < 15 → (u.target t).stack = (w / 2 ^ 10 % 16, w % 2 ^ 10) :: x.stack ∧
        WordsKept ([(EVC_RQ_IDX_RD t).addr, (EVC_TAKE_TB_TB t).addr, (EVC_STACK_TOP t).addr] ++ if y.par then [(PG_FAULT_bit (0x48 + t) 3).addr] else []) s u) ∧
      (¬ frozen → 15 ≤ x.stack.length → Order 3 0 u ∧ (u.target t).stack = x.stack) ∧
      (frozen → (u.target t).stack = x.stack ∧ (u.target t).unpushed = x.unpushed ++ [w % 2 ^ 10]))) ∧
  (absent → (∃ u, exec (.eoi m t level) s = .next u ∧ Writes m [] s u) ∧ ∃ u, exec (.stackReset m t) s = .next u ∧ Writes m [] s u) ∧
  (¬ absent → ¬ mine → ∃ u, exec (.eoi m t level) s = .next u ∧ u.on (PG_FAULT_bit 0x44 6) = true ∧ u.targets = s.targets ∧
    WordsKeptBut [(PG_FAULT_bit 0x44 6).addr] s u) ∧
  (¬ absent → mine → frozen → ∃ u, exec (.eoi m t level) s = .next u ∧ u.targets = s.targets ∧
    u.get (EVC_ORDER_INFO_DISCARDED t) = min (s.get (EVC_ORDER_INFO_DISCARDED t) + 1) 0xFFFF ∧ WordsKeptBut [(EVC_ORDER_INFO_VALID t).addr] s u) ∧
  (¬ absent → mine → ¬ frozen → x.stack = [] → ∃ u, exec (.eoi m t level) s = .next u ∧ Order 2 level u ∧ u.targets = s.targets) ∧
  (∀ l j rest, ¬ absent → mine → ¬ frozen → x.stack = (l, j) :: rest → j < 640 →
    (l = level → ∃ u, exec (.eoi m t level) s = .next u ∧ (reply m u).resp = .ok ∧ (u.target t).stack = rest ∧ u.on (outBit j t) = false ∧
      u.on (EVC_STACK_FROZEN t) = false ∧ ∀ d, d ≠ t → u.target d = s.target d) ∧
    (l ≠ level → ∃ u, exec (.eoi m t level) s = .next u ∧ Order 1 level u ∧ u.targets = s.targets)) ∧
  (¬ absent → ∃ u, exec (.stackReset m t) s = .next u ∧ (u.target t).stack = [] ∧ (u.target t).unpushed = [] ∧ u.on (EVC_STACK_FROZEN t) = false ∧
    u.get (EVC_STACK_DEPTH t) = 0 ∧ ∀ j, j < 640 → j ∈ x.stack.map (fun e => e.2) ∨ j ∈ x.unpushed → u.on (outBit j t) = false) ∧
  (let src0 := (EVC_SRC0_LVL n).addr
   let new := v &&& w32 (presentMask s.variant src0)
   presentMask s.variant src0 ≠ 0 → ∃ u, exec (.sourceEntryWrite m n v) s = .next u ∧ (reply m u).resp = .ok ∧
    u.word src0 &&& 0xFFF0001F = new &&& 0xFFF0001F ∧ WordsKept [src0, (EVC_SRC1_PEND n).addr] s u ∧
    (∀ d, d < 5 → bit (s.word src0).toNat d = true → bit new.toNat d = false → u.on (pendBit n d) = false) ∧
    (u.get (EVC_SRC0_LVL n) = 0 → u.get (EVC_SRC1_PEND n) = 0))

/-! ### Glemi-32 (spec/15, spec/16) -/

namespace Sys2Proof.Claims

/-- Core `n` executes the instruction of `k` words at its PC now: it runs, takes no EVENT, and every word may be fetched, in its mode and past
the breakpoints (R260, R261, R265, R270). -/
def Executes (n k : Nat) (s : State) : Prop :=
  coreRuns s n = true ∧ eventDue s n = false ∧ s.steps = [] ∧
  ∀ i, i < k → fetchable s n ((s.core n).pc + w32 (4 * i)).toNat = true ∧ breakpoint s n ((s.core n).pc + w32 (4 * i)).toNat [1] = false ∧
    ((s.core n).supervisor = true ∨ userFetch n ((s.core n).pc + w32 (4 * i)).toNat = true)

/-- `t` is `s` but for core `n`. -/
def OnlyCore (n : Nat) (s t : State) : Prop := t = { s with cores := t.cores } ∧ ∀ m, m ≠ n → t.core m = s.core m

/-- The state in which a fetched instruction acts: the vector of an exception, if one was awaited, has been fetched. -/
def fetchState (n : Nat) (s : State) : State := s.setCore n { s.core n with vec := none }

/-- `t` is `s` but for registers, STATUS and PC of core `n`: PC is `pc`, register r is `w r`, bit b of STATUS is `st b`. -/
def CoreMoves (n : Nat) (pc : Word) (w : Nat → Word) (st : Nat → Bool) (s t : State) : Prop :=
  OnlyCore n s t ∧ t.core n = { s.core n with w := (t.core n).w, status := (t.core n).status, pc := pc } ∧
  (∀ r, r < 16 → t.reg n r = w r) ∧ ∀ b, b < 32 → (t.core n).status.getLsbD b = st b

/-- What an instruction that reaches only registers, STATUS and PC of core `n` leaves. -/
def CoreAfter (n : Nat) (pc : Word) (w : Nat → Word) (st : Nat → Bool) (s t : State) : Prop := CoreMoves n pc w st (fetchState n s) t

/-- The registers with one written. -/
def wrote (s : State) (n rd : Nat) (v : Word) (r : Nat) : Word := if r = rd then v else s.reg n r

/-- Bit `b` of STATUS as it was. -/
def stWas (s : State) (n b : Nat) : Bool := (s.core n).status.getLsbD b

/-- NZ of a result. -/
def stNZ (s : State) (n : Nat) (r : Word) (b : Nat) : Bool :=
  if b = 31 then r.getLsbD 31 else if b = 30 then decide (r = 0) else stWas s n b

/-- NZ of a result, and C. -/
def stNZC (s : State) (n : Nat) (r : Word) (c : Bool) (b : Nat) : Bool := if b = 29 then c else stNZ s n r b

/-- NZ of a result, and V. -/
def stNZV (s : State) (n : Nat) (r : Word) (v : Bool) (b : Nat) : Bool := if b = 28 then v else stNZ s n r b

/-- NZCV. -/
def stNZCV (s : State) (n : Nat) (r : Word) (c v : Bool) (b : Nat) : Bool := if b = 28 then v else stNZC s n r c b

/-- A signed number outside 32 bits. -/
def overflows (i : Int) : Bool := decide (i < -2147483648 ∨ 2147483647 < i)

/-- The address after the instruction of core `n`. -/
def nextPc (s : State) (n : Nat) : Word := (s.core n).pc + 4

/-- x + y + k with NZCV: C is the carry out of bit 31, V the signed overflow. -/
def AddsTo (n rd : Nat) (x y : Word) (k : Nat) (s t : State) : Prop :=
  CoreAfter n (nextPc s n) (wrote s n rd (x + y + w32 k))
    (stNZCV s n (x + y + w32 k) (decide (4294967296 ≤ x.toNat + y.toNat + k)) (overflows (x.toInt + y.toInt + k))) s t

/-- The flags of x − y − k: C is 1 when no borrow occurs. -/
def subStatus (s : State) (n : Nat) (x y : Word) (k : Nat) : Nat → Bool :=
  stNZCV s n (x - y - w32 k) (decide (y.toNat + k ≤ x.toNat)) (overflows (x.toInt - y.toInt - k))

/-- C of core `n`, as a number. -/
def carryIn (s : State) (n : Nat) : Nat := if stWas s n 29 then 1 else 0

/-- An 18-bit immediate, sign-extended. -/
def imm18 (imm : Nat) : Word := (BitVec.ofNat 18 imm).signExtend 32

end Sys2Proof.Claims

/-- R273, R274, R278: ADD, ADC, SUB, SBC, CMP, NEG, ADDI and CMPI complete: the sum or difference stands in rd (nothing is written by CMP and
CMPI), NZCV are those of R273, the PC is past the instruction, and nothing else changes. -/
def Sys2Proof.Claims.ArithmeticCompletes : Prop :=
  ∀ (s : State) (n rd ra rb imm : Nat), Executes n 1 s → rd < 16 → ra < 16 → rb < 16 → imm < 2 ^ 18 →
  (∃ t, exec (.add n rd ra rb) s = .next t ∧ AddsTo n rd (s.reg n ra) (s.reg n rb) 0 s t) ∧
  (∃ t, exec (.adc n rd ra rb) s = .next t ∧ AddsTo n rd (s.reg n ra) (s.reg n rb) (carryIn s n) s t) ∧
  (∃ t, exec (.addi n rd ra imm) s = .next t ∧ AddsTo n rd (s.reg n ra) (imm18 imm) 0 s t) ∧
  (∃ t, exec (.sub n rd ra rb) s = .next t ∧
    CoreAfter n (nextPc s n) (wrote s n rd (s.reg n ra - s.reg n rb)) (subStatus s n (s.reg n ra) (s.reg n rb) 0) s t) ∧
  (∃ t, exec (.sbc n rd ra rb) s = .next t ∧
    CoreAfter n (nextPc s n) (wrote s n rd (s.reg n ra - s.reg n rb - w32 (1 - carryIn s n)))
      (subStatus s n (s.reg n ra) (s.reg n rb) (1 - carryIn s n)) s t) ∧
  (∃ t, exec (.cmp n ra rb) s = .next t ∧
    CoreAfter n (nextPc s n) (s.reg n) (subStatus s n (s.reg n ra) (s.reg n rb) 0) s t) ∧
  (∃ t, exec (.cmpi n ra imm) s = .next t ∧
    CoreAfter n (nextPc s n) (s.reg n) (subStatus s n (s.reg n ra) (imm18 imm) 0) s t) ∧
  (∃ t, exec (.neg n rd ra) s = .next t ∧
    CoreAfter n (nextPc s n) (wrote s n rd (0 - s.reg n ra)) (subStatus s n 0 (s.reg n ra) 0) s t)

/-- R273, R274, R278: AND, OR, XOR, ANDN, NOT, TST, ANDI, ORI, XORI, MULHS and MULHU complete with NZ of their result; C, V and every other
bit of STATUS stay. -/
def Sys2Proof.Claims.LogicCompletes : Prop :=
  ∀ (s : State) (n rd ra rb imm : Nat), Executes n 1 s → rd < 16 → ra < 16 → rb < 16 → imm < 2 ^ 18 →
  let done (i : Instr) (r : Word) : Prop := ∃ t, exec i s = .next t ∧ CoreAfter n (nextPc s n) (wrote s n rd r) (stNZ s n r) s t
  let x := s.reg n ra
  let y := s.reg n rb
  done (.andR n rd ra rb) (x &&& y) ∧ done (.orR n rd ra rb) (x ||| y) ∧ done (.xorR n rd ra rb) (x ^^^ y) ∧
  done (.andnR n rd ra rb) (x &&& ~~~y) ∧ done (.notR n rd ra) (~~~x) ∧
  done (.andi n rd ra imm) (x &&& w32 imm) ∧ done (.ori n rd ra imm) (x ||| w32 imm) ∧ done (.xori n rd ra imm) (x ^^^ w32 imm) ∧
  done (.mulhs n rd ra rb) (((x.signExtend 64) * (y.signExtend 64)).extractLsb' 32 32) ∧
  done (.mulhu n rd ra rb) (((x.zeroExtend 64) * (y.zeroExtend 64)).extractLsb' 32 32) ∧
  ∃ t, exec (.tst n ra rb) s = .next t ∧ CoreAfter n (nextPc s n) (s.reg n) (stNZ s n (x &&& y)) s t

namespace Sys2Proof.Claims

/-- LSL by k (R275): the result, and C. -/
def lslOf (x : Word) (k : Nat) (c : Bool) : Word × Bool :=
  if k = 0 then (x, c) else if k ≤ 31 then (x <<< k, x.getLsbD (32 - k)) else if k = 32 then (0, x.getLsbD 0) else (0, false)

/-- LSR by k. -/
def lsrOf (x : Word) (k : Nat) (c : Bool) : Word × Bool :=
  if k = 0 then (x, c) else if k ≤ 31 then (x >>> k, x.getLsbD (k - 1)) else if k = 32 then (0, x.getLsbD 31) else (0, false)

/-- ASR by k. -/
def asrOf (x : Word) (k : Nat) (c : Bool) : Word × Bool :=
  if k = 0 then (x, c) else if k ≤ 31 then (x.sshiftRight k, x.getLsbD (k - 1))
  else (if x.getLsbD 31 then 0xFFFFFFFF else 0, x.getLsbD 31)

/-- ROR by k. -/
def rorOf (x : Word) (k : Nat) (c : Bool) : Word × Bool :=
  if k = 0 then (x, c) else (x.rotateRight (k % 32), (x.rotateRight (k % 32)).getLsbD 31)

end Sys2Proof.Claims

/-- R275, R278: the shifts and rotations complete, by a register's whole unsigned value or by an immediate of 0 to 31, with the results and C
of R275's table and NZ of the result. -/
def Sys2Proof.Claims.ShiftsComplete : Prop :=
  ∀ (s : State) (n rd ra rb k : Nat), Executes n 1 s → rd < 16 → ra < 16 → rb < 16 → k < 32 →
  let done (i : Instr) (r : Word × Bool) : Prop :=
    ∃ t, exec i s = .next t ∧ CoreAfter n (nextPc s n) (wrote s n rd r.1) (stNZC s n r.1 r.2) s t
  let x := s.reg n ra
  let y := (s.reg n rb).toNat
  let c := stWas s n 29
  done (.lsl n rd ra rb) (lslOf x y c) ∧ done (.lsr n rd ra rb) (lsrOf x y c) ∧
  done (.asr n rd ra rb) (asrOf x y c) ∧ done (.ror n rd ra rb) (rorOf x y c) ∧
  done (.lsli n rd ra k) (lslOf x k c) ∧ done (.lsri n rd ra k) (lsrOf x k c) ∧
  done (.asri n rd ra k) (asrOf x k c) ∧ done (.rori n rd ra k) (rorOf x k c)

/-- R273, R274, R275, R278: the arithmetic, compare, logic and shift instructions complete with their results and flags. -/
def Obligations.IntegerOperationsComplete : Prop := Sys2Proof.Claims.ArithmeticCompletes ∧ Sys2Proof.Claims.LogicCompletes ∧ Sys2Proof.Claims.ShiftsComplete

namespace Sys2Proof.Claims

/-- The quotient and remainder of DIVS (R277). -/
def divsOf (x y : Word) : Word × Word :=
  if y = 0 then (if x.toInt < 0 then 0x80000000 else 0x7FFFFFFF, x)
  else (BitVec.ofInt 32 (x.toInt.tdiv y.toInt), BitVec.ofInt 32 (x.toInt.tmod y.toInt))

/-- The quotient and remainder of DIVU. -/
def divuOf (x y : Word) : Word × Word := if y = 0 then (0xFFFFFFFF, x) else (x / y, x % y)

/-- The registers after a division: the remainder is written first, the quotient second. -/
def divRegs (s : State) (n rd rr : Nat) (q : Word × Word) (r : Nat) : Word :=
  if r = rd then q.1 else if r = rr then q.2 else s.reg n r

/-- STATUS after a division: N and Z of the quotient, V, and DZ set by a zero divisor. -/
def divStatus (s : State) (n : Nat) (q : Word) (v z : Bool) (b : Nat) : Bool :=
  if b = 27 then (z || stWas s n 27) else stNZV s n q v b

end Sys2Proof.Claims

/-- R276, R277: MUL, DIVS and DIVU complete with the results of R277's table for every divisor, 0 included; with DZTRAP = 1 a zero divisor
writes the same results and then raises DIVZERO, with EPC at the next instruction. -/
def Obligations.MultiplyDivideComplete : Prop :=
  ∀ (s : State) (n rd rr ra rb : Nat), Executes n 1 s → rd < 16 → rr < 16 → ra < 16 → rb < 16 →
  let x := s.reg n ra
  let y := s.reg n rb
  let v := decide (x = 0x80000000 ∧ y = 0xFFFFFFFF)
  (∃ t, exec (.mul n rd ra rb) s = .next t ∧
    CoreAfter n (nextPc s n) (wrote s n rd (x * y)) (stNZV s n (x * y) (overflows (x.toInt * y.toInt))) s t) ∧
  ((y ≠ 0 ∨ stWas s n 7 = false) →
    (∃ t, exec (.divs n rd rr ra rb) s = .next t ∧
      CoreAfter n (nextPc s n) (divRegs s n rd rr (divsOf x y)) (divStatus s n (divsOf x y).1 v (decide (y = 0))) s t) ∧
    (∃ t, exec (.divu n rd rr ra rb) s = .next t ∧
      CoreAfter n (nextPc s n) (divRegs s n rd rr (divuOf x y)) (divStatus s n (divuOf x y).1 false (decide (y = 0))) s t)) ∧
  (y = 0 → stWas s n 7 = true → fetchable s n ((s.core n).vbase + 0x70).toNat = true →
    (∃ t, exec (.divs n rd rr ra rb) s = .next t ∧ (∀ r, r < 16 → t.reg n r = divRegs s n rd rr (divsOf x y) r) ∧
      (∀ b, b < 32 → (t.core n).estatus.getLsbD b = divStatus s n (divsOf x y).1 false true b) ∧
      (t.core n).epc = nextPc s n ∧ (t.core n).ecause = 7 ∧ (t.core n).pc = (s.core n).vbase + 0x70) ∧
    (∃ t, exec (.divu n rd rr ra rb) s = .next t ∧ (∀ r, r < 16 → t.reg n r = divRegs s n rd rr (divuOf x y) r) ∧
      (∀ b, b < 32 → (t.core n).estatus.getLsbD b = divStatus s n (divuOf x y).1 false true b) ∧
      (t.core n).epc = nextPc s n ∧ (t.core n).ecause = 7 ∧ (t.core n).pc = (s.core n).vbase + 0x70))

/-- R274, R278, R283: the moves, extensions, CLZ, MOVI, MOVH, ADR and NOP complete and change no flag. -/
def Obligations.MovesComplete : Prop :=
  ∀ (s : State) (n rd ra imm : Nat), Executes n 1 s → rd < 16 → ra < 16 → imm < 2 ^ 18 →
  let done (i : Instr) (v : Word) : Prop := ∃ t, exec i s = .next t ∧ CoreAfter n (nextPc s n) (wrote s n rd v) (stWas s n) s t
  let x := s.reg n ra
  done (.mov n rd ra) x ∧
  done (.sextb n rd ra) ((x.extractLsb' 0 8).signExtend 32) ∧ done (.sexth n rd ra) ((x.extractLsb' 0 16).signExtend 32) ∧
  done (.zextb n rd ra) ((x.extractLsb' 0 8).zeroExtend 32) ∧ done (.zexth n rd ra) ((x.extractLsb' 0 16).zeroExtend 32) ∧
  done (.clz n rd ra) x.clz ∧
  done (.movi n rd imm) (imm18 imm) ∧
  (imm < 2 ^ 16 → done (.movh n rd imm) ((s.reg n rd &&& 0xFFFF) ||| (w32 imm <<< 16))) ∧
  done (.adr n rd imm) ((s.core n).pc + 4 * imm18 imm) ∧
  ∃ t, exec (.nop n) s = .next t ∧ CoreAfter n (nextPc s n) (s.reg n) (stWas s n) s t

namespace Sys2Proof.Claims

/-- Core `n` may make these data accesses (store, address) now: in user mode R261 allows each, and no breakpoint matches. -/
def MayAccess (n : Nat) (acc : List (Bool × Nat)) (s : State) : Prop :=
  ∀ x, x ∈ acc → ((s.core n).supervisor = true ∨ userData s n x.1 x.2 = true) ∧
    breakpoint s n x.2 (if x.1 then [3, 4] else [2, 4]) = false

/-- STATUS with NR set (R259). -/
def stNR (s : State) (n b : Nat) : Bool := if b = 26 then true else stWas s n b

/-- The effective address of an I-format access. -/
def dataAddr (s : State) (n ra imm : Nat) : Nat := (s.reg n ra + imm18 imm).toNat

end Sys2Proof.Claims

/-- R259, R279: a load whose access ends OK writes the byte, half-word or word, extended as its mnemonic says, and one that ends NOT_READY
writes 0 and sets NR; POP then moves sp up by 4, and with rd = w15 sp takes the loaded value. Beside core n the state is what the read on the
bus leaves. -/
def Sys2Proof.Claims.LoadsComplete : Prop :=
  ∀ (s : State) (n rd ra imm : Nat) (x : Sense), Executes n 1 s → rd < 16 → ra < 16 → imm < 2 ^ 18 →
  let load (i : Instr) (a z : Nat) (w : State → Word → Nat → Word) : Prop :=
    MayAccess n [(false, a)] s → ∀ r, r = busRead n a z x (fetchState n s) → r.2.steps = [] →
    (r.1.resp = .ok → (x.par && ownTcm n a) = false →
      ∃ t u, exec i s = .next t ∧ Leaves s u t ∧ CoreMoves n (nextPc r.2 n) (w r.2 r.1.data) (stWas r.2 n) r.2 u) ∧
    (r.1.resp = .notReady → ∃ t u, exec i s = .next t ∧ Leaves s u t ∧ CoreMoves n (nextPc r.2 n) (w r.2 0) (stNR r.2 n) r.2 u)
  let a := dataAddr s n ra imm
  load (.ldb n rd ra imm x) a 1 (fun u d => wrote u n rd ((d.extractLsb' 0 8).signExtend 32)) ∧
  load (.ldbu n rd ra imm x) a 1 (fun u d => wrote u n rd d) ∧
  load (.ldh n rd ra imm x) a 2 (fun u d => wrote u n rd ((d.extractLsb' 0 16).signExtend 32)) ∧
  load (.ldhu n rd ra imm x) a 2 (fun u d => wrote u n rd d) ∧
  load (.ldw n rd ra imm x) a 4 (fun u d => wrote u n rd d) ∧
  load (.pop n rd x) (s.reg n 15).toNat 4 (fun u d r => if r = rd then d else if r = 15 then s.reg n 15 + 4 else u.reg n r)

/-- R259, R279, R280: a store whose access ends OK leaves what the write on the bus leaves, from the state whose PC is past the instruction
(and, for PUSH, whose sp is down by 4); one that ends NOT_READY also sets NR. SWP reads and then writes one word of a TCM or of the AON
retained scratch, and rd takes the word read. -/
def Sys2Proof.Claims.StoresComplete : Prop :=
  ∀ (s : State) (n rd ra imm : Nat) (x : Sense), Executes n 1 s → rd < 16 → ra < 16 → imm < 2 ^ 18 →
  let store (i : Instr) (a z v : Nat) (w : Nat → Word) : Prop :=
    MayAccess n [(true, a)] s → ∃ u, CoreMoves n (nextPc s n) w (stWas s n) (fetchState n s) u ∧
    ∀ r, r = busWrite n a z v u → r.2.steps = [] →
    (r.1.resp = .ok → ∃ t, exec i s = .next t ∧ Leaves s r.2 t) ∧
    (r.1.resp = .notReady → ∃ t u', exec i s = .next t ∧ Leaves s u' t ∧
      CoreMoves n (r.2.core n).pc (r.2.reg n) (stNR r.2 n) r.2 u')
  let a := dataAddr s n ra imm
  let v := (s.reg n rd).toNat
  store (.stb n rd ra imm) a 1 (v % 2 ^ 8) (s.reg n) ∧ store (.sth n rd ra imm) a 2 (v % 2 ^ 16) (s.reg n) ∧
  store (.stw n rd ra imm) a 4 v (s.reg n) ∧
  store (.push n rd) (s.reg n 15 - 4).toNat 4 v (wrote s n 15 (s.reg n 15 - 4)) ∧
  (∀ b, b = (s.reg n ra).toNat → MayAccess n [(false, b), (true, b)] s → b % 4 = 0 → x.par = false →
    (ownTcm n b = true ∨ anyTcm s b = true ∨ 0x28008000 ≤ b ∧ b ≤ 0x2800FFFF) →
    ∃ t, exec (.swp n rd ra x) s = .next t ∧
      t.core n = { (fetchState n s).core n with w := (t.core n).w, pc := nextPc s n } ∧
      (∀ r, r < 16 → t.reg n r = wrote s n rd (w32 (s.memWord (physOf s n b))) r) ∧
      t.memWord (physOf s n b) = v ∧ BytesKept (physOf s n b) 4 s t ∧
      t = { s with mem := t.mem, cores := t.cores } ∧ ∀ m, m ≠ n → t.core m = s.core m)

/-- R259, R279, R280: loads, pops, stores, pushes and swaps complete with their results and frames. -/
def Obligations.LoadsAndStoresComplete : Prop := Sys2Proof.Claims.LoadsComplete ∧ Sys2Proof.Claims.StoresComplete

namespace Sys2Proof.Claims

/-- The conditions of B (R281). -/
def condTrue (s : State) (n cond : Nat) : Prop :=
  let z := stWas s n 30
  let c := stWas s n 29
  let neg := stWas s n 31
  let v := stWas s n 28
  match cond with
  | 0 => z = true | 1 => c = true | 2 => neg = true | 3 => v = true
  | 4 => c = true ∧ z = false | 5 => neg = v | 6 => z = false ∧ neg = v | 7 => True
  | 8 => z = false | 9 => c = false | 10 => neg = false | 11 => v = false
  | 12 => c = false ∨ z = true | 13 => neg ≠ v | 14 => z = true ∨ neg ≠ v
  | _ => False

/-- Entry to an exception of core `n` (R263, R264): EPC, ESTATUS, ECAUSE and, where R263 names an address, EADDR are written; MODE becomes 1,
IE and REPACT become 0, every other bit of STATUS stays; the PC is the handler of the code. Nothing else changes but the draw that an open
EADDR takes. -/
def Traps (n code : Nat) (epc : Word) (addr : Option Word) (s t : State) : Prop :=
  t = { s with cores := t.cores, draws := t.draws } ∧ (∀ m, m ≠ n → t.core m = s.core m) ∧
  (∀ b, b < 32 → (t.core n).status.getLsbD b = if b = 0 then true else if b = 4 ∨ b = 24 then false else stWas s n b) ∧
  t.core n = { s.core n with
    epc := epc, estatus := (s.core n).status, ecause := w32 code, eaddr := (t.core n).eaddr,
    status := (t.core n).status, pc := (s.core n).vbase + w32 (16 * code), vec := some code } ∧
  ∀ a, addr = some a → (t.core n).eaddr = a

/-- The vector of a code can be fetched: entry is no lockup (R264). -/
def VectorOk (n code : Nat) (s : State) : Prop := fetchable s n ((s.core n).vbase + w32 (16 * code)).toNat = true

end Sys2Proof.Claims

/-- R264, R281, R282, R283: B goes to its target exactly when its condition holds; CALL and CALLR write lr; JR and CALLR go to an aligned
target; a target that is not aligned raises FETCH_ERROR at the transfer itself with lr unchanged; ERET, in supervisor mode, restores STATUS and
PC. -/
def Obligations.TransfersComplete : Prop :=
  ∀ (s : State) (n ra cond off : Nat), Executes n 1 s → ra < 16 →
  (cond < 15 → off < 2 ^ 22 →
    (condTrue s n cond → ∃ t, exec (.branch n cond off) s = .next t ∧
      CoreAfter n ((s.core n).pc + 4 * (BitVec.ofNat 22 off).signExtend 32) (s.reg n) (stWas s n) s t) ∧
    (¬ condTrue s n cond → ∃ t, exec (.branch n cond off) s = .next t ∧ CoreAfter n (nextPc s n) (s.reg n) (stWas s n) s t)) ∧
  (off < 2 ^ 26 → ∃ t, exec (.call n off) s = .next t ∧
    CoreAfter n ((s.core n).pc + 4 * (BitVec.ofNat 26 off).signExtend 32) (wrote s n 14 (nextPc s n)) (stWas s n) s t) ∧
  ((s.reg n ra).toNat % 4 = 0 →
    (∃ t, exec (.jr n ra) s = .next t ∧ CoreAfter n (s.reg n ra) (s.reg n) (stWas s n) s t) ∧
    (∃ t, exec (.callr n ra) s = .next t ∧ CoreAfter n (s.reg n ra) (wrote s n 14 (nextPc s n)) (stWas s n) s t)) ∧
  ((s.reg n ra).toNat % 4 ≠ 0 → VectorOk n 1 s →
    (∃ t, exec (.jr n ra) s = .next t ∧ Traps n 1 (s.core n).pc (some (s.reg n ra)) s t) ∧
    (∃ t, exec (.callr n ra) s = .next t ∧ Traps n 1 (s.core n).pc (some (s.reg n ra)) s t)) ∧
  ((s.core n).supervisor = true → (s.core n).epc.toNat % 4 = 0 →
    ∃ t, exec (.eret n) s = .next t ∧ OnlyCore n s t ∧
      t.core n = { s.core n with status := (s.core n).estatus, pc := (s.core n).epc, vec := none })

namespace Sys2Proof.Claims

/-- Bit `b` of STATUS is written by an instruction of core `n`: all but the reserved bits, and in user mode only [31:24]. -/
def statusWritable (s : State) (n b : Nat) : Bool :=
  decide (24 ≤ b) || ((s.core n).supervisor && (b == 0 || b == 4 || b == 7))

/-- STATUS after a write of `v`. -/
def stWritten (s : State) (n : Nat) (v : Nat → Bool) (b : Nat) : Bool := if statusWritable s n b then v b else stWas s n b

/-- What a core's control register `cr` reads (R258), for those whose value the manual gives. -/
def ctlValue (s : State) (n cr : Nat) : Word :=
  match cr with
  | 0 => (s.core n).status | 1 => (s.core n).epc | 2 => (s.core n).estatus | 3 => (s.core n).ecause | 4 => (s.core n).eaddr
  | 5 => (s.core n).vbase | 6 => (s.core n).scratch | 7 => w32 n | _ => 0

end Sys2Proof.Claims

/-- R258, R265, R283: MFC reads a control register (in user mode only 0, 7, 8 and 9; CYCLE_LO and CYCLE_HI give the count, which a free amount moves on, and CYCLE_LO
latches the high word), MTC writes one, STSET and STCLR set and clear bits of STATUS as the mode allows, and WAIT, in supervisor mode, goes on when the event line is high and stops
the core in STATE = WAIT when it is low. -/
def Obligations.SystemCompletes : Prop :=
  ∀ (s : State) (n rd ra cr imm : Nat), Executes n 1 s → rd < 16 → ra < 16 → cr < 16 → imm < 2 ^ 16 →
  let v := s.reg n ra
  ((s.core n).supervisor = true ∨ cr = 0 ∨ cr = 7 → cr ≠ 8 → cr ≠ 9 →
    ∃ t, exec (.mfc n rd cr) s = .next t ∧ CoreAfter n (nextPc s n) (wrote s n rd (ctlValue s n cr)) (stWas s n) s t) ∧
  (cr = 8 ∨ cr = 9 → ∃ t d, exec (.mfc n rd cr) s = .next t ∧ t = { s with cores := t.cores, draws := t.draws } ∧
    (∀ r, r < 16 → t.reg n r = wrote s n rd d r) ∧ (cr = 9 → ∀ h, (s.core n).cycleHi = some h → d = h) ∧
    t.core n = { s.core n with w := (t.core n).w, pc := nextPc s n, vec := none, cycle := (t.core n).cycle, cycleHi := (t.core n).cycleHi } ∧
    (cr = 8 → d = w32 (t.core n).cycle ∧ (t.core n).cycleHi = some (w32 ((t.core n).cycle / 2 ^ 32)))) ∧
  (∃ t, exec (.mtc n 0 ra) s = .next t ∧ CoreAfter n (nextPc s n) (s.reg n) (stWritten s n (fun b => v.getLsbD b)) s t) ∧
  ((s.core n).supervisor = true → cr ≠ 0 →
    ∃ t, exec (.mtc n cr ra) s = .next t ∧ OnlyCore n s t ∧
      t.core n = { s.core n with
        pc := nextPc s n, vec := none,
        epc := if cr = 1 then v else (s.core n).epc,
        estatus := if cr = 2 then v &&& 0xFF000091 else (s.core n).estatus,
        vbase := if cr = 5 then v &&& 0xFFFFFF00 else (s.core n).vbase,
        scratch := if cr = 6 then v else (s.core n).scratch }) ∧
  (∃ t, exec (.stset n imm) s = .next t ∧
    CoreAfter n (nextPc s n) (s.reg n) (stWritten s n (fun b => stWas s n b ||
      (if 24 ≤ b then imm.testBit (b - 16) else decide (b < 8) && imm.testBit b))) s t) ∧
  (∃ t, exec (.stclr n imm) s = .next t ∧
    CoreAfter n (nextPc s n) (s.reg n) (stWritten s n (fun b => stWas s n b &&
      !(if 24 ≤ b then imm.testBit (b - 16) else decide (b < 8) && imm.testBit b))) s t) ∧
  ((s.core n).supervisor = true → eventLine s n = true →
    ∃ t, exec (.waitInstr n) s = .next t ∧ CoreAfter n (nextPc s n) (s.reg n) (stWas s n) s t) ∧
  ((s.core n).supervisor = true → eventLine s n = false → (s.core n).haltDue = false →
    ∃ t, exec (.waitInstr n) s = .next t ∧ coreState t n = 2 ∧ (t.core n).pc = nextPc s n ∧ t.mem = s.mem ∧
      ∀ r, r < 16 → t.reg n r = s.reg n r)

/-- Core `n` has locked up at address `pc` on the exception `code` (R264): it is stopped and fenced, with FAULT_PC, FAULT_CAUSE and PG_FAULT. -/
def Sys2Proof.Claims.LocksUp (n code pc : Nat) (t : State) : Prop :=
  coreState t n = 5 ∧ t.on (CORE_CTRL_FENCE n) = true ∧ t.on (PG_STAT_FENCED (0x48 + n)) = true ∧ t.get (CORE_FAULT_PC_PC n) = pc ∧
  t.get (CORE_FAULT_CAUSE_CODE n) = code ∧ t.on (PG_FAULT_bit (0x48 + n) 2) = true

/-- R262, R263, R264, R265, R269, R282, R283, R285: SYSCALL, BREAK with no debugger attached, an undefined word, a prefix before no string
instruction, a due EVENT, a failed fetch and a fetch of bad parity from the core's own TCM each take their exception, with the EPC and EADDR of
R263 and the entry of R264; a fetch of bad parity from another core's TCM sets TCM_PAR_EXT of that core and nothing else; BREAK with a debugger
attached halts the core with the PC at the next instruction. An entry whose vector cannot be fetched, and a failed fetch of a vector, lock the core up. -/
def Sys2Proof.Claims.ExceptionsTaken : Prop :=
  ∀ (s : State) (n imm : Nat),
  (Executes n 1 s → VectorOk n 8 s →
    ∃ t, exec (.syscall n imm) s = .next t ∧ Traps n 8 (nextPc s n) none s t) ∧
  (Executes n 1 s → ¬ VectorOk n 8 s →
    ∃ t, exec (.syscall n imm) s = .next t ∧ LocksUp n 8 ((s.core n).vbase + 0x80).toNat t ∧ t.mem = s.mem) ∧
  (Executes n 1 s → s.on DBG_CTRL_ATTACHED = false → VectorOk n 9 s →
    ∃ t, exec (.breakInstr n imm) s = .next t ∧ Traps n 9 (nextPc s n) none s t) ∧
  (Executes n 1 s → s.on DBG_CTRL_ATTACHED = true →
    ∃ t, exec (.breakInstr n imm) s = .next t ∧ coreState t n = 3 ∧ (t.core n).pc = nextPc s n ∧
      (t.core n).status = (s.core n).status ∧ t.mem = s.mem) ∧
  (Executes n 1 s → VectorOk n 2 s → ∃ t, exec (.illegal n) s = .next t ∧ Traps n 2 (s.core n).pc none s t) ∧
  (Executes n 2 s → VectorOk n 3 s → ∃ t, exec (.illegalPrefix n) s = .next t ∧ Traps n 3 (s.core n).pc none s t) ∧
  (coreRuns s n = true → eventDue s n = true → VectorOk n 10 s →
    ∃ t, exec (.eventException n) s = .next t ∧ Traps n 10 (s.core n).pc none s t) ∧
  (∀ second : Bool, Executes n (if second then 2 else 1) s →
    let a := (s.core n).pc + if second then 4 else 0
    ((s.core n).vec = none →
      (VectorOk n 1 s → ∃ t, exec (.fetchError n { second := second }) s = .next t ∧ Traps n 1 (s.core n).pc (some a) s t) ∧
      (ownTcm n a.toNat = true → VectorOk n 6 s →
        ∃ t, exec (.fetchError n { second := second, par := true }) s = .next t ∧ Traps n 6 (s.core n).pc (some a) s t)) ∧
    (∀ code, (s.core n).vec = some code → code < 16 → ∃ t, exec (.fetchError n { second := second }) s = .next t ∧
      LocksUp n code (s.core n).pc.toNat t ∧ t.core n = s.core n ∧ t.mem = s.mem) ∧
    (∀ k, k < cores s.variant → k ≠ n → ownTcm n a.toNat = false → 0x30000000 + k * 0x10000 ≤ a.toNat → a.toNat < 0x30010000 + k * 0x10000 →
      ∃ t, exec (.fetchError n { second := second, par := true }) s = .next t ∧ t = { s with regs := t.regs } ∧
        t.on (PG_FAULT_bit (0x48 + k) 3) = true ∧ WordsKept [(PG_FAULT_bit (0x48 + k) 3).addr] s t))

/-- R261, R263, R279, R280: an access that user mode does not allow raises PRIVILEGE with the address; one that the bus answers with BUS_ERROR,
misaligned ones and addresses outside the map included, raises DATA_BUS_ERROR; a byte of the core's own TCM with bad parity raises TCM_PARITY; a supervisor instruction or
control register in user mode raises PRIVILEGE. No general register changes, so sp is unchanged when PUSH or POP faults. -/
def Sys2Proof.Claims.DataExceptions : Prop :=
  ∀ (s : State) (n rd ra imm : Nat) (x : Sense), Executes n 1 s → rd < 16 → ra < 16 → imm < 2 ^ 18 →
  let a := dataAddr s n ra imm
  let sp := s.reg n 15
  let fails (i : Instr) (wr : Bool) (a : Nat) : Prop :=
    (s.core n).supervisor = false → userData s n wr a = false → VectorOk n 4 s →
    ∃ t, exec i s = .next t ∧ Traps n 4 (s.core n).pc (some (w32 a)) s t
  let refused (i : Instr) (wr : Bool) (a z : Nat) : Prop :=
    MayAccess n [(wr, a)] s → (a % z ≠ 0 ∨ regionOf s.variant n a = .unmapped) → VectorOk n 5 s →
    ∃ t, exec i s = .next t ∧ (∀ r, r < 16 → t.reg n r = s.reg n r) ∧ (t.core n).ecause = 5 ∧ (t.core n).eaddr = w32 a ∧
      (t.core n).epc = (s.core n).pc ∧ (t.core n).estatus = (s.core n).status ∧ t.mem = s.mem
  fails (.ldw n rd ra imm x) false a ∧ fails (.stw n rd ra imm) true a ∧ fails (.push n rd) true (sp - 4).toNat ∧
  fails (.pop n rd x) false sp.toNat ∧
  refused (.ldw n rd ra imm x) false a 4 ∧ refused (.ldh n rd ra imm x) false a 2 ∧ refused (.stw n rd ra imm) true a 4 ∧
  refused (.sth n rd ra imm) true a 2 ∧ refused (.push n rd) true (sp - 4).toNat 4 ∧ refused (.pop n rd x) false sp.toNat 4 ∧
  (MayAccess n [(false, a)] s → ownTcm n a = true → a % 4 = 0 → x.par = true → VectorOk n 6 s →
    ∃ t, exec (.ldw n rd ra imm x) s = .next t ∧ Traps n 6 (s.core n).pc (some (w32 a)) s t) ∧
  ((s.core n).supervisor = false → VectorOk n 4 s →
    ((s.core n).epc.toNat % 4 = 0 → ∃ t, exec (.eret n) s = .next t ∧ Traps n 4 (s.core n).pc none s t) ∧
    (∃ t, exec (.waitInstr n) s = .next t ∧ Traps n 4 (s.core n).pc none s t) ∧
    (∃ t, exec (.mtc n 1 ra) s = .next t ∧ Traps n 4 (s.core n).pc none s t) ∧
    (∃ t, exec (.mfc n rd 1) s = .next t ∧ Traps n 4 (s.core n).pc none s t))

/-- R261, R263, R264, R265, R269, R279, R280, R282, R283, R285: the exceptions of instructions, of events and fetches, and those of data
accesses. -/
def Obligations.ExceptionsAreTaken : Prop := Sys2Proof.Claims.ExceptionsTaken ∧ Sys2Proof.Claims.DataExceptions

namespace Sys2Proof.Claims

/-- The command that executes one iteration: 0 stands for no prefix, 1 to 3 for REP, REPZ and REPNZ. -/
def IterCmd (n rep : Nat) (o : StrOp) (x y : Sense) (i : Instr) : Prop :=
  match rep, o.kind with
  | 0, 0 => i = .movs n o.size x | 0, 1 => i = .fill n o.size o.rv | 0, 2 => i = .scan n o.size o.rv x
  | 0, 3 => i = .cmps n o.size x y | 0, 4 => i = .lds n o.size o.rv x | 0, 5 => i = .sts n o.size o.rv
  | 1, _ => i = .rep n o x y | 2, _ => i = .repz n o x y | 3, _ => i = .repnz n o x y
  | _, _ => False

/-- The state in which an iteration acts: fetched, and with REPACT = 1 under a prefix. -/
def iterState (n rep : Nat) (s : State) : State :=
  let c := (fetchState n s).core n
  if rep = 0 then fetchState n s else (fetchState n s).setCore n { c with status := c.status ||| 0x01000000 }

/-- Register r moved by one element of `z` bytes, down when DF = 1. -/
def elemStep (s : State) (n r z : Nat) : Word := if stWas s n 25 then s.reg n r - w32 z else s.reg n r + w32 z

/-- The iteration ends its pair (R286): the count is used up, or Z ends a REPZ or REPNZ of SCAN or CMPS. -/
def iterLeaves (rep kind : Nat) (cnt : Word) (z : Bool) : Bool :=
  decide (cnt = 1) || (decide (kind = 2 ∨ kind = 3) && (decide (rep = 2) && !z || decide (rep = 3) && z))

/-- `t` is `u` after an iteration that leaves the registers `w` but for cnt and the STATUS bits `st` but for REPACT: without a prefix the PC is
past the word; with one, cnt is decremented, and either the PC is past the pair and REPACT is 0, or the PC is still the prefix. -/
def IterEnds (n rep kind : Nat) (w : Nat → Word) (st : Nat → Bool) (u t : State) : Prop :=
  let out := iterLeaves rep kind (u.reg n 11) (st 30)
  if rep = 0 then CoreMoves n (nextPc u n) w st u t
  else CoreMoves n (if out then (u.core n).pc + 8 else (u.core n).pc) (fun r => if r = 11 then w 11 - 1 else w r)
    (fun b => if b = 24 then !out else st b) u t

end Sys2Proof.Claims

/-- R284, R286, R287: one iteration of each string instruction, unprefixed or under REP, REPZ or REPNZ with cnt not 0, whose accesses end OK:
the element moves, the flags of SCAN and CMPS compare zero-extended elements, src and dst move by one element as DF says, LDS and STS shift rv;
the pair ends as R286 says. A pair that starts with cnt = 0 accesses nothing and completes. -/
def Obligations.StringsComplete : Prop :=
  ∀ (s : State) (n rep : Nat) (o : StrOp) (x y : Sense) (i : Instr), o.ok = true → IterCmd n rep o x y i →
  Executes n (if rep = 0 then 1 else 2) s →
  let z := 2 ^ o.size
  let s0 := iterState n rep s
  let src := (s.reg n 12).toNat
  let dst := (s.reg n 13).toNat
  let dst' := elemStep s n 13 z
  let rv := s.reg n o.rv
  let rvE := rv.toNat % 2 ^ (8 * z)
  let good (r : Reply × State) (p : Bool) (a : Nat) : Prop := r.1.resp = .ok ∧ (p && ownTcm n a) = false ∧ r.2.steps = []
  let regs (u : State) (f : Nat → Option Word) (r : Nat) : Word := (f r).getD (u.reg n r)
  let cmp (u : State) (a b : Word) : Nat → Bool := subStatus u n a b 0
  (rep ≠ 0 → s.reg n 11 = 0 → ∃ t, exec i s = .next t ∧
    CoreAfter n ((s.core n).pc + 8) (s.reg n) (fun b => if b = 24 then false else stWas s n b) s t) ∧
  (rep = 0 ∨ s.reg n 11 ≠ 0 →
    (o.kind = 0 → MayAccess n [(false, src), (true, dst)] s → ∀ r, r = busRead n src z x s0 → good r x.par src →
      ∃ u, IterEnds n rep 0 (regs r.2 (fun k => if k = 13 then some (elemStep r.2 n 13 z) else if k = 12 then some (elemStep r.2 n 12 z) else none))
          (stWas r.2 n) r.2 u ∧
        ∀ q, q = busWrite n dst z r.1.data.toNat u → good q false dst → ∃ t, exec i s = .next t ∧ Leaves s q.2 t) ∧
    (o.kind = 1 → MayAccess n [(true, dst)] s →
      ∃ u, IterEnds n rep 1 (regs s0 (fun k => if k = 13 then some dst' else none)) (stWas s0 n) s0 u ∧
        ∀ q, q = busWrite n dst z rvE u → good q false dst → ∃ t, exec i s = .next t ∧ Leaves s q.2 t) ∧
    (o.kind = 2 → MayAccess n [(false, src)] s → ∀ r, r = busRead n src z x s0 → good r x.par src →
      ∃ t u, exec i s = .next t ∧ Leaves s u t ∧
        IterEnds n rep 2 (regs r.2 (fun k => if k = 12 then some (elemStep r.2 n 12 z) else none)) (cmp r.2 (w32 rvE) r.1.data) r.2 u) ∧
    (o.kind = 3 → MayAccess n [(false, src), (false, dst)] s → ∀ r, r = busRead n src z x s0 → good r x.par src →
      ∀ q, q = busRead n dst z y r.2 → good q y.par dst →
      ∃ t u, exec i s = .next t ∧ Leaves s u t ∧
        IterEnds n rep 3 (regs q.2 (fun k => if k = 13 then some (elemStep q.2 n 13 z) else if k = 12 then some (elemStep q.2 n 12 z) else none))
          (cmp q.2 r.1.data q.1.data) q.2 u) ∧
    (o.kind = 4 → MayAccess n [(false, src)] s → ∀ r, r = busRead n src z x s0 → good r x.par src →
      ∃ t u, exec i s = .next t ∧ Leaves s u t ∧
        IterEnds n rep 4 (regs r.2 (fun k => if k = 12 then some (elemStep r.2 n 12 z)
          else if k = o.rv then some (w32 (rv.toNat / 2 ^ (8 * z) + r.1.data.toNat * 2 ^ (32 - 8 * z))) else none)) (stWas r.2 n) r.2 u) ∧
    (o.kind = 5 → MayAccess n [(true, dst)] s →
      ∃ u, IterEnds n rep 5 (regs s0 (fun k => if k = 13 then some dst' else if k = o.rv then some (w32 (rv.toNat / 2 ^ (8 * z))) else none))
          (stWas s0 n) s0 u ∧
        ∀ q, q = busWrite n dst z rvE u → good q false dst → ∃ t, exec i s = .next t ∧ Leaves s q.2 t))

namespace Sys2Proof.Claims

/-- The word of an R-format instruction (R272). -/
def encR (rd ra rb rr fn : Nat) : Nat := 1 * 2 ^ 26 + rd * 2 ^ 22 + ra * 2 ^ 18 + rb * 2 ^ 14 + rr * 2 ^ 10 + fn

/-- The word of an I-format instruction. -/
def encI (op rd ra imm : Nat) : Nat := op * 2 ^ 26 + rd * 2 ^ 22 + ra * 2 ^ 18 + imm

/-- The word of a string instruction. -/
def encS (o : StrOp) : Nat := 0x38 * 2 ^ 26 + o.rv * 2 ^ 22 + o.kind * 2 ^ 3 + o.size

end Sys2Proof.Claims

/-- R272, R274, R278, R279, R281, R283, R284, R285: the word that R272's fields spell for each instruction, at every value of its fields, decodes
to that instruction with those fields; the repeat prefix and the string word after it decode to the pair, and a prefix before any other word
to ILLEGAL_PREFIX; cond 15 and a word of zeros are undefined. -/
def Obligations.GlemiDecodesItsEncoding : Prop :=
  ∀ (n rd ra rb rr imm : Nat) (x y : Sense), rd < 16 → ra < 16 → rb < 16 → rr < 16 → imm < 2 ^ 18 →
  let is (w : Nat) (f : State → State) : Prop := decodeGlemi n w x y = some f
  (is (encR rd ra rb 0 0x00) (addBody n rd ra rb) ∧ is (encR rd ra rb 0 0x01) (adcBody n rd ra rb) ∧
   is (encR rd ra rb 0 0x02) (subBody n rd ra rb) ∧ is (encR rd ra rb 0 0x03) (sbcBody n rd ra rb) ∧
   is (encR 0 ra rb 0 0x04) (cmpBody n ra rb) ∧ is (encR rd ra 0 0 0x05) (negBody n rd ra) ∧
   is (encR rd ra rb 0 0x06) (andBody n rd ra rb) ∧ is (encR rd ra rb 0 0x07) (orBody n rd ra rb) ∧
   is (encR rd ra rb 0 0x08) (xorBody n rd ra rb) ∧ is (encR rd ra rb 0 0x09) (andnBody n rd ra rb) ∧
   is (encR rd ra 0 0 0x0A) (notBody n rd ra) ∧ is (encR 0 ra rb 0 0x0B) (tstBody n ra rb) ∧ is (encR rd ra 0 0 0x0C) (movBody n rd ra) ∧
   is (encR rd ra rb 0 0x10) (lslBody n rd ra rb) ∧ is (encR rd ra rb 0 0x11) (lsrBody n rd ra rb) ∧
   is (encR rd ra rb 0 0x12) (asrBody n rd ra rb) ∧ is (encR rd ra rb 0 0x13) (rorBody n rd ra rb) ∧
   is (encR rd ra rb 0 0x18) (mulBody n rd ra rb) ∧ is (encR rd ra rb 0 0x19) (mulhsBody n rd ra rb) ∧
   is (encR rd ra rb 0 0x1A) (mulhuBody n rd ra rb) ∧ is (encR rd ra rb rr 0x1C) (divsBody n rd rr ra rb) ∧
   is (encR rd ra rb rr 0x1D) (divuBody n rd rr ra rb) ∧ is (encR rd ra 0 0 0x20) (sextbBody n rd ra) ∧
   is (encR rd ra 0 0 0x21) (sexthBody n rd ra) ∧ is (encR rd ra 0 0 0x22) (zextbBody n rd ra) ∧
   is (encR rd ra 0 0 0x23) (zexthBody n rd ra) ∧ is (encR rd ra 0 0 0x24) (clzBody n rd ra)) ∧
  (is (encI 0x02 rd ra imm) (addiBody n rd ra imm) ∧ is (encI 0x03 rd ra imm) (andiBody n rd ra imm) ∧
   is (encI 0x04 rd ra imm) (oriBody n rd ra imm) ∧ is (encI 0x05 rd ra imm) (xoriBody n rd ra imm) ∧
   is (encI 0x06 0 ra imm) (cmpiBody n ra imm) ∧ is (encI 0x07 rd ra (imm % 32)) (lsliBody n rd ra (imm % 32)) ∧
   is (encI 0x08 rd ra (imm % 32)) (lsriBody n rd ra (imm % 32)) ∧ is (encI 0x09 rd ra (imm % 32)) (asriBody n rd ra (imm % 32)) ∧
   is (encI 0x0A rd ra (imm % 32)) (roriBody n rd ra (imm % 32)) ∧ is (encI 0x0B rd 0 imm) (moviBody n rd imm) ∧
   is (encI 0x0C rd 0 (imm % 2 ^ 16)) (movhBody n rd (imm % 2 ^ 16)) ∧ is (encI 0x0D rd 0 imm) (adrBody n rd imm)) ∧
  (is (encI 0x10 rd ra imm) (ldbBody n rd ra imm x) ∧ is (encI 0x11 rd ra imm) (ldbuBody n rd ra imm x) ∧
   is (encI 0x12 rd ra imm) (ldhBody n rd ra imm x) ∧ is (encI 0x13 rd ra imm) (ldhuBody n rd ra imm x) ∧
   is (encI 0x14 rd ra imm) (ldwBody n rd ra imm x) ∧ is (encI 0x15 rd ra imm) (stbBody n rd ra imm) ∧
   is (encI 0x16 rd ra imm) (sthBody n rd ra imm) ∧ is (encI 0x17 rd ra imm) (stwBody n rd ra imm) ∧
   is (encI 0x18 rd 0 0) (pushBody n rd) ∧ is (encI 0x19 rd 0 0) (popBody n rd x) ∧ is (encI 0x1A rd ra 0) (swpBody n rd ra x)) ∧
  (∀ off, off < 2 ^ 22 → (rd < 15 → is (0x20 * 2 ^ 26 + rd * 2 ^ 22 + off) (branchBody n rd off)) ∧
    decodeGlemi n (0x20 * 2 ^ 26 + 15 * 2 ^ 22 + off) x y = none) ∧
  (∀ off, off < 2 ^ 26 → is (0x21 * 2 ^ 26 + off) (callBody n off)) ∧
  (is (encI 0x22 0 ra 0) (jrBody n ra) ∧ is (encI 0x23 0 ra 0) (callrBody n ra) ∧ is (encI 0x28 rd ra 0) (mfcBody n rd ra) ∧
   is (encI 0x29 rd ra 0) (mtcBody n rd ra) ∧ is (encI 0x2A 0 0 (imm % 2 ^ 16)) (stsetBody n (imm % 2 ^ 16)) ∧
   is (encI 0x2B 0 0 (imm % 2 ^ 16)) (stclrBody n (imm % 2 ^ 16)) ∧ is (encI 0x2C 0 0 imm) (syscallBody n imm) ∧
   is (encI 0x2D 0 0 imm) (breakBody n imm) ∧ is (encI 0x2E 0 0 0) (eretBody n) ∧ is (encI 0x2F 0 0 0) (waitBody n) ∧
   is (encI 0x30 0 0 0) (nopBody n)) ∧
  (∀ o : StrOp, o.ok = true → is (encS o) (strIter n 0 o x y) ∧
    ∀ rep, 1 ≤ rep → rep ≤ 3 → decodePair n (0x3C * 2 ^ 26 + rep) (encS o) x y = (2, repIter n rep o x y)) ∧
  (∀ rep w, 1 ≤ rep → rep ≤ 3 → decodeString w = none → decodePair n (0x3C * 2 ^ 26 + rep) w x y = (2, illegalPrefixBody n)) ∧
  decodeGlemi n 0 x y = none

/-! ### Starting, fencing, watchdogs and halts of a core (spec/15) -/

namespace Sys2Proof.Claims

/-- Registers, STATUS, PC and control registers of core `k` are as before. -/
def SameCore (k : Nat) (s t : State) : Prop :=
  (t.core k).w = (s.core k).w ∧ (t.core k).pc = (s.core k).pc ∧ (t.core k).status = (s.core k).status ∧ (t.core k).epc = (s.core k).epc ∧
  (t.core k).estatus = (s.core k).estatus ∧ (t.core k).ecause = (s.core k).ecause ∧ (t.core k).eaddr = (s.core k).eaddr ∧
  (t.core k).vbase = (s.core k).vbase ∧ (t.core k).scratch = (s.core k).scratch

/-- The address that START_PC of core `n` holds. -/
def startPc (s : State) (n : Nat) : Word := w32 (s.get (CORE_START_PC_PC n) * 4)

/-- The STATE that core `n` has when it comes to run: HALTED where a halt is pending, else RUN. -/
def runState (s : State) (n : Nat) : Nat := if (s.core n).haltDue then 3 else 1

/-- Core `n` after a core reset (R258, R266): every register and control register 0 but MODE, PC at START_PC. -/
def ResetCore (n : Nat) (s t : State) : Prop :=
  (∀ r, r < 16 → t.reg n r = 0) ∧ (t.core n).pc = startPc s n ∧ (t.core n).status = 1 ∧ (t.core n).epc = 0 ∧ (t.core n).estatus = 0 ∧
  (t.core n).ecause = 0 ∧ (t.core n).eaddr = 0 ∧ (t.core n).vbase = 0 ∧ (t.core n).scratch = 0

end Sys2Proof.Claims

/-- R258, R266, R270: a write of CTRL.RESET performs a core reset, after which the core runs if RUN = 1, with RESETS counted and LAST 1, or 3 out of a
lockup; FENCE = 1 stops the core at once and sets PG_STAT.FENCED; a write of RUN = 1 starts a core held in RESET at START_PC. A core
that comes to run with a halt pending (R270) is HALTED at this its first boundary. A core's registers change by
its reset and start only, the other cores' never, and memory, the TCM included, never. -/
def Sys2Proof.Claims.CoreControl : Prop :=
  ∀ (s : State) (m : Master) (n : Nat) (v : Word), n < cores s.variant → Serves m (0x48 + n) s →
  (∃ t, exec (.coreReset m n v) s = .next t ∧ (reply m t).resp = .ok ∧ ResetCore n s t ∧
    coreState t n = (if v.getLsbD 0 then runState s n else 0) ∧ t.on (CORE_CTRL_FENCE n) = false ∧ t.on (PG_STAT_FENCED (0x48 + n)) = false ∧
    t.get (CORE_STAT_RESETS n) = min (s.get (CORE_STAT_RESETS n) + 1) 255 ∧
    t.get (CORE_STAT_LAST n) = (if coreState s n = 5 then 3 else 1) ∧ t.mem = s.mem ∧ ∀ k, k ≠ n → SameCore k s t) ∧
  (v.getLsbD 2 = false → s.on (CORE_CTRL_FENCE n) = false → coreState s n ≠ 6 →
    ∃ t, exec (.fence m n v) s = .next t ∧ (reply m t).resp = .ok ∧ t.on (CORE_CTRL_FENCE n) = true ∧ t.on (PG_STAT_FENCED (0x48 + n)) = true ∧
      coreState t n = (if coreState s n = 5 then 5 else 4) ∧ t.mem = s.mem ∧ ∀ k, SameCore k s t) ∧
  (v.getLsbD 2 = false → v.getLsbD 1 = false → coreState s n = 0 →
    ∃ t, exec (.coreRun m n v) s = .next t ∧ (reply m t).resp = .ok ∧ coreState t n = runState s n ∧ t.on (CORE_CTRL_RUN n) = true ∧
      (t.core n).pc = startPc s n ∧ (t.core n).w = (s.core n).w ∧ (t.core n).status = (s.core n).status ∧ t.mem = s.mem ∧
      ∀ k, k ≠ n → SameCore k s t)

/-- R267: the right kick restarts the watchdog at TIMEOUT and any other value only sets BAD_KICK; at the end of stage 1 source 592 + n and
WDOG_WARN are raised and the count restarts at STAGE2; at the end of stage 2 ACTION 0 only waits for a kick, ACTION 1 resets the core with
RUN = 0, LAST 2 and FAULT_PC, and ACTION 2 makes a WARM reset with RESET_CAUSE.WDOG. -/
def Sys2Proof.Claims.Watchdogs : Prop :=
  ∀ (s : State) (m : Master) (n : Nat) (v : Word), n < cores s.variant →
  let units (f : Fld) : Nat := max 1 (s.get f) * 65536
  let page := 0x48 + n
  (Serves m page s → v = w32 (0x5EED0000 + n) →
    ∃ t, exec (.wdogKick m n v) s = .next t ∧ (reply m t).resp = .ok ∧ t = { s with regs := t.regs, cores := t.cores, replies := t.replies } ∧
      (t.core n).wdLeft = units (CORE_WDOG_CFG_TIMEOUT n) ∧ (t.core n).wdSince = s.tb ∧ (t.core n).wdIdle = false ∧
      t.on (CORE_WDOG_COUNT_STAGE2 n) = false ∧ (∀ k, SameCore k s t) ∧ WordsKept [(CORE_WDOG_COUNT_STAGE2 n).addr] s t) ∧
  (Serves m page s → v ≠ w32 (0x5EED0000 + n) →
    ∃ t, exec (.wdogKick m n v) s = .next t ∧ Writes m [(PG_FAULT_bit page 0).addr] s t ∧ t.on (PG_FAULT_bit page 0) = true) ∧
  (wdogCounts s n = true → wdogLeft s n = 0 →
    (s.on (CORE_WDOG_COUNT_STAGE2 n) = false →
      ∃ t u, exec (.wdogWarn n) s = .next t ∧ Leaves s (pulse (592 + n) u) t ∧ u = { s with regs := u.regs, cores := u.cores } ∧
        (u.core n).wdLeft = units (CORE_WDOG_CFG_STAGE2 n) ∧ (u.core n).wdSince = s.tb ∧ u.on (CORE_WDOG_COUNT_STAGE2 n) = true ∧
        u.on (PG_FAULT_bit page 1) = true ∧ (∀ k, SameCore k s u) ∧
        WordsKept [(CORE_WDOG_COUNT_STAGE2 n).addr, (PG_FAULT_bit page 1).addr] s u) ∧
    (s.on (CORE_WDOG_COUNT_STAGE2 n) = true →
      (s.get (CORE_WDOG_CFG_ACTION n) = 0 → ∃ t, exec (.wdogExpire n) s = .next t ∧ t = { s with cores := t.cores } ∧
        (t.core n).wdIdle = true ∧ ∀ k, SameCore k s t) ∧
      (s.get (CORE_WDOG_CFG_ACTION n) = 1 ∨ s.get (CORE_WDOG_CFG_ACTION n) = 3 →
        ∃ t, exec (.wdogExpire n) s = .next t ∧ ResetCore n s t ∧ coreState t n = 0 ∧ t.on (CORE_CTRL_RUN n) = false ∧
          t.get (CORE_STAT_LAST n) = 2 ∧ t.get (CORE_FAULT_PC_PC n) = (s.core n).pc.toNat ∧ t.get (CORE_FAULT_CAUSE_CODE n) = 0) ∧
      (s.get (CORE_WDOG_CFG_ACTION n) = 2 → ∃ t, exec (.wdogExpire n) s = .next t ∧ t.on SYS_RESET_CAUSE_WDOG = true ∧
        t.ready 0 = true ∧ t.ready page = false ∧ t.tbf = s.tbf)))

/-- R258, R266, R267: the control of cores, and their watchdogs. -/
def Obligations.CoreControlAndWatchdogs : Prop := Sys2Proof.Claims.CoreControl ∧ Sys2Proof.Claims.Watchdogs

namespace Sys2Proof.Claims

/-- What a write of DBG.HALT whose bit is `new` makes of a core's STATE `st` (R270); a core in WAIT goes back to WAIT. -/
def haltState (new waiting : Bool) (st : Nat) : Nat :=
  if new then (if st = 1 ∨ st = 2 then 3 else st) else if st = 3 then (if waiting then 2 else 1) else st

end Sys2Proof.Claims

/-- R265, R270, R271: a core in WAIT resumes when its event line is high; DBG.HALT halts and resumes cores at a boundary, and
keeps a halt pending for a core that executes nothing yet; DBG.STEP makes a halted core execute the one instruction that memory holds at its PC; DBG.REG_DATA reads and writes a halted core's register and, for any other, reads 0,
ignores the write and sets NOT_HALTED; the debug master's HALT and STEP are ignored while LOCKED. -/
def Obligations.HaltStepAndWait : Prop :=
  ∀ (s : State) (m : Master) (n : Nat) (v : Word), n < cores s.variant →
  (corePowered s n = true → coreState s n = 2 → eventLine s n = true →
    ∃ t, exec (.waitWake n) s = .next t ∧ coreState t n = runState s n ∧ (∀ k, SameCore k s t) ∧ t.mem = s.mem) ∧
  (Serves m 0x5F s →
    ((m ≠ .dbg ∨ s.on DBG_CTRL_LOCKED = false) →
      (∃ t, exec (.halt m v) s = .next t ∧ (reply m t).resp = .ok ∧ t.mem = s.mem ∧ (∀ k, SameCore k s t) ∧
        ∀ k, k < cores s.variant → t.on ⟨DBG_HALT_CORE.addr, k, 1⟩ = v.getLsbD k ∧
          coreState t k = haltState (v.getLsbD k) (s.core k).waiting (coreState s k) ∧
          (v.getLsbD k = true → coreState s k ≠ 1 → coreState s k ≠ 2 → coreState s k ≠ 3 → (t.core k).haltDue = true) ∧
          (v.getLsbD k = false → (t.core k).haltDue = false)) ∧
      (∀ (x : StepSense) xs g, x.bad = none → corePowered s n = true → coreState s n = 3 → (s.core n).supervisor = true → fetchable s n (s.core n).pc.toNat = true →
        decodePrefix (fetchWord s n (s.core n).pc) = none → decodeGlemi n (fetchWord s n (s.core n).pc) x.x x.y = some g →
        (g (fetchState n s)).steps = [] →
        ∃ t, exec (.step m ⟨w32 (2 ^ n), x :: xs⟩) s = .next t ∧ (reply m t).resp = .ok ∧ Leaves s { g (fetchState n s) with replies := t.replies } t)) ∧
    (m = .dbg → s.on DBG_CTRL_LOCKED = true →
      (∃ t, exec (.halt m v) s = .next t ∧ Writes m [] s t) ∧ (∀ xs, ∃ t, exec (.step m ⟨v, xs⟩) s = .next t ∧ Writes m [] s t)) ∧
    (s.get DBG_REG_SEL_CORE = n → coreState s n = 3 →
      let i := s.get DBG_REG_SEL_INDEX
      let kind := s.get DBG_REG_SEL_KIND
      (kind ≠ 2 ∨ i ≠ 8 ∧ i ≠ 9 → ∃ t, exec (.regData m false v) s = .next t ∧ Writes m [] s t ∧
        reply m t = { resp := .ok, data := if kind = 1 then (s.core n).pc else if kind = 2 then ctlValue s n i else s.reg n i }) ∧
      ∃ t, exec (.regData m true v) s = .next t ∧ (reply m t).resp = .ok ∧ t = { s with cores := t.cores, replies := t.replies } ∧
        (∀ k, k ≠ n → t.core k = s.core k) ∧
        (kind = 1 → t.core n = { s.core n with pc := v, vec := none }) ∧
        (kind = 2 → t.core n = { s.core n with
          status := if i = 0 then v &&& 0xFF000091 else (s.core n).status,
          epc := if i = 1 then v else (s.core n).epc,
          estatus := if i = 2 then v &&& 0xFF000091 else (s.core n).estatus,
          vbase := if i = 5 then v &&& 0xFFFFFF00 else (s.core n).vbase,
          scratch := if i = 6 then v else (s.core n).scratch }) ∧
        (kind = 0 ∨ kind = 3 → ∀ r, r < 16 → t.reg n r = if r = i then v else s.reg n r)) ∧
    (s.get DBG_REG_SEL_CORE = n → coreState s n ≠ 3 →
      (∃ t, exec (.regData m false v) s = .next t ∧ reply m t = { resp := .ok, data := 0 } ∧ Writes m [(PG_FAULT_bit 0x5F 0).addr] s t ∧
        t.on (PG_FAULT_bit 0x5F 0) = true) ∧
      (∃ t, exec (.regData m true v) s = .next t ∧ Writes m [(PG_FAULT_bit 0x5F 0).addr] s t ∧ t.on (PG_FAULT_bit 0x5F 0) = true)))

/-- R276: V after MUL says that the 64-bit signed product is not the sign extension of its low word; MUL leaves C, and MULHS and MULHU leave C and V. -/
def Obligations.MultiplyFlags : Prop :=
  ∀ (s : State) (n rd ra rb : Nat), Executes n 1 s → rd < 16 → ra < 16 → rb < 16 →
  let product : BitVec 64 := (s.reg n ra).signExtend 64 * (s.reg n rb).signExtend 64
  (∃ t, exec (.mul n rd ra rb) s = .next t ∧ stWas t n 28 = decide (product ≠ (product.setWidth 32).signExtend 64) ∧ stWas t n 29 = stWas s n 29) ∧
  (∃ t, exec (.mulhs n rd ra rb) s = .next t ∧ stWas t n 28 = stWas s n 28 ∧ stWas t n 29 = stWas s n 29) ∧
  (∃ t, exec (.mulhu n rd ra rb) s = .next t ∧ stWas t n 28 = stWas s n 28 ∧ stWas t n 29 = stWas s n 29)

/-- R282: a transfer through a register to a target that is not aligned raises FETCH_ERROR at the transfer itself, with EPC that instruction, EADDR the
target and lr unchanged, whatever the mode; one to an aligned target that cannot be fetched completes, and the fetch there raises it with EPC = EADDR = the target. -/
def Obligations.TransferTargets : Prop :=
  ∀ (s : State) (n ra : Nat) (target : Word), Executes n 1 s → ra < 16 →
  let jr := Instr.jr n ra
  let callr := Instr.callr n ra
  let eret := Instr.eret n
  let pc := (s.core n).pc
  let Faults (i : Instr) : Prop := ∃ t, exec i s = .next t ∧ Traps n 1 pc (some target) s t ∧ (t.core n).w = (s.core n).w
  let Completes (i : Instr) (lr : Word) : Prop := ∃ u, exec i s = .next u ∧ (u.core n).pc = target ∧ u.reg n 14 = lr ∧
    (eventDue u n = false → breakpoint u n target.toNat [1] = false → VectorOk n 1 u → ∃ t, exec (.fetchError n {}) u = .next t ∧ Traps n 1 target (some target) u t)
  (target.toNat % 4 ≠ 0 → VectorOk n 1 s →
    (s.reg n ra = target → Faults jr ∧ Faults callr) ∧ ((s.core n).epc = target → Faults eret)) ∧
  (target.toNat % 4 = 0 → fetchable s n target.toNat = false →
    (s.reg n ra = target → Completes jr (s.reg n 14) ∧ Completes callr (nextPc s n)) ∧
    ((s.core n).supervisor = true → (s.core n).epc = target → Completes eret (s.reg n 14)))

/-! ### The host port (spec/17) -/

/-- The command bytes of R294, and those of them that arguments follow. -/
def Sys2Proof.Claims.hostBytes : List Nat := [0x01, 0x02, 0x05, 0x10, 0x11, 0x18, 0x30, 0x31, 0xFF]
def Sys2Proof.Claims.hostArgBytes : List Nat := [0x01, 0x02, 0x10, 0x11, 0x18, 0x30, 0x31]

/-- R292 to R300: RD and WR of memory move its words in address order behind the status byte, a late RD leaves them in LATE_DATA; a failed access
reads 0 and a failed write is recorded; STATUS; queue reads that cannot deliver, the word that a late one leaves in the lookahead, and the tag and
word pairs of one that delivers, the word of the lookahead first; a QWR into a queue with room, and one without GO; the
reset of the width; unknown and cut commands; no command does anything while the bus does not run. -/
def Obligations.HostTransfers : Prop :=
  ∀ (s : State) (a k q c len : Nat) (late under : Bool) (xs : List Sense) (u : Upset) (us : List Upset) (ws : List Word) (v : Word) (bs : List Byte),
  s.steps = [] → a % 4 = 0 → k < 16 → q < 512 → ws.length ≤ 16 →
  let live := busLive s = true
  let Drives (i : Instr) (out : State → List Nat) (Q : State → Prop) : Prop := ∃ t, exec i s = .next t ∧ t.host.active = false ∧
    t.host.out = out t ∧ t.host.remote = s.host.remote ∧ t.host.width = s.host.width ∧ Q t
  let Only (t : State) : Prop := t = { s with host := t.host }
  let Regs (as : List Nat) (t : State) : Prop := t = { s with regs := t.regs, host := t.host } ∧ WordsKept as s t
  let zeros (n : Nat) := List.replicate n 0
  let mem (n : Nat) := (List.range n).map (fun i => s.load (a + 4 * i) 4)
  let inRom (n : Nat) := a + 4 * n ≤ 0x8000
  let inScratch (n : Nat) := 0x28008000 ≤ a ∧ a + 4 * n ≤ 0x28010000
  let last := [HOST_LAST_ADDR_ADDR.addr, HOST_LAST_INFO_VALID.addr]
  let Records (cmd resp : Nat) (t : State) : Prop := s.on HOST_LAST_INFO_VALID = false → t.on HOST_LAST_INFO_VALID = true ∧
    t.get HOST_LAST_INFO_CMD = cmd ∧ t.get HOST_LAST_INFO_RESP = resp
  (¬ live → exec (.rdCmd a k late xs) s = .next s ∧ exec (.wrCmd a k ws) s = .next s ∧ exec .status s = .next s ∧ exec (.qrdW q late us) s = .next s ∧
    exec (.qrdP q late us under) s = .next s ∧ exec (.qwr v len bs) s = .next s ∧ exec .resetWidth s = .next s ∧ exec (.badCmd c) s = .next s ∧
    exec (.aborted c) s = .next s) ∧
  (live →
    (inRom (k + 1) ∨ inScratch (k + 1) →
      Drives (.rdCmd a k false xs) (fun _ => statusByte 0 s :: (mem (k + 1)).flatMap wordBytes) Only ∧
      Drives (.rdCmd a k true xs) (fun t => statusByte 3 t :: zeros (4 * (k + 1))) (fun t =>
        Regs ([HOST_LATE_ADDR_ADDR.addr, HOST_STAT_LATE.addr] ++ (List.range (k + 1)).map (fun i => (HOST_LATE_DATA_WORD i).addr)) t ∧
        t.on HOST_STAT_LATE = true ∧ t.get HOST_LATE_ADDR_ADDR = a ∧
        ∀ i, i ≤ k → t.get (HOST_LATE_DATA_WORD i) = s.load (a + 4 * i) 4)) ∧
    (a < 2 ^ 32 → Unmapped s 4 a →
      Drives (.rdCmd a 0 false xs) (fun _ => statusByte 2 s :: zeros 4) (Regs [SYS_BUS_ERR_ADDR_ADDR.addr, SYS_BUS_ERR_INFO_VALID.addr]) ∧
      Drives (.wrCmd a 0 [v]) (fun _ => []) (fun t => t.host.prev = 2 ∧
        Regs ([SYS_BUS_ERR_ADDR_ADDR.addr, SYS_BUS_ERR_INFO_VALID.addr] ++ last) t ∧ Records 0x02 2 t ∧
        (s.on HOST_LAST_INFO_VALID = false → t.get HOST_LAST_ADDR_ADDR = a))) ∧
    (inScratch ws.length → Drives (.wrCmd a k ws) (fun _ => []) (fun t => t.host.prev = 0 ∧ t = { s with mem := t.mem, host := t.host } ∧
      BytesKept a (4 * ws.length) s t ∧ ∀ i, i < ws.length → t.load (a + 4 * i) 4 = (ws.getD i 0).toNat)) ∧
    Drives .status (fun _ => statusByte 0 s :: wordBytes (livePage s 0x50 0x44 (s.word HOST_STAT_SLEEP.addr).toNat)) Only ∧
    (s.ready 0x40 = false ∨ s.ready 0x41 = false →
      Drives (.qrdW q late us) (fun _ => statusByte 1 s :: zeros (5 * us.length)) Only ∧
      Drives (.qrdP q late us under) (fun _ => statusByte 1 s :: zeros (5 * us.length)) Only) ∧
    (s.ready 0x40 = true → s.ready 0x41 = true →
      let refused (t : State) : Prop := t.on HOST_STAT_LATE = true ∧ t.tongs = s.tongs ∧ t.mem = s.mem ∧
        (ownerOf s q = 4 → Regs [HOST_STAT_LATE.addr] t) ∧
        (ownerOf s q ≠ 4 → t.on (PG_FAULT_bit 0x40 2) = true ∧ WordsKeptBut [HOST_STAT_LATE.addr, (PG_FAULT_bit 0x40 2).addr] s t)
      Drives (.qrdW q true us) (fun t => statusByte 3 t :: zeros (5 * us.length)) refused ∧
      Drives (.qrdP q true us under) (fun t => statusByte 3 t :: zeros (5 * us.length)) refused ∧
      (ownerOf s q = 4 → aheadWord s q = none → ∀ z, (s.queue q).place = some z → ∀ p, (s.queue q).find z.id = some p → z.next < p.published →
        let held (t : State) : Prop := t.host.ahead = s.host.ahead.filter (fun y => y.queue != q) ++
          [{ queue := q, pkt := z.id, at' := z.next, word := s.memWord (p.addr z.next), up := u }]
        Drives (.qrdW q true (u :: us)) (fun t => statusByte 3 t :: zeros (5 * (us.length + 1))) held ∧
        Drives (.qrdP q true (u :: us) under) (fun t => statusByte 3 t :: zeros (5 * (us.length + 1))) held) ∧
      (ownerOf s q ≠ 4 →
        Drives (.qrdW q false us) (fun _ => statusByte 0 s :: zeros (5 * us.length)) (fun t =>
          t.on (PG_FAULT_bit 0x40 2) = true ∧ t.tongs = s.tongs ∧ t.mem = s.mem ∧ WordsKeptBut [(PG_FAULT_bit 0x40 2).addr] s t) ∧
        (us ≠ [] → Drives (.qrdP q false us under) (fun _ => statusByte 0 s :: 0 :: zeros (4 * (us.length - 1))) (fun t =>
          t.on (PG_FAULT_bit 0x40 2) = true ∧ t.tongs = s.tongs))) ∧
      (ownerOf s q = 4 → (s.queue q).reader = none → ∀ p, (s.queue q).head = some p → (s.queue q).find p.id = some p → p.opened = false →
        p.bad = [] → 2 ≤ p.words → (∀ h, aheadWord s q = some h → h.up = .clean ∧ h.word % 2 ^ 16 ≠ 0xFFFF) →
        Drives (.qrdW q false [.clean]) (fun _ => statusByte 0 s :: 0xC0 :: wordBytes (((aheadWord s q).map (fun h => h.word)).getD (s.memWord (p.addr 0)))) (fun t =>
          (t.queue q).reader = some { id := p.id, next := 1 } ∧ (t.queue q).pkts = (s.queue q).pkts ∧ t.mem = s.mem))) ∧
    (ownerOf s q = 4 → s.ready 0x40 = true → s.ready 0x41 = true → aheadWord s q = none → (s.queue q).reader = none → ∀ p, (s.queue q).head = some p →
      (s.queue q).find p.id = some p → p.opened = false → p.bad = [] → 2 ≤ p.words →
      Drives (.qrdP q false [.clean] false) (fun _ => statusByte 0 s :: 0xC0 :: wordBytes (s.memWord (p.addr 0))) (fun t =>
        (t.queue q).reader = some { id := p.id, next := 1 } ∧ (t.queue q).pkts = (s.queue q).pkts ∧ t.mem = s.mem)) ∧
    (Serves .host 0x40 s → bit v.toNat 31 = true → v.toNat % 512 = q → v.toNat / 2 ^ 16 % 16 = 5 ∨ v.toNat / 2 ^ 16 % 16 = 8 →
      (∀ j, s.wport 4 ≠ .opened j) → s.on (TONGSQ_Q0_EN q) = true → hasRoom q s = true → (s.queue q).openOf (.software 4) = none →
      (∀ y, y ∈ (s.queue q).pkts → y.id ≠ s.tongs.nextId) → bs.length = len → len ≤ 56 → Drives (.qwr v len bs) (fun _ => []) (fun t =>
        t.host.prev = 0 ∧ ∃ z c, (t.queue q).find s.tongs.nextId = some z ∧ z.writer = .software 4 ∧ z.cells = [c] ∧ z.opened = false ∧
          z.readable = true ∧ z.words = 1 + (len + 3) / 4 ∧ t.memWord (0x20000000 + 64 * c) % 2 ^ 16 = len ∧
          ∀ i, i < len → t.byte (0x20000000 + 64 * c + 4 + i) = bs.getD i 0)) ∧
    (bit v.toNat 31 = false → Drives (.qwr v len bs) (fun _ => []) (fun t => t.host.prev = 3 ∧ t.tongs = s.tongs ∧ t.mem = s.mem ∧
      Records 0x18 3 t ∧ WordsKept last s t)) ∧
    (s.ready 0x40 = false → s.key 0x40 4 ≠ .first → bit v.toNat 31 = true → Drives (.qwr v len bs) (fun _ => []) (fun t =>
      t.host.prev = 1 ∧ t.tongs = s.tongs ∧ t.mem = s.mem ∧ Records 0x18 1 t ∧
      WordsKept ([SYS_NOT_READY_WRITES_COUNT.addr] ++ last) s t)) ∧
    Drives .resetWidth (fun _ => []) (fun t => t.get HOST_CFG_WIDTH = 0 ∧ t.get HOST_CFG_DUMMY = 16 ∧ Regs [HOST_CFG_WIDTH.addr] t) ∧
    (c ∈ hostBytes → exec (.badCmd c) s = .next s) ∧ (c ∉ hostArgBytes → exec (.aborted c) s = .next s) ∧
    (c ∉ hostBytes → Drives (.badCmd c) (fun t => [statusByte 2 t]) (fun t => t.on HOST_STAT_BAD_CMD = true ∧ t.on (PG_FAULT_bit 0x50 0) = true ∧ Raised 544 s t ∧
      WordsKeptBut [HOST_STAT_BAD_CMD.addr, (PG_FAULT_bit 0x50 0).addr] s t)) ∧
    (c ∈ hostArgBytes → Drives (.aborted c) (fun _ => []) (fun t => t.on HOST_STAT_ABORTED = true ∧ Raised 544 s t ∧
      WordsKeptBut [HOST_STAT_ABORTED.addr] s t)))

/-- R291, R301, R303, R304, R331: a remote operation is refused while another is outstanding and where there is no ring, is performed here when the hub
addressed is this one, ends at once with RING_DOWN or NO_HUB, and times out; select, the HOST_SLEEP ball and the end of the hold of HOST_ATTN. -/
def Obligations.HostRemoteAndSignals : Prop :=
  ∀ (s : State) (hub a k : Nat) (xs : List Sense) (ws : List Word) (r : Remote) (level : Bool),
  s.steps = [] → a % 4 = 0 → k < 16 → ws.length ≤ k + 1 → hub < 256 →
  let live := busLive s = true
  let read := Instr.rrd hub a k xs
  let write := Instr.rwr hub a k ws
  let Answers (i : Instr) (resp : Nat) (Q : State → Prop) : Prop := ∃ t, exec i s = .next t ∧ t.host.active = false ∧
    t.host.out = [statusByte resp s] ∧ Q t
  let Done (result : Nat) (t : State) : Prop := t.host.remote = none ∧ t.get HOST_REMOTE_STAT_RESULT = result ∧
    t.on HOST_STAT_REMOTE_DONE = true
  let Describes (w : Nat) (t : State) : Prop := t.get HOST_REMOTE_STAT_WRITE = w ∧ t.get HOST_REMOTE_STAT_HUB = hub ∧ t.get HOST_REMOTE_STAT_N_M1 = k
  let lv := level != s.on HOST_CFG_SLEEP_POL
  (¬ live → exec read s = .next s ∧ exec write s = .next s) ∧
  (live →
    (s.host.remote ≠ none ∨ s.variant = .l ∨ 63 < hub →
      let resp := if s.host.remote ≠ none then 3 else 2
      Answers read resp (fun t => t = { s with host := t.host } ∧ t.host.remote = s.host.remote) ∧
      Answers write resp (fun t => t = { s with regs := t.regs, host := t.host } ∧ t.host.remote = s.host.remote ∧ t.host.prev = resp ∧
        WordsKept [HOST_LAST_ADDR_ADDR.addr, HOST_LAST_INFO_VALID.addr] s t)) ∧
    (s.host.remote = none → s.variant ≠ .l → hub ≤ 63 →
      (s.on RING_STAT_NUM_VALID = true → s.get SYS_HUB_NUMBER = hub → a + 4 * (k + 1) ≤ 0x8000 → Answers read 0 (fun t => Done 1 t ∧ Describes 0 t ∧
        t.mem = s.mem ∧ ∀ i, i ≤ k → t.get (HOST_REMOTE_DATA_WORD i) = s.load (a + 4 * i) 4)) ∧
      (s.on RING_STAT_NUM_VALID = true → s.get SYS_HUB_NUMBER = hub → ws ≠ [] → 0x28008000 ≤ a → a + 4 * ws.length ≤ 0x28010000 →
        Answers write 0 (fun t => Done 1 t ∧ Describes 1 t ∧ t.host.prev = 0 ∧ BytesKept a (4 * ws.length) s t ∧
          ∀ i, i < ws.length → t.load (a + 4 * i) 4 = (ws.getD i 0).toNat)) ∧
      (s.on RING_STAT_NUM_VALID = false → Answers read 0 (fun t => Done 6 t ∧ Describes 0 t ∧ t.mem = s.mem) ∧
        (ws ≠ [] → Answers write 0 (fun t => Done 6 t ∧ Describes 1 t ∧ t.mem = s.mem ∧ t.host.prev = 0))) ∧
      (s.on RING_STAT_NUM_VALID = true → s.get SYS_HUB_NUMBER ≠ hub → s.ready 0x53 = true → portUp s 0 = true ∨ portUp s 1 = true →
        heldNumber s hub = false → Answers read 0 (fun t => Done 4 t ∧ Describes 0 t ∧ t.mem = s.mem)))) ∧
  (s.host.remote = some r →
    let due := max 1 (s.get HOST_REMOTE_CFG_TIMEOUT) * msAge ≤ (s.clk.age - r.since) * 1000
    (due → ∃ t, exec .remoteTimeout s = .next t ∧ Done 5 t ∧ Raised 545 s t ∧
      WordsKeptBut [HOST_REMOTE_STAT_RESULT.addr, HOST_STAT_REMOTE_DONE.addr] s t) ∧
    (¬ due → exec .remoteTimeout s = .next s)) ∧
  (s.host.remote = none → exec .remoteTimeout s = .next s) ∧
  (s.pwr.held = false → s.pwr.off = false → ∃ t, exec .hostSelect s = .next t ∧ Raised 585 s t ∧ WordsKeptBut [] s t ∧
    (live → t.host = { s.host with width := if s.get HOST_CFG_WIDTH < 5 then s.get HOST_CFG_WIDTH else 0 }) ∧ (¬ live → t.host = s.host)) ∧
  (s.pwr.held = true ∨ s.pwr.off = true → exec .hostSelect s = .next s) ∧
  (s.busStopped = true → ∃ t, exec (.hostSleep level) s = .next t ∧ t.host = { s.host with pin := level } ∧ t.mem = s.mem ∧ WordsKept [] s t) ∧
  (s.busStopped = false → s.ready 0x50 = false ∨ lv = s.on HOST_STAT_SLEEP → exec (.hostSleep level) s = .next { s with host := { s.host with pin := level } }) ∧
  (s.busStopped = false → s.ready 0x50 = true → lv ≠ s.on HOST_STAT_SLEEP → ∃ t, exec (.hostSleep level) s = .next t ∧ t.host.pin = level ∧
    t.on HOST_STAT_SLEEP = lv ∧ t.mem = s.mem ∧ WordsKeptBut [HOST_STAT_SLEEP.addr] s t) ∧
  let held := 16 * (if s.clksrc = 0 then 16 else 64)
  (s.host.hold = false ∨ s.clk.age < s.host.holdAt + held → exec .attnHoldoffEnd s = .next s) ∧
  (s.busStopped = false → s.on HOST_ATTN_LEVEL = false → s.host.hold = true → s.host.holdAt + held ≤ s.clk.age →
    ∃ t, exec .attnHoldoffEnd s = .next t ∧ t.host.hold = false ∧ t.mem = s.mem ∧ (t.on HOST_ATTN_LEVEL = attnWanted s))

/-! ### The ring (spec/18) -/

namespace Sys2Proof.Claims

/-- R312: a frame of this hub comes back to it, where no hub has wrapped it toward its place. -/
def Returned (s : State) (f : Frame) : Prop := ownNumber s = some f.src ∧ (f.wraps = 0 ∨ f.wraps = 2)

/-- At least `k` have passed since a moment, if there was one. -/
def Since (s : State) (moment : Option Nat) (k : Nat) : Prop := ∀ a, moment = some a → a + k ≤ s.clk.age

/-- R312: the hub takes frame `f` that port `p` receives: it is link-local, or for this hub, or a new broadcast of another hub. -/
def Hears (s : State) (p : Nat) (f : Frame) : Prop :=
  ringHere s = true ∧ portUp s p = true ∧
  (f.dst = 0xFE ∨ (¬ Returned s f ∧ (ownNumber s = some f.dst ∨ (f.dst = 0xFF ∧ f.ttl ≠ 1 ∧ newSeq s p f = true))))

/-- Frames of this hub leave as port `p` or, while it is wrapped, the other one carries them. -/
def LeavesBy (s : State) (p : Nat) (f : Frame) (out : List (Nat × Frame)) : Prop :=
  (portUp s p = true → (p, f) ∈ out) ∧ (portUp s p = false → portUp s (1 - p) = true → (1 - p, { f with wraps := 1 }) ∈ out)

/-- The held bit of number `n` in the ring map. -/
def mapBit (n : Nat) : Fld := ⟨RING_MAP_LO_HELD.addr + 4 * (n / 32), n % 32, 1⟩

/-- Words of the ring map. -/
def mapWords : List Nat := [RING_MAP_LO_HELD.addr, RING_MAP_HI_HELD.addr, RING_MAP_GEN_GEN.addr]

end Sys2Proof.Claims

/-- R314: what waits leaves in the order time critical and forwarded, time critical of this hub, other forwarded, REG of this hub, DATA of this
hub, and within one of them in the order in which it came; a port that is free takes a frame at once, and one that is not lets it wait; a frame in
progress is never interrupted, and the next one begins when it has left. A frame of a payload of n bytes takes n + 22 symbols of 3.90625 ns, which are
256 units of 1/25 PLL cycle. -/
def Sys2Proof.Claims.TransmitOrder : Prop :=
  (∀ x : Sending, x.rank = match x.frame.body with
    | .beacon _ | .pdelayReq | .pdelayResp _ _ | .enum _ | .ack _ => if x.transit then 0 else 1
    | .regReq _ _ _ _ _ | .regResp _ _ _ => if x.transit then 2 else 3
    | .data _ => if x.transit then 2 else 4) ∧
  (∀ (before after : List Sending) (x : Sending), (∀ y, y ∈ before → x.rank < y.rank) → (∀ y, y ∈ after → x.rank ≤ y.rank) →
    nextFrame (before ++ x :: after) = some x) ∧
  (∀ ws, nextFrame ws = none → ws = []) ∧
  ∀ (s : State) (p k : Nat) (transit : Bool) (f : Frame),
    let x := s.ringPort p
    let now := s.clk.age * 25
    (x.wait = [] → x.busy ≤ now → (linkTakes p transit f s).ringPort p = { x with now := some f, busy := now + (bodyLen f.body + 22) * 256 }) ∧
    (x.wait ≠ [] ∨ now < x.busy → (linkTakes p transit f s).ringPort p = { x with wait := x.wait ++ [{ transit := transit, frame := f }] }) ∧
    (now < x.busy → linkRun k p s = s) ∧
    (x.busy ≤ now → x.wait = [] → (linkRun (k + 1) p s).ringPort p = { x with now := none }) ∧
    ∀ y, x.busy ≤ now → nextFrame x.wait = some y → now < x.busy + (bodyLen y.frame.body + 22) * 256 →
      (linkRun (k + 1) p s).ringPort p =
        { x with wait := x.wait.erase y, now := some y.frame, busy := x.busy + (bodyLen y.frame.body + 22) * 256 }

/-- R309 to R312, R324, R325: a port trains from DOWN to UP one state at a time, goes down from any of them, and wraps and unwraps with a record and
the LINK pulse; bad frames are counted; frames for other hubs are passed on by the other port, or back by the same one while that is wrapped. -/
def Sys2Proof.Claims.LinksAndForwarding : Prop :=
  ∀ (s : State) (p uid peer errs : Nat) (f : Frame) (unknown : Bool), p < 2 → uid < 2 ^ 64 → peer < 2 → errs < 65536 →
  let st := RINGP_PORT_STAT_STATE p
  let Goes (i : Instr) (n : Nat) (as : List Nat) (Q : State → Prop) : Prop := ∃ t, exec i s = .next t ∧ t.get st = n ∧
    WordsKeptBut (st.addr :: as) s t ∧ Q t
  let regs (t : State) : Prop := t = { s with regs := t.regs }
  let wrapped := RINGP_PORT_STAT_WRAPPED p
  let healed := (s.ringPort p).heldAt + max 1 (s.get RING_HEAL_CFG_MS) * msAge ≤ s.clk.age
  let peerWords := [(RINGP_PEER_UID_LO_UID p).addr, (RINGP_PEER_UID_HI_UID p).addr]
  (s.ready (0x51 + p) = true → s.get st = 1 → s.clksrc = 0 → Goes (.signalDetect p) 2 [] regs) ∧
  (s.ready (0x51 + p) = false ∨ s.get st ≠ 1 ∨ s.clksrc ≠ 0 → exec (.signalDetect p) s = .next s) ∧
  (s.get st = 2 → Goes (.alignDone p) 3 [] regs) ∧ (s.get st ≠ 2 → exec (.alignDone p) s = .next s) ∧
  (s.get st = 3 → uid ≠ ownUid → Goes (.trainDone p uid peer) 4 peerWords (fun t => t = { s with regs := t.regs, ring := t.ring } ∧
    (t.ringPort p).heldAt = s.clk.age ∧ t.get (RINGP_PORT_STAT_PEER_PORT p) = peer ∧
    t.get (RINGP_PEER_UID_LO_UID p) = uid % 2 ^ 32 ∧ t.get (RINGP_PEER_UID_HI_UID p) = uid / 2 ^ 32)) ∧
  (s.get st = 3 → uid = ownUid → Goes (.trainDone p uid peer) 3 ((PG_FAULT_bit (0x51 + p) 3).addr :: peerWords) (fun t => regs t ∧
    t.on (PG_FAULT_bit (0x51 + p) 3) = true)) ∧
  (s.get st ≠ 3 → exec (.trainDone p uid peer) s = .next s) ∧
  (s.get st = 4 → healed → Goes (.heal p) 5 bbWords (fun t => t.on wrapped = false ∧ Recorded 0x0050 s t ∧ Raised 552 s t)) ∧
  (s.get st ≠ 4 ∨ ¬ healed → exec (.heal p) s = .next s) ∧
  (s.get st < 2 → exec (.linkDown p errs) s = .next s) ∧
  (2 ≤ s.get st → s.get st < 4 → Goes (.linkDown p errs) 1 [(RINGP_ERR_CNT_CODE p).addr] (fun t =>
    t.get (RINGP_ERR_CNT_CODE p) = min (s.get (RINGP_ERR_CNT_CODE p) + errs) 0xFFFF)) ∧
  (4 ≤ s.get st → Goes (.linkDown p errs) 1 ([(RINGP_ERR_CNT_CODE p).addr, (RINGP_DOWNS_COUNT p).addr, (PG_FAULT_bit (0x51 + p) 0).addr] ++ bbWords)
    (fun t => t.get (RINGP_ERR_CNT_CODE p) = min (s.get (RINGP_ERR_CNT_CODE p) + errs) 0xFFFF ∧
      t.get (RINGP_DOWNS_COUNT p) = min (s.get (RINGP_DOWNS_COUNT p) + 1) 0xFFFF ∧ t.on (PG_FAULT_bit (0x51 + p) 0) = true ∧
      (s.get st = 5 → t.on wrapped = true ∧ Recorded 0x0050 s t ∧ Raised 552 s t))) ∧
  (portUp s p = false → exec (.frameError p unknown) s = .next s) ∧
  (portUp s p = true → Goes (.frameError p true) 5 [(RINGP_DROP_CNT_TYPE p).addr] (fun t => Raised 557 s t ∧
      t.get (RINGP_DROP_CNT_TYPE p) = min (s.get (RINGP_DROP_CNT_TYPE p) + 1) 0xFFFF) ∧
    Goes (.frameError p false) 5 [(RINGP_ERR_CNT_CRC p).addr, (PG_FAULT_bit (0x51 + p) 1).addr] (fun t => Raised 557 s t ∧
      t.on (PG_FAULT_bit (0x51 + p) 1) = true ∧ t.get (RINGP_ERR_CNT_CRC p) = min (s.get (RINGP_ERR_CNT_CRC p) + 1) 0xFFFF)) ∧
  (ringHere s = true → portUp s p = true → f.dst < 64 → ∀ i,
    (∃ d, f.body = .data d ∧ i = .dataFrame p f) ∨ (∃ q, f.body = .ack q ∧ i = .ackFrame p f) ∨ (∃ e, f.body = .enum e ∧ i = .enumJoin p f) ∨
      (∃ g cs ws, f.body = .regResp g cs ws ∧ i = .regResp p f) →
    (Returned s f → exec i s = .next { s with ring := { s.ring with out := [] } }) ∧
    (¬ Returned s f → ownNumber s ≠ some f.dst → f.ttl = 1 → ∃ t, exec i s = .next t ∧ t.ring.out = [] ∧ Raised 557 s t ∧ t.get (RINGP_DROP_CNT_TTL p) = min (s.get (RINGP_DROP_CNT_TTL p) + 1) 0xFFFF ∧
      WordsKeptBut [(RINGP_DROP_CNT_TTL p).addr] s t) ∧
    (¬ Returned s f → ownNumber s ≠ some f.dst → f.ttl ≠ 1 →
      let sent := if portUp s (1 - p) then (1 - p, { f with ttl := f.ttl - 1 }) else (p, { f with ttl := f.ttl - 1, wraps := (f.wraps + 1) % 4 })
      ∃ t, exec i s = .next t ∧ t = { s with ring := { s.ring with out := [sent], ports := t.ring.ports } } ∧
        (∀ q, q ≠ sent.1 → t.ringPort q = s.ringPort q) ∧ (linkFree s sent.1 = true → (t.ringPort sent.1).now = some sent.2) ∧
        (linkFree s sent.1 = false → (t.ringPort sent.1).wait = (s.ringPort sent.1).wait ++ [{ transit := true, frame := sent.2 }])))

/-- R309 to R312, R314, R324, R325: the links, forwarding, and the order in which a port transmits. -/
def Obligations.RingLinks : Prop := Sys2Proof.Claims.LinksAndForwarding ∧ Sys2Proof.Claims.TransmitOrder

/-- R315, R317: JOINs and HELLOs go to the active head, which grants numbers, refuses them, queues a JOIN for software and watches its members; a GRANT
and a REFUSE for this hub give and take its number. -/
def Obligations.RingNumbering : Prop :=
  ∀ (s : State) (m : Master) (p n : Nat) (f : Frame) (e : Enum) (v : Word), p < 2 → n < 64 → e.number < 64 → e.uid < 2 ^ 64 → (∀ w, e.want = some w → w < 64) →
  let out (t : State) := t.ring.out
  let Sends (i : Instr) (q dst : Nat) (b : FrameBody) : Prop := ∃ t k, exec i s = .next t ∧ t = { s with ring := t.ring } ∧
    LeavesBy s q { dst := dst, src := (ownNumber s).getD 0xFF, seq := k, body := b } (out t)
  let Silent (i : Instr) : Prop := exec i s = .next { s with ring := { s.ring with out := [] } }
  let Answers (kind num : Nat) (t : State) : Prop := Raised 554 s t ∧ ∃ k w, portUp s p = true → (p, { dst := 0xFF, src := (ownNumber s).getD 0xFF, seq := k, body := .enum { kind := kind, uid := w, want := none, number := num, hopsE := 0, hopsW := 0 } }) ∈ out t
  let Grants (num : Nat) (t : State) : Prop := Answers 1 num t ∧ t.on (mapBit num) = true ∧ (t.member num).last = s.clk.age ∧ WordsKeptBut mapWords s t
  let role := s.get RING_STAT_ROLE
  let hops (q : Nat) : Nat := ((s.ringPort q).beats.head?.map (fun b => b.2)).getD 0
  let joins := ringHere s = true ∧ s.on RING_STAT_NUM_VALID = false ∧ s.on RING_STAT_BEACON_OK = true ∧ role ≠ 1 ∧
    Since s s.ring.joinAt ((if s.ring.refused then 1000 else 10) * msAge)
  let tells := ringHere s = true ∧ s.on RING_STAT_NUM_VALID = true ∧ role ≠ 1 ∧ Since s s.ring.helloAt (100 * msAge)
  let head := s.get RING_STAT_ACTIVE_HEAD
  let want := if s.on RING_ID_WANT_VALID then some (s.get RING_ID_WANT) else none
  let toward := if s.on RING_STAT_TSRC_PORT then 0 else 1
  let Hear (kind : Nat) : Prop := Hears s p f ∧ f.body = .enum e ∧ e.kind = kind
  (joins → Sends .joinSend toward head (.enum { kind := 0, uid := ownUid, want := want, number := 0, hopsE := 0, hopsW := 0 })) ∧
  (¬ joins → Silent .joinSend) ∧
  (tells → Sends .helloSend toward head
    (.enum { kind := 2, uid := ownUid, want := none, number := s.get SYS_HUB_NUMBER, hopsE := hops 0, hopsW := hops 1 })) ∧
  (¬ tells → Silent .helloSend) ∧
  (Hear 0 → role = 1 →
    (∀ num, numberOf s e.uid = some num → num < 64 → ∃ t, exec (.enumJoin p f) s = .next t ∧ Grants num t) ∧
    (numberOf s e.uid = none → s.on RING_HEAD_CFG_AUTO = true →
      (∀ w, e.want = some w → heldNumber s w = false → ∃ t, exec (.enumJoin p f) s = .next t ∧ Grants w t ∧ (t.member w).uid = e.uid) ∧
      (∀ num, (e.want = none ∨ ∃ w, e.want = some w ∧ heldNumber s w = true) → num < 64 → heldNumber s num = false → (∀ j, j < num → heldNumber s j = true) →
        ∃ t, exec (.enumJoin p f) s = .next t ∧ Grants num t ∧ (t.member num).uid = e.uid) ∧
      ((∀ j, j < 64 → heldNumber s j = true) → ∃ t, exec (.enumJoin p f) s = .next t ∧ Answers 3 0 t ∧ WordsKeptBut [] s t)) ∧
    (numberOf s e.uid = none → s.on RING_HEAD_CFG_AUTO = false →
      (s.on RING_JOIN_Q_VALID = false → ∃ t, exec (.enumJoin p f) s = .next t ∧ t.on RING_JOIN_Q_VALID = true ∧
        t.get RING_JOIN_UID_LO_UID = e.uid % 2 ^ 32 ∧ t.get RING_JOIN_UID_HI_UID = e.uid / 2 ^ 32 ∧ t.on RING_JOIN_Q_WANT_VALID = e.want.isSome ∧
        t.get RING_JOIN_Q_WANT = e.want.getD 0 ∧ WordsKeptBut [RING_JOIN_Q_VALID.addr, RING_JOIN_UID_LO_UID.addr, RING_JOIN_UID_HI_UID.addr] s t) ∧
      (s.on RING_JOIN_Q_VALID = true → ∃ t, exec (.enumJoin p f) s = .next t ∧ t = { s with ring := t.ring } ∧ t.ring.members = s.ring.members))) ∧
  (Serves m 0x53 s →
    (bit v.toNat 31 = false ∨ s.on RING_JOIN_Q_VALID = false → ∃ t, exec (.ringGrantWrite m v) s = .next t ∧ (reply m t).resp = .ok ∧
      t.ring = { s.ring with out := [] } ∧ WordsKeptBut [] s t) ∧
    (bit v.toNat 31 = true → s.on RING_JOIN_Q_VALID = true → s.ring.joinPort = p →
      (bit v.toNat 30 = false → v.toNat % 64 = n → heldNumber s n = false → ∃ t, exec (.ringGrantWrite m v) s = .next t ∧ (reply m t).resp = .ok ∧
        t.on RING_JOIN_Q_VALID = false ∧ Answers 1 n t ∧ t.on (mapBit n) = true ∧ (t.member n).last = s.clk.age ∧
        WordsKeptBut (RING_JOIN_Q_VALID.addr :: mapWords) s t) ∧
      (bit v.toNat 30 = true ∨ heldNumber s (v.toNat % 64) = true → ∃ t, exec (.ringGrantWrite m v) s = .next t ∧ (reply m t).resp = .ok ∧
        t.on RING_JOIN_Q_VALID = false ∧ Answers 3 0 t ∧ WordsKeptBut [RING_JOIN_Q_VALID.addr] s t))) ∧
  (Hear 1 → e.uid ≠ ownUid → ∃ t, exec (.grant p f) s = .next t ∧ t = { s with ring := t.ring }) ∧
  (Hear 1 → e.uid = ownUid → s.on RING_ID_WANT_VALID = true → s.get RING_ID_WANT = e.number → ∃ t, exec (.grant p f) s = .next t ∧
    t.get SYS_HUB_NUMBER = e.number ∧ t.on SYS_HUB_NUM_VALID = true ∧ t.on RING_STAT_NUM_VALID = true ∧ Raised 558 s t ∧
    WordsKeptBut [SYS_HUB_NUMBER.addr, RING_STAT_NUM_VALID.addr] s t) ∧
  (Hear 1 → e.uid = ownUid → s.on RING_ID_WANT_VALID = false ∨ s.get RING_ID_WANT ≠ e.number → ∃ t, exec (.grant p f) s = .next t ∧
    t.get SYS_HUB_NUMBER = e.number ∧ t.on RING_STAT_NUM_VALID = true ∧ t.get RING_ID_WANT = e.number ∧ t.on RING_ID_WANT_VALID = true) ∧
  (Hear 2 → role = 1 →
    let x := s.member e.number
    ((ownNumber s ≠ some e.number ∧ heldNumber s e.number = true ∧ x ≠ {} ∧ x.uid ≠ e.uid) ∨
      (ownNumber s = some e.number ∧ heldNumber s e.number = true ∧ e.uid ≠ ownUid) → ∃ t, exec (.hello p f) s = .next t ∧ Raised 554 s t ∧ WordsKeptBut [] s t ∧
      t.ring.members = s.ring.members ∧ (portUp s p = true → ∃ k, (p, { dst := f.src, src := (ownNumber s).getD 0xFF, seq := k, body := .enum { kind := 3, uid := e.uid, want := none, number := e.number, hopsE := 0, hopsW := 0 } }) ∈ out t)) ∧
    (heldNumber s e.number = false ∨ ownNumber s ≠ some e.number ∧ x.uid = e.uid → ∃ t, exec (.hello p f) s = .next t ∧ t.member e.number = { uid := e.uid, last := s.clk.age } ∧
      t.on (mapBit e.number) = true ∧ WordsKeptBut mapWords s t)) ∧
  (Hear 3 → e.uid = ownUid →
    (s.on RING_STAT_NUM_VALID = true → ∃ t, exec (.refuse p f) s = .next t ∧ t.on RING_STAT_NUM_VALID = false ∧ t.on SYS_HUB_NUM_VALID = false ∧
      t.get SYS_HUB_NUMBER = 0 ∧ Raised 558 s t ∧ WordsKeptBut [SYS_HUB_NUMBER.addr, RING_STAT_NUM_VALID.addr] s t) ∧
    (s.on RING_STAT_NUM_VALID = false → ∃ t, exec (.refuse p f) s = .next t ∧ t.on RING_STAT_REFUSED = true ∧ t.on (PG_FAULT_bit 0x53 0) = true ∧
      WordsKept [RING_STAT_REFUSED.addr, (PG_FAULT_bit 0x53 0).addr] s t)) ∧
  (let x := s.member n
   let silent := role = 1 ∧ heldNumber s n = true ∧ ownNumber s ≠ some n ∧ x.absent = none ∧ max x.last s.ring.activeAt + 300 * msAge ≤ s.clk.age
   (silent → ∃ t, exec (.memberAbsent n) s = .next t ∧ t.member n = { x with absent := some s.clk.age } ∧ Raised 554 s t ∧ WordsKeptBut [] s t) ∧
   (¬ silent → exec (.memberAbsent n) s = .next s) ∧
   (∀ a, role = 1 → x.absent = some a → a + s.get RING_HEAD_CFG_HOLD * 1000 * msAge ≤ s.clk.age → heldNumber s n = true →
     ∃ t, exec (.numberHoldExpire n) s = .next t ∧ t.on (mapBit n) = false ∧ t.member n = {} ∧ WordsKept mapWords s t) ∧
   (x.absent = none → exec (.numberHoldExpire n) s = .next s))

/-- R318 to R323: an accepted beacon gives the map, the head and the offset, and steers TRIM; a worse head's is passed on without effect; beacons
missed, the takeover by a standby head, the beacons it sends, and the peer delay. -/
def Obligations.RingTime : Prop :=
  ∀ (s : State) (p tin res t1 t2 t3 t4 : Nat) (f : Frame) (b : Beacon), p < 2 →
  b.map < 2 ^ 64 → b.gen < 2 ^ 32 → b.head < 64 → b.hops < 64 → f.body = .beacon b → f.dst = 0xFF →
  let role := s.get RING_STAT_ROLE
  let here := ringHere s = true
  let up := portUp s p = true
  let me := (s.get RING_HEAD_CFG_PRIO, ownUid)
  let o := sat 32 ((tin : Int) - ((b.origin : Int) + b.corr + s.getS (RINGP_PDELAY_D p)))
  let passed : List (Nat × Frame) := if portUp s (1 - p) then
    [(1 - p, { f with ttl := f.ttl - 1, body := .beacon { b with corr := sx 48 (ux 48 (b.corr + s.getS (RINGP_PDELAY_D p) + res)), hops := b.hops + 1 } })] else []
  let worse := (role = 1 ∧ betterHead (b.prio, b.uid) me = false) ∨ ∃ h, role ≠ 1 ∧ s.ring.head = some h ∧ betterHead h (b.prio, b.uid) = true
  let x := s.ringPort p
  let Fails (t : State) : Prop := t.on (PG_FAULT_bit (0x51 + p) 2) = true ∧ Raised 621 s t
  (Hears s p f →
    (worse → ∃ t, exec (.beacon p f tin res) s = .next t ∧ t.ring.out = passed ∧ t.regs = s.regs ∧ t.trim = s.trim) ∧
    (¬ worse → ∃ t, exec (.beacon p f tin res) s = .next t ∧ t.ring.out = passed ∧ t.ring.head = some (b.prio, b.uid) ∧ t.ring.misses = 0 ∧
      t.get RING_MAP_LO_HELD = b.map % 2 ^ 32 ∧ t.get RING_MAP_HI_HELD = b.map / 2 ^ 32 ∧ t.get RING_MAP_GEN_GEN = b.gen ∧
      t.get RING_STAT_ACTIVE_HEAD = b.head ∧ t.on RING_STAT_BEACON_OK = true ∧ t.get RING_BEACONS_RX = (s.get RING_BEACONS_RX + 1) % 65536 ∧
      (s.on SYS_HUB_HEAD = true → t.get RING_STAT_ROLE = 2) ∧ (s.ring.head ≠ some (b.prio, b.uid) → Raised 559 s t) ∧
      ((s.ringPort (1 - p)).beats = [] → t.getS RING_OFFSET_O = o ∧ t.get RING_STAT_HOPS = b.hops ∧ t.get RING_STAT_TSRC_PORT = 1 - p ∧
        (s.get TB_DISC_CTRL_SRC ≠ 2 → s.ring.other = none → t.trim = s.trim) ∧
        (s.get TB_DISC_CTRL_SRC = 2 → role ≠ 1 → s.get RING_STEP_THR_TICKS = 0 → s.ring.servo = true → s.ring.other = none →
          let i := sat 32 (s.getS RING_TSERVO_INT_INT + s.get RING_TSERVO_GAIN_KI * o)
          let u := -((s.get RING_TSERVO_GAIN_KP * o + i) / 256)
          (u.natAbs ≤ 858993 → t.trim = u ∧ t.getS RING_TSERVO_INT_INT = i) ∧
          (858993 < u.natAbs → t.trim = (if u < 0 then -858993 else 858993) ∧ t.getS RING_TSERVO_INT_INT = s.getS RING_TSERVO_INT_INT ∧
            Raised 615 s t))))) ∧
  let ms := s.tb / 131072
  (here → role = 1 → s.ring.beaconMs ≠ some ms → (∀ q, q < 2 → portUp s q = true) → t1 / 2 ^ 33 = ms → t2 / 2 ^ 33 = ms → ∃ t k j, exec (.beaconSend t1 t2) s = .next t ∧ t = { s with ring := t.ring } ∧
    (let now : Beacon := {
       origin := 0, corr := 0, hops := 0, head := (ownNumber s).getD 0, prio := s.get RING_HEAD_CFG_PRIO, uid := ownUid,
       map := s.get RING_MAP_LO_HELD + s.get RING_MAP_HI_HELD * 2 ^ 32, gen := s.get RING_MAP_GEN_GEN }
     let me := (ownNumber s).getD 0xFF
     t.ring.out = [(0, { dst := 0xFF, src := me, seq := k, body := .beacon { now with origin := t1 } }),
       (1, { dst := 0xFF, src := me, seq := j, body := .beacon { now with origin := t2 } })])) ∧
  (¬ here ∨ role ≠ 1 ∨ s.ring.beaconMs = some ms ∨ (up ∧ (if p = 0 then t1 else t2) / 2 ^ 33 ≠ ms) → exec (.beaconSend t1 t2) s = .next { s with ring := { s.ring with out := [] } }) ∧
  (here → role ≠ 1 → Since s s.ring.heardAt msAge → s.ring.other = none → ∃ t, exec .beaconMiss s = .next t ∧ t.ring.misses = s.ring.misses + 1 ∧ t.trim = s.trim ∧
    t.get RING_BEACONS_MISSED = min (s.get RING_BEACONS_MISSED + 1) 65535 ∧
    (s.ring.misses = 2 → t.on RING_STAT_BEACON_OK = false ∧ t.ring.head = none ∧ (s.on RING_STAT_BEACON_OK = true → Raised 620 s t ∧ t.on RING_STAT_TLOCK = false)) ∧
    (s.ring.misses ≠ 2 → WordsKept [RING_BEACONS_MISSED.addr] s t)) ∧
  (¬ here ∨ role = 1 ∨ ¬ Since s s.ring.heardAt msAge → exec .beaconMiss s = .next s) ∧
  (let takes := here ∧ s.on SYS_HUB_HEAD = true ∧ role ≠ 1 ∧ 3 ≤ s.ring.misses ∧ s.ring.missMs ≠ some ms
   (¬ takes → exec .headTakeover s = .next s) ∧
   (takes → ∃ t, exec .headTakeover s = .next t ∧ t.get RING_STAT_ROLE = 1 ∧ Raised 559 s t ∧
     ∀ n, ownNumber s = some n → t.get RING_STAT_ACTIVE_HEAD = n ∧ t.on (mapBit n) = true ∧ WordsKeptBut (RING_STAT_ROLE.addr :: mapWords) s t)) ∧
  (¬ here ∨ ¬ up ∨ ¬ Since s x.reqAt msAge → exec (.pdelayReqSend p t1) s = .next { s with ring := { s.ring with out := [] } }) ∧
  (here → up → Since s x.reqAt msAge → ∃ t k, exec (.pdelayReqSend p t1) s = .next t ∧ (t.ringPort p).t1 = some t1 ∧
    t.ring.out = [(p, { dst := 0xFE, src := (ownNumber s).getD 0xFF, seq := k, body := .pdelayReq })] ∧
    (x.t1 ≠ none → x.unanswered = 2 → Fails t ∧ WordsKeptBut [(PG_FAULT_bit (0x51 + p) 2).addr] s t) ∧ (x.t1 = none → x.unanswered = 0 → WordsKept [] s t)) ∧
  (∀ g : Frame, here → up → g.dst = 0xFE →
    (g.body = .pdelayReq → ∃ t k, exec (.pdelayReq p g t2 t3) s = .next t ∧ t = { s with ring := t.ring } ∧
      t.ring.out = [(p, { dst := 0xFE, src := (ownNumber s).getD 0xFF, seq := k, body := .pdelayResp t2 t3 })]) ∧
    (g.body = .pdelayResp t2 t3 → x.t1 = none → ∃ t, exec (.pdelayResp p g t4) s = .next t ∧ t.regs = s.regs) ∧
    (g.body = .pdelayResp t2 t3 → x.t1 = some t1 →
      let twice : Int := ((t4 : Int) - t1) - ((t3 : Int) - t2) + s.getS (RINGP_ASYM_ASYM p)
      let d := twice / 2
      let old := s.getS (RINGP_PDELAY_D p)
      twice % 2 = 0 → -(2 ^ 31) ≤ d → d < 2 ^ 31 → ∃ t, exec (.pdelayResp p g t4) s = .next t ∧ (t.ringPort p).t1 = none ∧
        (x.hasD = false → t.getS (RINGP_PDELAY_D p) = d ∧ t.getS (RINGP_PDELAY_LAST_D p) = d) ∧
        (x.hasD = true → (d - old).natAbs * 10 ≤ 851968 → t.getS (RINGP_PDELAY_LAST_D p) = d ∧
          (t.getS (RINGP_PDELAY_D p) = old + (d - old) / 16 ∨ (d - old) % 16 ≠ 0 ∧ t.getS (RINGP_PDELAY_D p) = old + (d - old) / 16 + 1)) ∧
        (x.hasD = true → 851968 < (d - old).natAbs * 10 → Fails t ∧ WordsKeptBut [(PG_FAULT_bit (0x51 + p) 2).addr] s t)))

/-- R316, R326 to R331: frames of a route carry its packets in order; the receiver opens the packet of a FIRST frame, drops repeats, counts conflicts and
gaps; acknowledgements and resends; remote accesses of other hubs and the answers to this hub's. -/
def Obligations.RingTraffic : Prop :=
  ∀ (s : State) (p q k : Nat) (f : Frame) (d : DataFrag) (xs : List Sense) (us : List Upset) (r : Remote), p < 2 → q < 512 → d.lane < 4 →
  f.seq < 65536 → s.steps = [] → ownNumber s = some f.dst → f.src ≠ f.dst →
  let here := ringHere s = true ∧ portUp s p = true
  let rx := s.ringRx q
  let tx := s.ringTx q
  let kept := s.ring.retry.filter (fun y => y.queue == q)
  let Error (c : Fld) (bit' n : Nat) (t : State) : Prop := t.get c = min (s.get c + n) 65535 ∧ t.on (PG_FAULT_bit 0x53 bit') = true ∧ Raised 556 s t
  let me := f.dst
  let again (t : State) : Prop := t.tongs = s.tongs ∧ t.mem = s.mem ∧ t.regs = s.regs
  let Silent (i : Instr) : Prop := exec i s = .next { s with ring := { s.ring with out := [] } }
  (here → f.body = .data d → d.queue = q →
    (rx.opened = true → rx.src ≠ f.src → d.first = true → ∃ t, exec (.dataFrame p f) s = .next t ∧ Error RING_RX_STAT_CONFLICT 3 1 t ∧ t.tongs = s.tongs ∧
      t.mem = s.mem) ∧
    (∀ n, rx.src = f.src → rx.next = some n → 32768 ≤ (f.seq + 65536 - n) % 65536 → ∃ t, exec (.dataFrame p f) s = .next t ∧ again t) ∧
    (∀ n, rx.src = f.src → rx.next = some n → 0 < (f.seq + 65536 - n) % 65536 → (f.seq + 65536 - n) % 65536 < 32768 →
      (d.ack = true → s.clk.age < rx.last + msAge → ∃ t, exec (.dataFrame p f) s = .next t ∧ again t ∧ (t.ringRx q).next = some n) ∧
      (d.ack = false ∨ rx.last + msAge ≤ s.clk.age → rx.opened = false → d.first = false → ∃ t, exec (.dataFrame p f) s = .next t ∧
        Error RING_RX_STAT_GAP 2 1 t ∧ (t.ringRx q).next = some ((f.seq + 1) % 65536) ∧ t.tongs = s.tongs ∧ t.mem = s.mem)) ∧
    (rx.opened = false → rx.src = f.src → rx.next = none ∨ rx.next = some f.seq → d.first = true → d.last = false → d.poison = false → d.bytes = 4 →
      (∀ w, d.words = [w] → s.on (TONGSQ_Q0_EN q) = true → hasRoom q s = true → ∃ t z c, exec (.dataFrame p f) s = .next t ∧
        (t.ringRx q).opened = true ∧ (t.ringRx q).next = some ((f.seq + 1) % 65536) ∧ (t.queue q).pkts = (s.queue q).pkts ++ [z] ∧ z.lane = d.lane ∧
        z.writer = .ring (p == 1) ∧ z.cells = [c] ∧ c ∉ busyCells s ∧ z.opened = true ∧ z.readable = false ∧
        t.memWord (0x20000000 + c * 64) = 0xFFFF + w / 2 ^ 16 % 2 ^ 14 * 2 ^ 16 ∧ BytesKept (0x20000000 + c * 64) 4 s t))) ∧
  (here → f.body = .ack k → ∃ t, exec (.ackFrame p f) s = .next t ∧ again t ∧ (∀ y, y ∈ t.ring.retry → y ∈ s.ring.retry) ∧
    ∀ y e, y ∈ s.ring.retry → y.frame.body = .data e → (y ∈ t.ring.retry ↔
      ¬ (y.frame.dst = f.src ∧ e.queue = k ∧ (f.seq + 65536 - y.frame.seq) % 65536 < 32768))) ∧
  (ringHere s = false ∨ portUp s p = false ∨ linkFree s p = false → Silent (.dataFrameSend p us)) ∧
  (let x := (noRoute s).ringTx q
   here → linkFree s p = true → txOrder (noRoute s) p = [q] → x = tx → tx.active = true → tx.ended = true → tx.buf.length ≤ 256 → 0 < tx.buf.length →
   (∀ w, w ∈ tx.buf → w.2 = false) → s.get RING_BW_RATE = 0 → bit tx.route 30 = false → ∃ t e, exec (.dataFrameSend p us) s = .next t ∧
     t.ring.out = [(p, { wraps := if portUp s (routePort s tx.route) then 0 else 1, dst := tx.route / 2 ^ 16 % 64, src := me, seq := tx.fseq, body := .data e })] ∧
     e.first = !tx.begun ∧ e.last = true ∧ e.poison = false ∧ e.ack = false ∧ e.lane = tx.lane ∧ e.queue = tx.route % 512 ∧ e.pktTrunc = tx.trunc ∧
     e.pktPoison = tx.poison ∧ e.words = tx.buf.map (fun w => w.1) ∧ (t.ringTx q).active = false ∧ (t.ringTx q).fseq = (tx.fseq + 1) % 65536 ∧
     t.tongs = s.tongs) ∧
  (ringHere s = false ∨ rx.next = none ∨ rx.unacked = 0 → Silent (.ackSend q)) ∧
  (∀ n, ringHere s = true → rx.next = some n → rx.unacked ≠ 0 → rx.from' = p → ∃ t, exec (.ackSend q) s = .next t ∧ t = { s with ring := t.ring } ∧
    (t.ringRx q).unacked = 0 ∧ LeavesBy s p { dst := rx.src, src := me, seq := (n + 65535) % 65536, body := .ack q } t.ring.out) ∧
  (let due := ringHere s = true ∧ kept ≠ [] ∧ max 1 (s.get RING_RETRY_CFG_TO) * msAge ≤ (s.clk.age - tx.timer) * 1000
   (¬ due → Silent (.retryTimeout q)) ∧
   (due → tx.tries < 8 → ∃ t, exec (.retryTimeout q) s = .next t ∧ t.ring.retry = s.ring.retry ∧ (t.ringTx q).tries = tx.tries + 1 ∧ (t.ringTx q).timer = s.clk.age ∧
     t.get RING_RETRY_STAT_RESENT = min (s.get RING_RETRY_STAT_RESENT + kept.length) 65535 ∧ WordsKept [RING_RETRY_STAT_RESENT.addr] s t ∧
     ((∀ y, y ∈ kept → portUp s y.port = true) → t.ring.out = kept.map (fun y => (y.port, { y.frame with wraps := 0 })))) ∧
   (due → 8 ≤ tx.tries → ∃ t, exec (.retryTimeout q) s = .next t ∧ t.ring.out = [] ∧ Error RING_RETRY_STAT_LOST 1 kept.length t ∧ (t.ringTx q).tries = 0 ∧
     t.ring.retry = s.ring.retry.filter (fun y => y.queue != q))) ∧
  (rx.opened = true → rx.last + msAge ≤ s.clk.age → ∃ t, exec (.rxGap q) s = .next t ∧ (t.ringRx q).opened = false ∧ (t.ringRx q).next = rx.next ∧
    Error RING_RX_STAT_GAP 2 1 t) ∧
  (rx.opened = false ∨ s.clk.age < rx.last + msAge → exec (.rxGap q) s = .next s) ∧
  (∀ tag a n, here → n ≤ 16 → 0 < n → a % 4 = 0 →
    let Answer (t : State) (ws : List Nat) : Prop := t.ring.out = [(p, { dst := f.src, src := me, seq := SMap.get (fun _ => 0) s.ring.seqs 6, body := .regResp tag (List.replicate 16 0) ws })]
    (f.body = .regReq false tag n a [] → a + 4 * n ≤ 0x8000 → ∃ t, exec (.regReq p f xs) s = .next t ∧ t = { s with ring := t.ring } ∧
      Answer t ((List.range n).map (fun i => s.load (a + 4 * i) 4))) ∧
    (∀ ws, f.body = .regReq true tag n a ws → ws.length = n → (∀ w, w ∈ ws → w < 2 ^ 32) → 0x28008000 ≤ a → a + 4 * n ≤ 0x28010000 →
      ∃ t, exec (.regReq p f xs) s = .next t ∧ t = { s with ring := t.ring, mem := t.mem } ∧ Answer t [] ∧ BytesKept a (4 * n) s t ∧
        ∀ i, i < n → t.load (a + 4 * i) 4 = ws.getD i 0)) ∧
  (∀ tag cs ws, here → f.body = .regResp tag cs ws →
    (s.host.remote = none ∨ (s.host.remote = some r ∧ r.tag ≠ tag) → Silent (.regResp p f)) ∧
    (s.host.remote = some r → r.tag = tag → s.on HOST_REMOTE_STAT_WRITE = false → cs.length = 16 → (∀ c, c ∈ cs → c < 3) →
      (∀ w, w ∈ ws → w < 2 ^ 32) → ws.length = s.get HOST_REMOTE_STAT_N_M1 + 1 → ∃ t, exec (.regResp p f) s = .next t ∧ t.host.remote = none ∧
        t.on HOST_STAT_REMOTE_DONE = true ∧ Raised 545 s t ∧
        (let used := cs.take (s.get HOST_REMOTE_STAT_N_M1 + 1)
         t.get HOST_REMOTE_STAT_RESULT = if 2 ∈ used then 3 else if 1 ∈ used then 2 else 1) ∧
        ∀ i, i < ws.length → t.get (HOST_REMOTE_DATA_WORD i) = ws.getD i 0))

/-! ### The spelling of ring frames and host commands (spec/17, spec/18) -/

namespace Sys2Proof.Claims

/-- The low `k` bytes of a number, most significant first. -/
def big (k n : Nat) : List Nat := (List.range k).reverse.map (fun i => n / 256 ^ i % 256)

/-- The bytes of words, least significant first. -/
def littleWords (ws : List Word) : List Nat := ws.flatMap (fun w => (List.range 4).map (fun i => w.toNat / 256 ^ i % 256))

/-- A fragment says nothing in the bytes behind its last one. -/
def Filled (f : Frame) : Prop :=
  ∀ d w, f.body = .data d → d.words.getLast? = some w → d.bytes % 4 = 0 ∨ w < 256 ^ (d.bytes % 4)

end Sys2Proof.Claims

/-- R311, R313, R320, R321, R327: a frame of any TYPE, at every value of its fields, is read back from the bytes that spell it; those bytes are the
12 of the header, as many of payload as LEN says, and the CRC. Bytes whose CRC or LEN is wrong, and a TYPE that R313 does not list, spell none. -/
def Sys2Proof.Claims.FramesRoundTrip : Prop :=
  (∀ f : Frame, f.ok = true → Filled f → frameOf (frameBytes f) = some f ∧ (frameBytes f).length = bodyLen f.body + 16) ∧
  (∀ bs : List Nat, bs.length < 16 ∨ leNat (bs.drop (bs.length - 4)) ≠ crc32 (bs.take (bs.length - 4)) ∨
    bs.getD 6 0 * 256 + bs.getD 7 0 + 16 ≠ bs.length ∨ 8 ≤ bs.getD 0 0 / 16 → frameOf bs = none)

/-- R294, R295: the commands of the host port, spelled by their byte and their arguments, most significant byte first, and for a write by its data;
a byte that R294 does not list, and a command that CS_N cuts in its arguments. -/
def Sys2Proof.Claims.HostCommandsSpelled : Prop :=
  ∀ (a k hub q len : Nat) (v : Word) (ws : List Word) (bs : List Byte) (c : Nat) (more : List Nat),
  a < 2 ^ 32 → k < 16 → hub < 256 → q < 65536 → len < 65536 → ws.length ≤ k + 1 → bs.length ≤ len →
  decodeHost [] = none ∧ decodeHost (0x01 :: big 4 a ++ [k]) = some (.rd a k) ∧
  decodeHost (0x02 :: big 4 a ++ k :: littleWords ws) = some (.wr a k ws) ∧ decodeHost (0x05 :: more) = some .status ∧
  decodeHost (0x10 :: big 2 q) = some (.qrdW q) ∧ decodeHost (0x11 :: big 2 q) = some (.qrdP q) ∧
  decodeHost (0x18 :: big 4 v.toNat ++ big 2 len ++ bs.map (fun b => b.toNat)) = some (.qwr v len bs) ∧
  decodeHost (0x30 :: hub :: big 4 a ++ [k]) = some (.rrd hub a k) ∧
  decodeHost (0x31 :: hub :: big 4 a ++ k :: littleWords ws) = some (.rwr hub a k ws) ∧ decodeHost (0xFF :: more) = some .resetWidth ∧
  (c ∉ hostBytes → decodeHost (c :: more) = some (.bad c)) ∧
  (∀ n, (c, n) ∈ [(0x01, 5), (0x02, 5), (0x10, 2), (0x11, 2), (0x18, 6), (0x30, 6), (0x31, 6)] → more.length < n → decodeHost (c :: more) = some (.aborted c))

/-- R294, R295, R311, R313, R320, R321, R327: ring frames and host commands are read as they are spelled. -/
def Obligations.WireFormats : Prop := Sys2Proof.Claims.FramesRoundTrip ∧ Sys2Proof.Claims.HostCommandsSpelled

/-! ### Hearth (spec/19) and the black box (spec/22) -/

namespace Sys2Proof.Claims

/-- Word `i` of journal segment `k`, and the fields of its header: the state and the erase count. -/
def segAt (s : State) (k i : Nat) : Nat := s.memWord (0x11000000 + 0x1000 * k + 4 * i)

/-- A segment reads erased: its state is 0xF. -/
def segErased (s : State) (k : Nat) : Prop := segAt s k 0 / 2 ^ 12 % 16 = 15

/-- A commit of page `q` has failed with a cause between `s` and `t` (R342). -/
def CommitFails (q cause : Nat) (s t : State) : Prop :=
  t.on (PG_FAULT_bit q 31) = true ∧ t.on (PG_STAT_BUSY q) = false ∧ Recorded 0x0080 s t ∧ Raised 561 s t ∧
  (s.on HEARTH_LAST_FAIL_VALID = false → t.on HEARTH_LAST_FAIL_VALID = true ∧ t.get HEARTH_LAST_FAIL_CAUSE = cause ∧ t.get HEARTH_LAST_FAIL_PAGE = q)

/-- A write that PG_KEY does not admit: LOCKED_WRITE of the page, and nothing of the write's own. -/
def Locked (m : Master) (p : Nat) (s t : State) : Prop :=
  (reply m t).resp = .ok ∧ t.on (PG_FAULT_bit p 28) = true ∧ WordsKeptBut [(PG_FAULT_bit p 28).addr] s t ∧ t.mem = s.mem

end Sys2Proof.Claims

/-- R22, R339, R342, R343, R346, R348: a COMMIT queues its page once, or fails; the commit in progress ends unchanged, with a record and a new
generation, or with its cause; credits; a compaction; ERASE_ALL. -/
def Obligations.CommitsAndTheJournal : Prop :=
  ∀ (s : State) (m : Master) (p q bad k : Nat) (v : Word) (c : Commit), p ∈ [0x1B, 0x1C, 0x40, 0x41, 0x50, 0x51, 0x53, 0x59, 0x5A] → q < 96 → k < 56 →
  c.page < 96 →
  let h := s.hearth
  let busy (n : Nat) := PG_STAT_BUSY n
  let flags := HEARTH_FLAGS_ERASING.addr
  let credits (t : State) : Nat := SMap.get (fun _ => 8) t.hearth.credits q
  (Serves m p s → bit v.toNat 2 = false → bit v.toNat 4 = true →
    (s.on (busy p) = true → ∃ t, exec (.commit m p v) s = .next t ∧ (reply m t).resp = .ok ∧ t.on (PG_FAULT_bit p 30) = true ∧ t.hearth = h) ∧
    (s.on (busy p) = false → s.on HEARTH_FLAGS_NO_RESTORE = true → ∃ t, exec (.commit m p v) s = .next t ∧ CommitFails p 5 s t ∧ t.hearth = h) ∧
    (s.on (busy p) = false → s.on HEARTH_FLAGS_NO_RESTORE = false →
      (hearthBusy s = true → ∃ t, exec (.commit m p v) s = .next t ∧ t.on (busy p) = true ∧ t.hearth = { h with queue := h.queue ++ [p] } ∧ t.mem = s.mem) ∧
      (hearthBusy s = false → h.eraseWaits = false → h.queue = [] → ∃ t, exec (.commit m p v) s = .next t ∧ t.on (busy p) = true ∧ t.mem = s.mem ∧
        t.hearth.queue = [] ∧ t.hearth.running = some ⟨p, imageOf t p⟩))) ∧
  (Serves m 0x58 s → bit v.toNat 2 = false → ∃ t, exec (.commit m 0x58 v) s = .next t ∧ (reply m t).resp = .ok ∧ t.hearth = h ∧
    WordsKept [(PG_CTRL_ENABLE 0x58).addr, (PG_STAT_QUIESCED 0x58).addr] s t) ∧
  (h.running = none ∨ h.target ≠ none → exec (.commitDone bad) s = .next s) ∧
  (h.running = some c → h.target = none → h.eraseWaits = false →
    let left := SMap.get (fun _ => 8) h.credits c.page
    let new := recordWords c.page 1 0 true false [(0, c.image)]
    let full := s.get (PG_GEN_GEN c.page) = 0
    (∀ used, s.get (PG_GEN_GEN c.page) ≠ 0 →
      rebuild ((journal s).filter (fun r => r.page == c.page)) (resetImage c.page) ((journal s).length + 1) (s.get (PG_GEN_GEN c.page)) = some (c.image, used) →
      ∃ t, exec (.commitDone bad) s = .next t ∧ t.on (busy c.page) = false ∧ t.mem = s.mem ∧ t.hearth.credits = h.credits ∧
        t.get (PG_GEN_GEN c.page) = s.get (PG_GEN_GEN c.page)) ∧
    (full → left = 0 → ∃ t, exec (.commitDone bad) s = .next t ∧ CommitFails c.page 1 s t ∧ t.hearth.credits = h.credits) ∧
    (full → left ≠ 0 → bad = 0 → journalRoom s new.length = true → activeSeg s = some k → 4 ≤ h.pos → h.pos + new.length ≤ 1024 →
      ∃ t, exec (.commitDone 0) s = .next t ∧ t.on (busy c.page) = false ∧ t.get (PG_GEN_GEN c.page) = 1 ∧ t.on (PG_STAT_RESTORED c.page) = true ∧
        t.on (PG_STAT_DEFAULTED c.page) = false ∧ Raised 560 s t ∧ t.hearth.pos = h.pos + new.length ∧
        (∀ i, i < new.length → segAt t k (h.pos + i) = new.getD i 0 % 2 ^ 32) ∧ BytesKept (0x11000000 + 0x1000 * k + 4 * h.pos) (4 * new.length) s t) ∧
    (full → left ≠ 0 → 4 ≤ bad → journalRoom s (4 * new.length) = true → ∃ t, exec (.commitDone bad) s = .next t ∧ CommitFails c.page 2 s t ∧
      t.on (PG_FAULT_bit 0x58 0) = true) ∧
    (full → left ≠ 0 → journalRoom s ((if bad < 4 then bad + 1 else 4) * new.length) = false → oldestFull s = none →
      ∃ t, exec (.commitDone bad) s = .next t ∧ CommitFails c.page 3 s t)) ∧
  (s.tb / 131072000 = h.second → exec .commitCredit s = .next s) ∧
  (s.tb / 131072000 ≠ h.second → SMap.wf (fun _ => 8) h.credits = true → ∃ t, exec .commitCredit s = .next t ∧
    t = { s with hearth := { h with credits := t.hearth.credits, second := s.tb / 131072000 } } ∧
    (credits s ≤ 8 → credits t = min 8 (credits s + 1))) ∧
  (h.target = none → exec .compactionDone s = .next s) ∧
  (h.target = some k → h.eraseWaits = false → (∀ n g img used low, n < 96 → pageGen s n = some (g, img, used, low) → ∀ r, r ∈ used → k ∉ r.segs) →
    ∃ t, exec .compactionDone s = .next t ∧ segErased t k ∧ segAt t k 1 = (segAt s k 1 + 1) % 2 ^ 32 ∧ BytesKept (0x11000000 + 0x1000 * k) 0x1000 s t ∧
      (h.queue ≠ [] → t.hearth.target = none ∧ t.on HEARTH_FLAGS_COMPACTING = false)) ∧
  (Serves m 0x58 s → bit v.toNat 0 = false →
    (hearthBusy s = true → ∃ t, exec (.compact m v) s = .next t ∧ Writes m [] s t) ∧
    (∀ j, hearthBusy s = false → oldestFull s = some j → ∃ t, exec (.compact m v) s = .next t ∧ (reply m t).resp = .ok ∧ t.hearth.target = some j ∧
      t.on HEARTH_FLAGS_COMPACTING = true ∧ t.mem = s.mem ∧ WordsKept [flags] s t)) ∧
  (Serves m 0x58 s → bit v.toNat 1 = false →
    (s.key 0x58 (masterIdx m) ≠ .unlocked → ∃ t, exec (.eraseAll m v) s = .next t ∧ Locked m 0x58 s t) ∧
    (s.key 0x58 (masterIdx m) = .unlocked → s.on HEARTH_FLAGS_ERASING = false →
      (hearthBusy s = true → ∃ t, exec (.eraseAll m v) s = .next t ∧ t.hearth = { h with eraseWaits := true } ∧ t.on (busy 0x58) = true ∧ t.mem = s.mem) ∧
      (hearthBusy s = false → ∃ t, exec (.eraseAll m v) s = .next t ∧ t.on HEARTH_FLAGS_ERASING = true ∧ t.on HEARTH_FLAGS_NO_RESTORE = false ∧
        t.on (busy 0x58) = true ∧ segErased t k ∧ segAt t k 1 = (segAt s k 1 + 1) % 2 ^ 32 ∧ t.get (PG_GEN_GEN q) = 0 ∧
        BytesKept 0x11000000 0x38000 s t))) ∧
  (s.on HEARTH_FLAGS_ERASING = false → exec .eraseAllDone s = .next s) ∧
  (s.on HEARTH_FLAGS_ERASING = true → h.eraseWaits = false → ∃ t, exec .eraseAllDone s = .next t ∧ t.on HEARTH_FLAGS_ERASING = false ∧
    t.on (busy 0x58) = false ∧ t.mem = s.mem)

/-- R385 to R391: FREEZE records itself and starts the copy where it may; the copy holds the ring, oldest record first; a release and an erase wait for
it; software codes; a slot reads as its record. -/
def Obligations.BlackBoxCommands : Prop :=
  ∀ (s : State) (m : Master) (v : Word) (slot : Nat), Serves m 0x59 s → slot < 2048 →
  let b := s.bbox
  let copy := s.get BBOX_STAT_COPY
  let stat := BBOX_STAT_FROZEN.addr
  let frozen := s.on BBOX_STAT_FROZEN = true
  let keyed := s.key 0x59 (masterIdx m) = .unlocked
  (frozen → ∃ t, exec (.freeze m) s = .next t ∧ (reply m t).resp = .ok ∧ WordsKeptBut [] s t ∧ t.mem = s.mem ∧ t.bbox = b) ∧
  (¬ frozen → ∃ t, exec (.freeze m) s = .next t ∧ (reply m t).resp = .ok ∧ t.on BBOX_STAT_FROZEN = true ∧ t.get BBOX_STAT_CAUSE = 8 ∧
    t.get BBOX_FREEZES_COUNT = min (s.get BBOX_FREEZES_COUNT + 1) 0xFFFF ∧ Recorded 0x0001 s t ∧
    (copyAllowed s = false → t.get BBOX_STAT_COPY = copy ∧ WordsKeptBut [stat, BBOX_FREEZES_COUNT.addr] s t) ∧
    (copyAllowed s = true → b.erasing = false → t.get BBOX_STAT_COPY = 3 ∧ t.hearth.running = none) ∧
    (copyAllowed s = true → b.erasing = true → t.get BBOX_STAT_COPY = copy ∧ t.bbox.copyWaits = true)) ∧
  (copy = 3 → b.erasing = true → exec .copyDone s = .next s) ∧
  (copy = 3 → b.erasing = false → ∃ t, exec .copyDone s = .next t ∧ t.get BBOX_STAT_COPY = 1 ∧ Raised 569 s t ∧
    (b.releaseWaits = true → t.on BBOX_STAT_FROZEN = false) ∧ (b.releaseWaits = false → t.on BBOX_STAT_FROZEN = s.on BBOX_STAT_FROZEN) ∧
    ∀ j, j < 4 → t.memWord (0x11038000 + 16 * slot + 4 * j) = s.memWord (0x28000000 + 16 * ((s.get BBOX_STAT_WR_IDX + slot) % 2048) + 4 * j)) ∧
  (copy = 3 → ∃ t, exec (.bbRelease m) s = .next t ∧ (reply m t).resp = .ok ∧ t.bbox = { b with releaseWaits := true } ∧ WordsKeptBut [] s t) ∧
  (copy ≠ 3 → ∃ t, exec (.bbRelease m) s = .next t ∧ (reply m t).resp = .ok ∧ t.on BBOX_STAT_FROZEN = false ∧ t.get BBOX_STAT_CAUSE = 0 ∧
    t.get BBOX_STAT_WR_IDX = s.get BBOX_STAT_WR_IDX ∧ t.get BBOX_STAT_COPY = copy ∧ t.mem = s.mem ∧ WordsKeptBut [stat] s t) ∧
  (¬ keyed → ∃ t, exec (.eraseCopy m) s = .next t ∧ Locked m 0x59 s t) ∧
  (keyed → copy = 3 → ∃ t, exec (.eraseCopy m) s = .next t ∧ (reply m t).resp = .ok ∧ t.bbox = b ∧ t.mem = s.mem ∧ WordsKeptBut [] s t) ∧
  (keyed → copy ≠ 3 → ∃ t, exec (.eraseCopy m) s = .next t ∧ (reply m t).resp = .ok ∧ t.get BBOX_STAT_COPY = 3 ∧ t.bbox = { b with erasing := true } ∧
    t.mem = s.mem ∧ WordsKeptBut [stat] s t) ∧
  (copy = 3 → b.erasing = false → exec .eraseCopyDone s = .next s) ∧
  (copy = 3 → b.erasing = true → s.hearth.eraseWaits = false → ∃ t, exec .eraseCopyDone s = .next t ∧ Raised 569 s t ∧
    (b.copyWaits = false → t.get BBOX_STAT_COPY = 0 ∧ t.bbox.erasing = false ∧ BytesKept 0x11038000 0x8000 s t) ∧
    (b.copyWaits = true → t.get BBOX_STAT_COPY = 3 ∧ t.bbox.copyWaits = false) ∧ ∀ j, j < 4 → t.memWord (0x11038000 + 16 * slot + 4 * j) = 0xFFFFFFFF) ∧
  (let code := v.toNat % 2 ^ 16
   (0x8000 ≤ code → code ≤ 0xFFFE → ∃ t, exec (.swCode m v) s = .next t ∧ (reply m t).resp = .ok ∧ Recorded code s t ∧
     (¬ frozen → let a := 0x28000000 + 16 * s.get BBOX_STAT_WR_IDX
      t.memWord a = s.tb % 2 ^ 32 ∧ t.memWord (a + 8) = s.get BBOX_SW_LO_ARG ∧ t.memWord (a + 12) = s.get BBOX_SW_HI_ARG ∧ BytesKept a 16 s t ∧
      t.get BBOX_STAT_WR_IDX = (s.get BBOX_STAT_WR_IDX + 1) % 2048 ∧ WordsKeptBut [stat] s t)) ∧
   (code < 0x8000 ∨ code = 0xFFFF → ∃ t, exec (.swCode m v) s = .next t ∧ (reply m t).resp = .ok ∧ t.on (PG_FAULT_bit 0x59 0) = true ∧ t.mem = s.mem ∧
     WordsKeptBut [(PG_FAULT_bit 0x59 0).addr] s t)) ∧
  (∃ t, exec (.bboxSlotRead m slot) s = .next t ∧ reply m t = { resp := .ok, data := w32 (s.memWord (0x28000000 + 16 * slot)) } ∧ OtherReplies m s t ∧
    t = { s with replies := t.replies, bbShadows := t.bbShadows })

/-! ### Power states and resets (spec/00, spec/19, spec/20, spec/23) -/

/-- R349 to R351: PWR_REQ is refused with WAKE_PENDING, BUSY, CORE_ACTIVE or NO_RTC in this order, RESULT and REQ saying so and POWER_REFUSED
raised; a request of the state that stands is DONE at once; RUN starts an exit, WATCH its entry with the cores off, DOZE and OFF-KEEP the wait for
Hearth. -/
def Sys2Proof.Claims.PowerRequests : Prop :=
  ∀ (s : State) (m : Master) (t : Nat) (c : Instr), Serves m 0x01 s → t < 4 →
  c = [Instr.pwrReqRun m, .pwrReqWatch m, .pwrReqDoze m, .pwrReqOffKeep m].getD t (.pwrReqRun m) →
  let stat := BELLOWS_PWR_STAT_STATE.addr
  let awake := ∃ n, n < cores s.variant ∧ s.on (CORE_CTRL_RUN n) = true ∧ coreState s n ≠ 0 ∧ coreState s n ≠ 2 ∧ coreState s n ≠ 4
  let wake := 1 ≤ t ∧ wakePending s = true
  let busy := s.on BELLOWS_PWR_STAT_BUSY = true
  let noRtc := t = 2 ∧ s.on BELLOWS_CLK_STAT_XTAL32_OK = false
  let Refused (r : Nat) : Prop := ∃ u, exec c s = .next u ∧ (reply m u).resp = .ok ∧ u.get BELLOWS_PWR_STAT_RESULT = r ∧
    u.get BELLOWS_PWR_STAT_REQ = t ∧ Raised 580 s u ∧ u.pwr = s.pwr ∧ WordsKeptBut [stat] s u
  let Accepted (as : List Nat) (Q : State → Prop) : Prop := ∃ u, exec c s = .next u ∧ WordsKept as s u ∧ (reply m u).resp = .ok ∧
    u.get BELLOWS_PWR_STAT_REQ = t ∧ u.get BELLOWS_PWR_STAT_STATE = s.get BELLOWS_PWR_STAT_STATE ∧ Q u
  let free := ¬ wake ∧ ¬ busy ∧ ¬ (t = 1 ∧ awake) ∧ ¬ noRtc
  (wake → Refused 2) ∧ (¬ wake → busy → Refused 3) ∧ (¬ wake → ¬ busy → t = 1 → awake → Refused 4) ∧
  (¬ wake → ¬ busy → noRtc → Refused 5) ∧
  (free → t = powerState s → Accepted [stat] (fun u => u.get BELLOWS_PWR_STAT_RESULT = 1 ∧ u.pwr = s.pwr ∧ u.on BELLOWS_PWR_STAT_BUSY = false)) ∧
  (free → t = 0 → powerState s ≠ 0 → Accepted [stat, BELLOWS_WAKE_LAST_VALID.addr] (fun u => u.on BELLOWS_PWR_STAT_BUSY = true ∧
    u.pwr = { s.pwr with phase := 3 } ∧
    (s.on BELLOWS_WAKE_LAST_VALID = false → u.on BELLOWS_WAKE_LAST_VALID = true ∧ u.get BELLOWS_WAKE_LAST_CAUSE = 1 ∧
      u.get BELLOWS_WAKE_LAST_FROM = powerState s) ∧
    (s.on BELLOWS_WAKE_LAST_VALID = true → u.word BELLOWS_WAKE_LAST_VALID.addr = s.word BELLOWS_WAKE_LAST_VALID.addr))) ∧
  (free → t = 1 → powerState s ≠ 1 → ∃ u, exec c s = .next u ∧ (reply m u).resp = .ok ∧ u.on BELLOWS_PWR_STAT_BUSY = true ∧
    u.pwr = { s.pwr with phase := 2, target := 1 } ∧ u.get BELLOWS_PWR_STAT_STATE = s.get BELLOWS_PWR_STAT_STATE ∧
    ∀ n, n < cores s.variant → coreState u n = 6 ∧ (u.core n).pc = (s.core n).pc ∧ (u.core n).w = (s.core n).w ∧
      (u.core n).back = (if coreState s n = 2 then 1 else coreState s n)) ∧
  (free → 2 ≤ t → t ≠ powerState s → Accepted [stat] (fun u => u.on BELLOWS_PWR_STAT_BUSY = true ∧
    u.pwr = { s.pwr with phase := 1, target := t, since := s.clk.age }))

/-- R349, R351 to R354, R356, R357: the commit wait ends in the point of no return or in a refusal; an entry ends in its state; a wake starts the
exit, which ends in RUN with the cores back, one that was held in RESET while RUN was written 1 at START_PC, and one with a halt pending HALTED;
missing temperatures count as stage 2; the trip at 145 °C enters OFF-KEEP. -/
def Sys2Proof.Claims.PowerTransitions : Prop :=
  ∀ (s : State),
  let p := s.pwr
  let stat := BELLOWS_PWR_STAT_STATE.addr
  let Ends (c : Instr) (r : Nat) : Prop := ∃ t, exec c s = .next t ∧ t.get BELLOWS_PWR_STAT_RESULT = r ∧ t.on BELLOWS_PWR_STAT_BUSY = false ∧
    t.pwr = { p with phase := 0 } ∧ Raised 580 s t ∧ WordsKeptBut [stat] s t
  let Arrives (st src : Nat) (t : State) : Prop := t.get BELLOWS_PWR_STAT_STATE = st ∧ t.get BELLOWS_PWR_STAT_RESULT = 1 ∧
    t.on BELLOWS_PWR_STAT_BUSY = false ∧ t.pwr.phase = 0 ∧ t.clksrc = src
  (p.phase = 1 → s.busStopped = false → hearthIdle s = true →
    (wakePending s = true → Ends .pointOfNoReturn 2) ∧
    (wakePending s = false → ∃ t, exec .pointOfNoReturn s = .next t ∧ t.on BELLOWS_PWR_STAT_BUSY = true ∧ t.pwr = { p with phase := 2 } ∧
      t.hk.busy = false ∧ (∀ n, n < 5 → t.get (EVC_RQ_IDX_COUNT n) = 0))) ∧
  (p.phase = 1 → hearthIdle s = false → p.since + max 1 (s.get BELLOWS_PWR_CFG_COMMIT_WAIT) * msAge ≤ s.clk.age → Ends .commitWait 6) ∧
  (p.phase = 2 →
    (p.target = 1 → s.busStopped = false → ∃ t, exec .entryDone s = .next t ∧ Arrives 1 1 t ∧ (s.clksrc = 1 → Raised 579 s t)) ∧
    (p.target = 2 → p.refBack = false → ∃ t, exec .entryDone s = .next t ∧ Arrives 2 (if s.on BELLOWS_CLK_STAT_XTAL32_OK then 2 else 3) t ∧
      t.on TB_STAT_COASTED = true ∧ t.tbf = s.tbf ∧ t.pwr.owed = true ∧ ∀ n, n < cores s.variant → coreState t n = 6) ∧
    (p.target = 3 → ∃ t, exec .entryDone s = .next t ∧ Arrives 0 3 t ∧ t.pwr.off = true ∧ t.on HOST_ATTN_LEVEL = false ∧
      ∀ q, q < 96 → t.ready q = false)) ∧
  (wakePending s = true → (p.phase = 1 → Ends .wake 2) ∧
    (p.phase = 0 → powerState s = 1 ∨ powerState s = 2 → ∃ t, exec .wake s = .next t ∧ t.on BELLOWS_PWR_STAT_BUSY = true ∧
      t.pwr = { p with phase := 3 } ∧ WordsKept [stat, BELLOWS_WAKE_LAST_VALID.addr] s t ∧
      (s.on BELLOWS_WAKE_LAST_VALID = false → t.on BELLOWS_WAKE_LAST_VALID = true ∧ t.get BELLOWS_WAKE_LAST_CAUSE = 0 ∧
        t.get BELLOWS_WAKE_LAST_FROM = powerState s))) ∧
  (p.phase = 3 → s.clksrc = 0 → ∃ t, exec .exitDone s = .next t ∧ t.get BELLOWS_PWR_STAT_STATE = 0 ∧ t.on BELLOWS_PWR_STAT_BUSY = false ∧
    t.pwr.phase = 0 ∧ t.clksrc = 0 ∧ (powerState s ≠ 0 → Raised 579 s t) ∧ (p.refBack = true → Raised 577 s t) ∧
    (powerState s = 1 → p.refBack = false → ∀ n, n < cores s.variant → coreState s n = 6 → (s.core n).back < 8 →
      let starts := (s.core n).back = 0 ∧ s.on (CORE_CTRL_RUN n) = true
      coreState t n = (if starts then runState s n else if (s.core n).haltDue ∧ ((s.core n).back = 1 ∨ (s.core n).back = 2) then 3 else (s.core n).back) ∧
        (t.core n).pc = (if starts then startPc s n else (s.core n).pc) ∧ (t.core n).w = (s.core n).w)) ∧
  (s.clk.age < s.hk.tempAt + 50 * msAge → exec .hkStale s = .next s) ∧
  (s.ready 0x5A = true → s.busStopped = false → s.hk.tempAt + 50 * msAge ≤ s.clk.age → ∃ t, exec .hkStale s = .next t ∧ t.on (PG_FAULT_bit 0x5A 0) = true ∧
    t.get THERM_STAT_STAGE = max 2 (s.get THERM_STAT_STAGE) ∧ t.get HARDYF_STAT_THROTTLED = 1 ∧
    (s.get THERM_STAT_STAGE < 2 → t.get THERM_STAGE_CNT_THROTTLE = min (s.get THERM_STAGE_CNT_THROTTLE + 1) 0xFF) ∧ t.chans = s.chans) ∧
  (s.busStopped = false → p.off = false → p.held = false → p.phase ≠ 2 → ∃ t, exec .thermalTrip s = .next t ∧
    t.pwr = { p with phase := 2, target := 3, thermal := true } ∧ t.on BELLOWS_PWR_STAT_BUSY = true ∧ Recorded 0x0004 s t ∧
    t.on BBOX_STAT_FROZEN = true ∧ (s.on BBOX_STAT_FROZEN = false → t.get BBOX_STAT_CAUSE = 2))

/-- R349 to R354, R356, R357: requests of power states, and the entries, exits and wakes. -/
def Obligations.PowerStates : Prop := Sys2Proof.Claims.PowerRequests ∧ Sys2Proof.Claims.PowerTransitions

/-- R9, R10, R335 to R338, R384 to R386, R403, R404: what each reset leaves, and what the end of a page's restore and a PAGE reset leave. -/
def Obligations.Resets : Prop :=
  ∀ (s : State) (m : Master) (straps rails vaon p : Nat) (head : Bool), s.canon = true → straps < 16 → rails < 16 → vaon < 2 ^ 16 → p ∈ listedPages →
  let w := s.pwr
  let Up (warm : Bool) (t : State) : Prop := t.ready 0 = true ∧ t.boot = { todo := restoreOrder s.variant, warm := warm } ∧ t.pwr.held = false ∧
    (∀ q, q < 96 → q ≠ 0x00 → q ≠ 0x02 → q ≠ 0x03 → t.ready q = false) ∧
    (∀ a, 0x30000000 ≤ a → a < 0x30040000 → t.byte a = 0) ∧ t.chans = [] ∧ t.keys = [] ∧ t.hearth.queue = []
  let Keeps (t : State) : Prop := ∀ a, 0x28008000 ≤ a → a < 0x28010000 → t.byte a = s.byte a
  let kept (t : State) : Prop := t.tbf = s.tbf ∧ Keeps t ∧ (∀ a, 0x40008000 ≤ a → a < 0x40010000 → t.word a = s.word a) ∧
    t.get SYS_STRAPS_LEVEL = s.get SYS_STRAPS_LEVEL ∧ t.cmps = s.cmps
  (∃ t, exec (.coldReset straps head) s = .next t ∧ Up false t ∧ Keeps t ∧ t.tbf = 0 ∧ t.on SYS_RESET_CAUSE_COLD = true ∧
    t.on SYS_RESET_CAUSE_BROWNOUT = w.brown ∧ t.on SYS_RESET_CAUSE_THERMAL = w.thermal ∧ t.get SYS_STRAPS_LEVEL = straps ∧
    t.on SYS_HUB_HEAD = head ∧ (∀ a, 0x20000000 ≤ a → a < 0x20200000 → t.byte a = 0) ∧
    ∀ a, ¬ (0x40000000 ≤ a ∧ a < 0x40004000) → ¬ (0x40164000 ≤ a ∧ a < 0x40168000) → t.word a = regReset a) ∧
  (w.off = false → w.brown = false → w.held = false → ∃ t, exec .warmReset s = .next t ∧ kept t ∧ t.pwr.held = true ∧
    t.on SYS_RESET_CAUSE_WARM_PIN = true ∧ t.chans = [] ∧ t.keys = [] ∧ ∀ q, q < 96 → q ≠ 0x02 → q ≠ 0x03 → t.ready q = false) ∧
  (exec (.resetRises straps head) s = (if w.off then exec (.coldReset straps head) s else exec (.resetRises straps head) s) ∧
    (w.off = false → w.held = true → w.brown = false → ∃ t, exec (.resetRises straps head) s = .next t ∧ t.ready 0 = true ∧ t.pwr.held = false ∧
      t.boot = { todo := restoreOrder s.variant, warm := true } ∧ t.tbf = s.tbf ∧ Keeps t)) ∧
  (w.off = false → w.brown = false → ∃ t, exec (.brownout rails vaon) s = .next t ∧ Recorded 0x0003 s t ∧ t.on BBOX_STAT_FROZEN = true ∧
    t.pwr.brown = true ∧ t.pwr.held = true ∧ t.clksrc = 3 ∧ t.vaon = vaon ∧ t.boot.todo = [] ∧ Keeps t ∧ ∀ q, q < 96 → t.ready q = false) ∧
  (∃ t, exec .vaonPowerOn s = .next t ∧ (∀ a, 0x28000000 ≤ a → a < 0x28010000 → t.byte a = 0) ∧ t.on BBOX_STAT_FROZEN = false ∧
    t.get BBOX_STAT_WR_IDX = 0 ∧ t.get BBOX_DROPPED_COUNT = 0 ∧ t.get BBOX_FREEZES_COUNT = 0 ∧
    WordsKept [BBOX_STAT_WR_IDX.addr, BBOX_DROPPED_COUNT.addr, BBOX_FREEZES_COUNT.addr] s t) ∧
  (Serves m 0 s → s.key 0 (masterIdx m) = .unlocked → ∃ t, exec (.warmResetGo m) s = .next t ∧ Up true t ∧ kept t ∧
    t.on SYS_RESET_CAUSE_WARM_SW = true) ∧
  (restoreDue s p = true → ∃ t, exec (.pageRestore p) s = .next t ∧ t.ready p = true ∧ t.on (PG_STAT_BUSY p) = false ∧
    t.boot.todo = s.boot.todo.tail ∧
    (bit (s.get SYS_STRAPS_LEVEL) 0 = true ∨ pageGen s p = none → t.on (PG_STAT_DEFAULTED p) = true ∧ t.on (PG_STAT_RESTORED p) = false ∧
      t.get (PG_GEN_GEN p) = 0) ∧
    ∀ g, bit (s.get SYS_STRAPS_LEVEL) 0 = false → pageGen s p = some g → g.1 < 2 ^ 32 → t.on (PG_STAT_RESTORED p) = true ∧
      t.on (PG_STAT_DEFAULTED p) = false ∧ t.get (PG_GEN_GEN p) = g.1) ∧
  (Serves m p s → ∃ t, exec (.softReset m p) s = .next t ∧ (reply m t).resp = .ok ∧ t.ready p = true ∧ t.on (PG_STAT_QUIESCED p) = false ∧
    (∀ j, j < 8 → t.key p j = .idle) ∧ t.tbf = s.tbf ∧
    (p = 0x11 ∨ p = 0x5F → ∀ a, 0x40000000 + p * 0x4000 + 0x40 ≤ a → a < 0x40004000 + p * 0x4000 → t.word a = regReset a))

/-! ### In-service repair (spec/21) -/

/-- R360 to R368: a slice that fails its residue check or its known-answer test is fenced, with the spare in its place; uncorrectable errors and audit
mismatches; the end of a failover; the self-test and the return of a slice; draining. -/
def Obligations.SliceRepair : Prop :=
  ∀ (s : State) (m : Master) (x c sp : Nat) (v : Word) (lost : List Nat) (xPass sparePass agree pass : Bool), x < 3 → c < 256 → sp < 3 →
  (∀ d, d ∈ s.chans → d.1 < 256) →
  let role := s.get (ANV_SL_STAT_ROLE x)
  let here := sliceHere s x = true
  let run := s.get BELLOWS_PWR_STAT_STATE = 0
  let test := s.get (ANV_SL_STAT_TEST x)
  let stat := (ANV_SL_STAT_ROLE x).addr
  let Fences (cause b : Nat) (t : State) : Prop := t.get (ANV_SL_STAT_ROLE x) = 2 ∧ t.get (ANV_SL_STAT_CAUSE x) = cause ∧
    t.on (PG_FAULT_bit (0x18 + x) b) = true ∧ t.get (ANV_SL_STAT_TEST x) = 0 ∧ Recorded 0x0060 s t ∧ Raised 520 s t ∧
    (role = 0 → s.repair.target = none → run → spareSlice s = some sp → x ≠ sp → t.repair.target = some sp ∧ t.get (ANV_SL_STAT_ROLE sp) = 0) ∧
    (role = 1 → t.repair.target = none)
  let command := Serves m (0x18 + x) s
  let keyed := s.key (0x18 + x) (masterIdx m) = .unlocked
  (here → role ≠ 2 → ∃ t, exec (.residue x) s = .next t ∧ Fences 1 0 t) ∧
  (¬ here ∨ role = 2 → exec (.residue x) s = .next s) ∧
  (here → run → role ≠ 2 → ∃ t, exec (.kat x false) s = .next t ∧ Fences 2 1 t) ∧
  (exec (.kat x true) s = .next s) ∧ (¬ here ∨ ¬ run → exec (.kat x false) s = .next s) ∧
  (let n := s.get (SCHED_CH8_ON_SLICE c)
   let active := chActive s c = true ∧ n < 3
   (active → ∃ t, exec (.eccUncorr c) s = .next t ∧ t.on (PG_FAULT_bit (0x18 + n) 2) = true ∧ Raised 524 s t ∧ Recorded 0x0061 s t ∧
     t.get (ANV_ECC_CNT_UNCORR n) = min (s.get (ANV_ECC_CNT_UNCORR n) + 1) 0xFFFF) ∧
   (¬ active → exec (.eccUncorr c) s = .next s) ∧
   (auditRuns s = false ∨ chState s c ≠ 2 → exec (.auditMismatch c xPass sparePass agree) s = .next s) ∧
   (auditRuns s = true → chState s c = 2 → sliceUp s n = true → n < 3 → (s.chan c).fade = none → (s.chan c).retune = none → recalOf s c = none →
     ∃ t, exec (.auditMismatch c xPass sparePass agree) s = .next t ∧ t.on (PG_FAULT_bit (0x18 + n) 3) = true ∧ Raised 522 s t ∧ Recorded 0x0062 s t ∧
       t.get SCHED_AUDIT_STAT_MISMATCHES = min (s.get SCHED_AUDIT_STAT_MISMATCHES + 1) 0xFFFF ∧
       (xPass = false → s.get (ANV_SL_STAT_ROLE n) ≠ 2 → t.get (ANV_SL_STAT_ROLE n) = 2 ∧ t.get (ANV_SL_STAT_CAUSE n) = 3) ∧
       (xPass = true → sparePass = false → ∀ z, spareSlice s = some z → t.get (ANV_SL_STAT_ROLE z) = 2 ∧ t.get (ANV_SL_STAT_CAUSE z) = 2) ∧
       (xPass = true → sparePass = true → agree = true → (∀ y, y < 3 → t.get (ANV_SL_STAT_ROLE y) = s.get (ANV_SL_STAT_ROLE y)) ∧
         t.get (SCHED_CH8_STATE c) = s.get (SCHED_CH8_STATE c)))) ∧
  (s.repair.target = none → exec (.failoverDone lost) s = .next s) ∧
  (s.repair.target ≠ none → ∃ t, exec (.failoverDone lost) s = .next t ∧ t.repair.target = none ∧ Raised 521 s t ∧
    ((∀ d, d ∈ s.chans → (s.chan d.1).syncLater = none ∧ (s.chan d.1).former < 6) →
      (c ∈ s.chans.map (fun d => d.1) → chState s c = 6 → t.get (SCHED_CH8_STATE c) = (s.chan c).former) ∧
      (chState s c ≠ 6 → t.get (SCHED_CH8_STATE c) = s.get (SCHED_CH8_STATE c)))) ∧
  (command → v.toNat &&& 6 = 0 →
    (role = 2 → ∃ t, exec (.sliceTest m x v) s = .next t ∧ Writes m [stat] s t ∧ t.get (ANV_SL_STAT_TEST x) = 1 ∧ t.get (ANV_SL_STAT_ROLE x) = 2) ∧
    (role ≠ 2 → ∃ t, exec (.sliceTest m x v) s = .next t ∧ Writes m [] s t)) ∧
  (here → test = 1 → ∃ t, exec (.selfTestDone x pass) s = .next t ∧ OnlyRegs [stat] s t ∧ t.get (ANV_SL_STAT_TEST x) = (if pass then 2 else 3) ∧
    t.get (ANV_SL_STAT_ROLE x) = role) ∧
  (¬ here ∨ test ≠ 1 → exec (.selfTestDone x pass) s = .next s) ∧
  (command → v.toNat &&& 5 = 0 →
    (¬ keyed → ∃ t, exec (.unfence m x v) s = .next t ∧ Locked m (0x18 + x) s t) ∧
    (keyed → role = 2 → test = 2 → ∃ t, exec (.unfence m x v) s = .next t ∧ (reply m t).resp = .ok ∧ t.get (ANV_SL_STAT_ROLE x) = 1 ∧
      WordsKeptBut [stat] s t) ∧
    (keyed → role ≠ 2 ∨ test ≠ 2 → ∃ t, exec (.unfence m x v) s = .next t ∧ (reply m t).resp = .ok ∧ WordsKept [] s t)) ∧
  (command → v.toNat &&& 3 = 0 →
    let may := role = 0 ∧ run ∧ spareSlice s ≠ none ∧ s.repair.target = none ∧ s.repair.drain = none
    (¬ keyed → ∃ t, exec (.drain m x v) s = .next t ∧ Locked m (0x18 + x) s t) ∧
    (keyed → may → ∃ t, exec (.drain m x v) s = .next t ∧ (reply m t).resp = .ok ∧ t.repair = { s.repair with drain := some x } ∧ WordsKept [] s t) ∧
    (keyed → ¬ may → ∃ t, exec (.drain m x v) s = .next t ∧ (reply m t).resp = .ok ∧ t.repair = s.repair ∧ WordsKept [] s t)) ∧
  (s.repair.drain = none ∨ spareSlice s = none → exec .drainDone s = .next s) ∧
  (s.repair.drain = some x → spareSlice s = some sp → x ≠ sp → ∃ t, exec .drainDone s = .next t ∧ t.get (ANV_SL_STAT_ROLE x) = 1 ∧
    t.get (ANV_SL_STAT_ROLE sp) = 0 ∧ t.repair.drain = none ∧ Raised 525 s t ∧
    (c ∈ sliceChans s x → t.get (SCHED_CH8_ON_SLICE c) = sp) ∧ (c ∉ sliceChans s x → t.get (SCHED_CH8_ON_SLICE c) = s.get (SCHED_CH8_ON_SLICE c)))

/-- R371 to R375: the load bank is erased, loaded word by word and verified; an admitted swap exchanges the banks for a trial that CONFIRM or its timer
ends; the boot ROM starts the preferred image, the other one, or nothing. -/
def Obligations.Images : Prop :=
  ∀ (s : State) (m : Master) (v : Word) (n w : Nat) (rest : List Nat) (hash sig hash1 sig1 : Bool), n < cores s.variant →
  let busy := s.get IMG_STAT_BUSY
  let run := s.get IMG_MAP_RUN_BANK
  let load := 1 - run
  let base (b : Nat) := 0x10000000 + b * 0x80000
  let head (b i : Nat) := s.memWord (base b + 4 * i)
  let stat := IMG_STAT_BUSY.addr
  let map := IMG_MAP_TRIAL.addr
  let alone (cmd : Nat) : Prop := Serves m 0x4C s ∧ v.toNat &&& (15 - cmd) = 0
  let bad3 (b : Nat) : Prop := head b 2 % 16 ≠ 0 ∨ 524096 < head b 2 ∨ head b 3 % 4 ≠ 0 ∨ 128 + head b 2 ≤ head b 3
  let bad4 (b : Nat) (h : Bool) : Prop := h = false ∨ bit (s.get IMG_KEY_SEAL_SEALED) (head b 4 % 4) = false
  let CheckWith (h g : Bool) (b r : Nat) : Prop :=
    (r = 2 ∧ head b 0 ≠ 0x31474C4D) ∨ (head b 0 = 0x31474C4D ∧
      ((r = 3 ∧ bad3 b) ∨ (¬ bad3 b ∧ ((r = 4 ∧ bad4 b h) ∨ (¬ bad4 b h ∧
        ((r = 5 ∧ g = false) ∨ (g = true ∧ ((r = 6 ∧ head b 1 < s.get IMG_MIN_VERSION_VERSION) ∨ (r = 1 ∧ s.get IMG_MIN_VERSION_VERSION ≤ head b 1)))))))))
  let Check (b r : Nat) : Prop := CheckWith (keyKnown s b) (sigVerifies s b) b r
  let Found (h g : Bool) (b : Nat) : Prop := ∃ r, CheckWith h g b r ∧ Check b r
  (alone 1 →
    (busy = 0 → ∃ t, exec (.imgErase m v) s = .next t ∧ (reply m t).resp = .ok ∧ t.get IMG_STAT_BUSY = 1 ∧ t.on IMG_MAP_LOAD_VALID = false ∧
      (∀ a, base load ≤ a → a < base load + 0x80000 → t.byte a = 0xFF) ∧ BytesKept (base load) 0x80000 s t ∧ WordsKept [stat, map] s t) ∧
    (busy ≠ 0 → ∃ t, exec (.imgErase m v) s = .next t ∧ Writes m [] s t)) ∧
  (Serves m 0x4C s →
    (s.img.staged.length < 64 → ∃ t, exec (.loadData m v) s = .next t ∧ (reply m t).resp = .ok ∧ t.img.staged = s.img.staged ++ [v.toNat] ∧
      t.on IMG_MAP_LOAD_VALID = false ∧ t.get IMG_STAT_BUSY = (if busy = 0 then 2 else busy) ∧ t.mem = s.mem ∧ WordsKept [stat, map] s t) ∧
    (64 ≤ s.img.staged.length → ∃ t, exec (.loadData m v) s = .next t ∧ (reply m t).resp = .ok ∧ t.img = s.img ∧ t.mem = s.mem ∧
      t.on (PG_FAULT_bit 0x4C 0) = true ∧ WordsKept [map, (PG_FAULT_bit 0x4C 0).addr] s t)) ∧
  (s.img.staged = [] ∨ busy ≠ 2 → exec .loadWordProgrammed s = .next s) ∧
  (let a := base load + 4 * s.get IMG_LOAD_ADDR_OFFSET
   s.img.staged = w :: rest → busy = 2 → s.memWord a = 0xFFFFFFFF → ∃ t, exec .loadWordProgrammed s = .next t ∧ t.memWord a = w % 2 ^ 32 ∧
     BytesKept a 4 s t ∧ t.img.staged = rest ∧ t.get IMG_LOAD_ADDR_OFFSET = (s.get IMG_LOAD_ADDR_OFFSET + 1) % 2 ^ 17 ∧
     t.on IMG_MAP_LOAD_VALID = false ∧ t.get IMG_STAT_BUSY = (if rest = [] then 0 else 2) ∧ WordsKept [IMG_LOAD_ADDR_OFFSET.addr, stat, map] s t) ∧
  (alone 2 → (busy = 0 → ∃ t, exec (.verify m v) s = .next t ∧ Writes m [stat] s t ∧ t.get IMG_STAT_BUSY = 3) ∧
    (busy ≠ 0 → ∃ t, exec (.verify m v) s = .next t ∧ Writes m [] s t)) ∧
  (busy = 0 ∨ busy = 2 → exec (.imgDone hash sig) s = .next s) ∧
  (busy = 1 → ∃ t, exec (.imgDone hash sig) s = .next t ∧ t.get IMG_STAT_BUSY = (if s.img.staged = [] then 0 else 2) ∧ Raised 564 s t ∧ t.mem = s.mem ∧
    WordsKeptBut [stat] s t) ∧
  (busy = 3 → ¬ Found hash sig load → exec (.imgDone hash sig) s = .next s) ∧
  (∀ r, busy = 3 → Check load r → Found hash sig load → ∃ t, exec (.imgDone hash sig) s = .next t ∧ t.get IMG_STAT_RESULT = r ∧
    t.get IMG_STAT_BUSY = (if s.img.staged = [] then 0 else 2) ∧ Raised 564 s t ∧ t.mem = s.mem ∧ WordsKeptBut [stat, map] s t ∧
    t.on IMG_MAP_LOAD_VALID = (s.on IMG_MAP_LOAD_VALID || r == 1)) ∧
  (alone 4 →
    (s.key 0x4C (masterIdx m) ≠ .unlocked → ∃ t, exec (.imgSwap m v) s = .next t ∧ Locked m 0x4C s t) ∧
    (s.key 0x4C (masterIdx m) = .unlocked →
      let no2 := s.on IMG_MAP_LOAD_VALID = false
      let no3 := coreInImage s = true
      let no4 := busy = 1 ∨ busy = 3 ∨ s.on BELLOWS_PWR_STAT_BUSY = true
      let no5 := s.on IMG_MAP_TRIAL = true
      (∀ r, (r = 2 ∧ no2) ∨ (r = 3 ∧ ¬ no2 ∧ no3) ∨ (r = 4 ∧ ¬ no2 ∧ ¬ no3 ∧ no4) ∨ (r = 5 ∧ ¬ no2 ∧ ¬ no3 ∧ ¬ no4 ∧ no5) →
        ∃ t, exec (.imgSwap m v) s = .next t ∧ (reply m t).resp = .ok ∧ t.get IMG_STAT_SWAP_RESULT = r ∧ t.mem = s.mem ∧ WordsKept [stat] s t) ∧
      (¬ no2 → ¬ no3 → ¬ no4 → ¬ no5 → ∃ t, exec (.imgSwap m v) s = .next t ∧ t.get IMG_STAT_SWAP_RESULT = 1 ∧ t.get IMG_MAP_RUN_BANK = load ∧
        t.on IMG_MAP_TRIAL = true ∧ t.get IMG_RUN_VERSION_VERSION = head load 1 ∧ t.img.left = max 1 (s.get IMG_CFG_CONFIRM_TO) * 131072000 ∧
        Raised 565 s t ∧ Recorded 0x0071 s t))) ∧
  (alone 8 →
    (s.on IMG_MAP_TRIAL = false → ∃ t, exec (.confirm m v) s = .next t ∧ Writes m [] s t) ∧
    (s.on IMG_MAP_TRIAL = true → ∃ t, exec (.confirm m v) s = .next t ∧ (reply m t).resp = .ok ∧ t.on IMG_MAP_TRIAL = false ∧
      t.get IMG_BOOT_PREF = run ∧ Raised 566 s t ∧ t.get IMG_MAP_RUN_BANK = run ∧
      t.get IMG_MIN_VERSION_VERSION = (if s.on IMG_CFG_RAISE_MIN then max (s.get IMG_MIN_VERSION_VERSION) (s.get IMG_RUN_VERSION_VERSION)
        else s.get IMG_MIN_VERSION_VERSION))) ∧
  (s.on IMG_MAP_TRIAL = false ∨ trialLeft s ≠ 0 → exec .trialExpire s = .next s) ∧
  (s.on IMG_MAP_TRIAL = true → trialLeft s = 0 → ∃ t, exec .trialExpire s = .next t ∧ t.get IMG_MAP_RUN_BANK = load ∧ t.on IMG_MAP_TRIAL = false ∧
    t.get IMG_RUN_VERSION_VERSION = head load 1 ∧ t.on (PG_FAULT_bit 0x4C 1) = true ∧ t.get (CORE_START_PC_PC n) = 0 ∧
    t.on (CORE_CTRL_RUN n) = (n == 0)) ∧
  (let boots := coreState s 0 = 1 ∧ (s.core 0).pc.toNat < 0x8000 ∧ s.ready 0x4C = true
   let pref := s.get IMG_BOOT_PREF
   let Starts (b last : Nat) : Prop := ∃ t, exec (.bootCheck hash sig hash1 sig1) s = .next t ∧ t.get IMG_MAP_RUN_BANK = b ∧ t.get IMG_BOOT_LAST = last ∧
     t.get IMG_RUN_VERSION_VERSION = head b 1 ∧ (t.core 0).pc = w32 (0x10000000 + head b 3)
   let Waits (last : Nat) : Prop := ∃ t, exec (.bootCheck hash sig hash1 sig1) s = .next t ∧ t.get IMG_BOOT_LAST = last ∧
     coreState t 0 = (if (s.core 0).haltDue then 3 else 2) ∧
     t.get IMG_MAP_RUN_BANK = run
   (¬ boots → exec (.bootCheck hash sig hash1 sig1) s = .next s) ∧
   let found (b : Nat) : Prop := if b = 0 then Found hash sig 0 else Found hash1 sig1 1
   (boots → (bit (s.get SYS_STRAPS_LEVEL) 1 = true → Waits 4) ∧
     (bit (s.get SYS_STRAPS_LEVEL) 1 = false → (found pref → Check pref 1 → Starts pref 1) ∧
       (found pref → ¬ Check pref 1 → found (1 - pref) → (Check (1 - pref) 1 → Starts (1 - pref) 2) ∧ (¬ Check (1 - pref) 1 → Waits 3)) ∧
       (¬ found pref ∨ ¬ Check pref 1 ∧ ¬ found (1 - pref) → exec (.bootCheck hash sig hash1 sig1) s = .next s))))
end

