-- ==== Sys2Proof/Laws/Map.lean ====
section
/-!
SUPPORT. Sys2Proof/Laws/Map.lean: what sparse maps do: a key reads back what was put there, every other key reads as before, and the
canonical form is kept.
-/
namespace Sys2Proof.Machine

variable {α : Type}

theorem SMap.get_erase_self (d : Nat → α) (m : List (Nat × α)) (k : Nat) : SMap.get d (SMap.erase m k) k = d k := by
  induction m with
  | nil => rfl
  | cons c r ih =>
    obtain ⟨j, v⟩ := c
    by_cases h : j = k
    · simpa [SMap.erase, h] using ih
    · have h' : k ≠ j := fun e => h e.symm
      simpa [SMap.erase, h, SMap.get, h'] using ih

theorem SMap.get_erase_ne (d : Nat → α) (m : List (Nat × α)) {k i : Nat} (hi : i ≠ k) :
    SMap.get d (SMap.erase m k) i = SMap.get d m i := by
  induction m with
  | nil => rfl
  | cons c r ih =>
    obtain ⟨j, v⟩ := c
    by_cases h : j = k
    · subst h
      simpa [SMap.erase, SMap.get, hi] using ih
    · by_cases e : i = j
      · simp [SMap.erase, h, SMap.get, e]
      · simpa [SMap.erase, h, SMap.get, e] using ih

theorem SMap.get_insert_self (d : Nat → α) (m : List (Nat × α)) (k : Nat) (v : α) : SMap.get d (SMap.insert m k v) k = v := by
  induction m with
  | nil => simp [SMap.insert, SMap.get]
  | cons c r ih =>
    obtain ⟨j, u⟩ := c
    unfold SMap.insert
    split
    · simp [SMap.get]
    · split
      · simp [SMap.get]
      · simp [SMap.get, *]

theorem SMap.get_insert_ne (d : Nat → α) (m : List (Nat × α)) {k i : Nat} (v : α) (hi : i ≠ k) :
    SMap.get d (SMap.insert m k v) i = SMap.get d m i := by
  induction m with
  | nil => simp [SMap.insert, SMap.get, hi]
  | cons c r ih =>
    obtain ⟨j, u⟩ := c
    unfold SMap.insert
    split
    · rename_i h
      subst h
      simp [SMap.get, hi]
    · split
      · simp [SMap.get, hi]
      · simp only [SMap.get, ih]

theorem SMap.get_put_self [DecidableEq α] (d : Nat → α) (m : List (Nat × α)) (k : Nat) (v : α) :
    SMap.get d (SMap.put d m k v) k = v := by
  unfold SMap.put
  split
  · rename_i h
    rw [SMap.get_erase_self, h]
  · exact SMap.get_insert_self d m k v

theorem SMap.get_put_ne [DecidableEq α] (d : Nat → α) (m : List (Nat × α)) {k i : Nat} (v : α) (hi : i ≠ k) :
    SMap.get d (SMap.put d m k v) i = SMap.get d m i := by
  unfold SMap.put
  split
  · exact SMap.get_erase_ne d m hi
  · exact SMap.get_insert_ne d m v hi

theorem SMap.get_put [DecidableEq α] (d : Nat → α) (m : List (Nat × α)) (k i : Nat) (v : α) :
    SMap.get d (SMap.put d m k v) i = if i = k then v else SMap.get d m i := by
  by_cases h : i = k
  · subst h
    simp [SMap.get_put_self]
  · simp [h, SMap.get_put_ne]

/-! ### The canonical form -/

theorem SMap.wfFrom_some [DecidableEq α] (d : Nat → α) (b j : Nat) (v : α) (r : List (Nat × α)) :
    SMap.wfFrom d (some b) ((j, v) :: r) = true ↔ b < j ∧ v ≠ d j ∧ SMap.wfFrom d (some j) r = true := by
  simp [SMap.wfFrom, and_assoc]

theorem SMap.wfFrom_none [DecidableEq α] (d : Nat → α) (j : Nat) (v : α) (r : List (Nat × α)) :
    SMap.wfFrom d none ((j, v) :: r) = true ↔ v ≠ d j ∧ SMap.wfFrom d (some j) r = true := by
  simp [SMap.wfFrom]

theorem SMap.wfFrom_mono [DecidableEq α] (d : Nat → α) {a b : Nat} (hab : a ≤ b) (m : List (Nat × α))
    (h : SMap.wfFrom d (some b) m = true) : SMap.wfFrom d (some a) m = true := by
  cases m with
  | nil => rfl
  | cons c r =>
    obtain ⟨j, v⟩ := c
    rw [SMap.wfFrom_some] at h ⊢
    exact ⟨by omega, h.2⟩

theorem SMap.wfFrom_filter [DecidableEq α] (d : Nat → α) (p : Nat × α → Bool) (m : List (Nat × α)) :
    ∀ b, SMap.wfFrom d (some b) m = true → SMap.wfFrom d (some b) (m.filter p) = true := by
  induction m with
  | nil => intro b h; exact h
  | cons c r ih =>
    intro b h
    obtain ⟨j, v⟩ := c
    rw [SMap.wfFrom_some] at h
    have hr := ih j h.2.2
    rw [List.filter_cons]
    split
    · rw [SMap.wfFrom_some]
      exact ⟨h.1, h.2.1, hr⟩
    · exact SMap.wfFrom_mono d (Nat.le_of_lt h.1) _ hr

theorem SMap.wf_of_some [DecidableEq α] (d : Nat → α) {b : Nat} (m : List (Nat × α)) (h : SMap.wfFrom d (some b) m = true) :
    SMap.wf d m = true := by
  cases m with
  | nil => rfl
  | cons c r =>
    obtain ⟨j, v⟩ := c
    rw [SMap.wfFrom_some] at h
    exact (SMap.wfFrom_none d j v r).2 h.2

/-- Removing entries keeps the canonical form. -/
theorem SMap.wf_filter [DecidableEq α] (d : Nat → α) (p : Nat × α → Bool) (m : List (Nat × α)) (h : SMap.wf d m = true) :
    SMap.wf d (m.filter p) = true := by
  cases m with
  | nil => rfl
  | cons c r =>
    obtain ⟨j, v⟩ := c
    have h' := (SMap.wfFrom_none d j v r).1 h
    have hr := SMap.wfFrom_filter d p r j h'.2
    rw [List.filter_cons]
    split
    · exact (SMap.wfFrom_none d j v _).2 ⟨h'.1, hr⟩
    · exact SMap.wf_of_some d _ hr

theorem SMap.wfFrom_insert [DecidableEq α] (d : Nat → α) (k : Nat) (v : α) (hv : v ≠ d k) (m : List (Nat × α)) :
    ∀ b, b < k → SMap.wfFrom d (some b) m = true → SMap.wfFrom d (some b) (SMap.insert m k v) = true := by
  induction m with
  | nil => intro b hb _; exact (SMap.wfFrom_some d b k v []).2 ⟨hb, hv, rfl⟩
  | cons c r ih =>
    intro b hb h
    obtain ⟨j, u⟩ := c
    rw [SMap.wfFrom_some] at h
    unfold SMap.insert
    split
    · rename_i e
      subst e
      exact (SMap.wfFrom_some d b _ v r).2 ⟨hb, hv, h.2.2⟩
    · split
      · rename_i hkj
        exact (SMap.wfFrom_some d b k v _).2 ⟨hb, hv, (SMap.wfFrom_some d k j u r).2 ⟨hkj, h.2⟩⟩
      · exact (SMap.wfFrom_some d b j u _).2 ⟨h.1, h.2.1, ih j (by omega) h.2.2⟩

theorem SMap.wf_insert [DecidableEq α] (d : Nat → α) (k : Nat) (v : α) (hv : v ≠ d k) (m : List (Nat × α)) (h : SMap.wf d m = true) :
    SMap.wf d (SMap.insert m k v) = true := by
  cases m with
  | nil => exact (SMap.wfFrom_none d k v []).2 ⟨hv, rfl⟩
  | cons c r =>
    obtain ⟨j, u⟩ := c
    have h' := (SMap.wfFrom_none d j u r).1 h
    unfold SMap.insert
    split
    · rename_i e
      subst e
      exact (SMap.wfFrom_none d _ v r).2 ⟨hv, h'.2⟩
    · split
      · rename_i hkj
        exact (SMap.wfFrom_none d k v _).2 ⟨hv, (SMap.wfFrom_some d k j u r).2 ⟨hkj, h'⟩⟩
      · exact (SMap.wfFrom_none d j u _).2 ⟨h'.1, SMap.wfFrom_insert d k v hv r j (by omega) h'.2⟩

/-- Writing a key keeps the canonical form. -/
theorem SMap.wf_put [DecidableEq α] (d : Nat → α) (m : List (Nat × α)) (k : Nat) (v : α) (h : SMap.wf d m = true) :
    SMap.wf d (SMap.put d m k v) = true := by
  unfold SMap.put
  split
  · exact SMap.wf_filter d _ m h
  · rename_i hv
    exact SMap.wf_insert d k v hv m h

end Sys2Proof.Machine
end

