-- ==== Sys2Proof/Laws/State.lean ====
section
/-!
SUPPORT. Sys2Proof/Laws/State.lean: what each update of the state leaves as it was, field by field, and that an entry of a block's map reads
back as it was stored.
-/
namespace Sys2Proof.Machine

/-! ### `setWord` -/

@[simp] theorem State.setWord_pending (s : State) (a : Nat) (v : Word) : (s.setWord a v).pending = s.pending := by rfl
@[simp] theorem State.setWord_variant (s : State) (a : Nat) (v : Word) : (s.setWord a v).variant = s.variant := by rfl
@[simp] theorem State.setWord_draws (s : State) (a : Nat) (v : Word) : (s.setWord a v).draws = s.draws := by rfl
@[simp] theorem State.setWord_mem (s : State) (a : Nat) (v : Word) : (s.setWord a v).mem = s.mem := by rfl
@[simp] theorem State.setWord_keys (s : State) (a : Nat) (v : Word) : (s.setWord a v).keys = s.keys := by rfl
@[simp] theorem State.setWord_replies (s : State) (a : Nat) (v : Word) : (s.setWord a v).replies = s.replies := by rfl
@[simp] theorem State.setWord_tbf (s : State) (a : Nat) (v : Word) : (s.setWord a v).tbf = s.tbf := by rfl
@[simp] theorem State.setWord_clk (s : State) (a : Nat) (v : Word) : (s.setWord a v).clk = s.clk := by rfl
@[simp] theorem State.setWord_timeBase (s : State) (a : Nat) (v : Word) : (s.setWord a v).timeBase = s.timeBase := by rfl
@[simp] theorem State.setWord_tbShadows (s : State) (a : Nat) (v : Word) : (s.setWord a v).tbShadows = s.tbShadows := by rfl
@[simp] theorem State.setWord_tongs (s : State) (a : Nat) (v : Word) : (s.setWord a v).tongs = s.tongs := by rfl
@[simp] theorem State.setWord_bursts (s : State) (a : Nat) (v : Word) : (s.setWord a v).bursts = s.bursts := by rfl
@[simp] theorem State.setWord_pairs (s : State) (a : Nat) (v : Word) : (s.setWord a v).pairs = s.pairs := by rfl
@[simp] theorem State.setWord_sources (s : State) (a : Nat) (v : Word) : (s.setWord a v).sources = s.sources := by rfl
@[simp] theorem State.setWord_targets (s : State) (a : Nat) (v : Word) : (s.setWord a v).targets = s.targets := by rfl
@[simp] theorem State.setWord_bbox (s : State) (a : Nat) (v : Word) : (s.setWord a v).bbox = s.bbox := by rfl
@[simp] theorem State.setWord_hearth (s : State) (a : Nat) (v : Word) : (s.setWord a v).hearth = s.hearth := by rfl
@[simp] theorem State.setWord_bbShadows (s : State) (a : Nat) (v : Word) : (s.setWord a v).bbShadows = s.bbShadows := by rfl
@[simp] theorem State.setWord_supplyBad (s : State) (a : Nat) (v : Word) : (s.setWord a v).supplyBad = s.supplyBad := by rfl
@[simp] theorem State.setWord_vaon (s : State) (a : Nat) (v : Word) : (s.setWord a v).vaon = s.vaon := by rfl
@[simp] theorem State.setWord_chans (s : State) (a : Nat) (v : Word) : (s.setWord a v).chans = s.chans := by rfl
@[simp] theorem State.setWord_recals (s : State) (a : Nat) (v : Word) : (s.setWord a v).recals = s.recals := by rfl
@[simp] theorem State.setWord_anchors (s : State) (a : Nat) (v : Word) : (s.setWord a v).anchors = s.anchors := by rfl
@[simp] theorem State.setWord_pgs (s : State) (a : Nat) (v : Word) : (s.setWord a v).pgs = s.pgs := by rfl
@[simp] theorem State.setWord_lane0 (s : State) (a : Nat) (v : Word) : (s.setWord a v).lane0 = s.lane0 := by rfl
@[simp] theorem State.setWord_lane1 (s : State) (a : Nat) (v : Word) : (s.setWord a v).lane1 = s.lane1 := by rfl
@[simp] theorem State.setWord_slots (s : State) (a : Nat) (v : Word) : (s.setWord a v).slots = s.slots := by rfl
@[simp] theorem State.setWord_points (s : State) (a : Nat) (v : Word) : (s.setWord a v).points = s.points := by rfl
@[simp] theorem State.setWord_rules (s : State) (a : Nat) (v : Word) : (s.setWord a v).rules = s.rules := by rfl
@[simp] theorem State.setWord_firings (s : State) (a : Nat) (v : Word) : (s.setWord a v).firings = s.firings := by rfl
@[simp] theorem State.setWord_wms (s : State) (a : Nat) (v : Word) : (s.setWord a v).wms = s.wms := by rfl
@[simp] theorem State.setWord_lcs (s : State) (a : Nat) (v : Word) : (s.setWord a v).lcs = s.lcs := by rfl
@[simp] theorem State.setWord_lcShadows (s : State) (a : Nat) (v : Word) : (s.setWord a v).lcShadows = s.lcShadows := by rfl
@[simp] theorem State.setWord_ports (s : State) (a : Nat) (v : Word) : (s.setWord a v).ports = s.ports := by rfl
@[simp] theorem State.setWord_pumpOk (s : State) (a : Nat) (v : Word) : (s.setWord a v).pumpOk = s.pumpOk := by rfl
@[simp] theorem State.setWord_ctxs (s : State) (a : Nat) (v : Word) : (s.setWord a v).ctxs = s.ctxs := by rfl
@[simp] theorem State.setWord_badRefs (s : State) (a : Nat) (v : Word) : (s.setWord a v).badRefs = s.badRefs := by rfl
@[simp] theorem State.setWord_hk (s : State) (a : Nat) (v : Word) : (s.setWord a v).hk = s.hk := by rfl
@[simp] theorem State.setWord_pwr (s : State) (a : Nat) (v : Word) : (s.setWord a v).pwr = s.pwr := by rfl
@[simp] theorem State.setWord_cmps (s : State) (a : Nat) (v : Word) : (s.setWord a v).cmps = s.cmps := by rfl
@[simp] theorem State.setWord_cores (s : State) (a : Nat) (v : Word) : (s.setWord a v).cores = s.cores := by rfl
@[simp] theorem State.setWord_steps (s : State) (a : Nat) (v : Word) : (s.setWord a v).steps = s.steps := by rfl
@[simp] theorem State.setWord_repair (s : State) (a : Nat) (v : Word) : (s.setWord a v).repair = s.repair := by rfl
@[simp] theorem State.setWord_img (s : State) (a : Nat) (v : Word) : (s.setWord a v).img = s.img := by rfl
@[simp] theorem State.setWord_ring (s : State) (a : Nat) (v : Word) : (s.setWord a v).ring = s.ring := by rfl
@[simp] theorem State.setWord_host (s : State) (a : Nat) (v : Word) : (s.setWord a v).host = s.host := by rfl
@[simp] theorem State.setWord_boot (s : State) (a : Nat) (v : Word) : (s.setWord a v).boot = s.boot := by rfl
@[simp] theorem State.setWord_hfShadows (s : State) (a : Nat) (v : Word) : (s.setWord a v).hfShadows = s.hfShadows := by rfl
@[simp] theorem State.setWord_tap (s : State) (a : Nat) (v : Word) : (s.setWord a v).tap = s.tap := by rfl

/-! ### `set` -/

@[simp] theorem State.set_pending (s : State) (f : Fld) (v : Nat) : (s.set f v).pending = s.pending := by rfl
@[simp] theorem State.set_variant (s : State) (f : Fld) (v : Nat) : (s.set f v).variant = s.variant := by rfl
@[simp] theorem State.set_draws (s : State) (f : Fld) (v : Nat) : (s.set f v).draws = s.draws := by rfl
@[simp] theorem State.set_mem (s : State) (f : Fld) (v : Nat) : (s.set f v).mem = s.mem := by rfl
@[simp] theorem State.set_keys (s : State) (f : Fld) (v : Nat) : (s.set f v).keys = s.keys := by rfl
@[simp] theorem State.set_replies (s : State) (f : Fld) (v : Nat) : (s.set f v).replies = s.replies := by rfl
@[simp] theorem State.set_tbf (s : State) (f : Fld) (v : Nat) : (s.set f v).tbf = s.tbf := by rfl
@[simp] theorem State.set_clk (s : State) (f : Fld) (v : Nat) : (s.set f v).clk = s.clk := by rfl
@[simp] theorem State.set_timeBase (s : State) (f : Fld) (v : Nat) : (s.set f v).timeBase = s.timeBase := by rfl
@[simp] theorem State.set_tbShadows (s : State) (f : Fld) (v : Nat) : (s.set f v).tbShadows = s.tbShadows := by rfl
@[simp] theorem State.set_tongs (s : State) (f : Fld) (v : Nat) : (s.set f v).tongs = s.tongs := by rfl
@[simp] theorem State.set_bursts (s : State) (f : Fld) (v : Nat) : (s.set f v).bursts = s.bursts := by rfl
@[simp] theorem State.set_pairs (s : State) (f : Fld) (v : Nat) : (s.set f v).pairs = s.pairs := by rfl
@[simp] theorem State.set_sources (s : State) (f : Fld) (v : Nat) : (s.set f v).sources = s.sources := by rfl
@[simp] theorem State.set_targets (s : State) (f : Fld) (v : Nat) : (s.set f v).targets = s.targets := by rfl
@[simp] theorem State.set_bbox (s : State) (f : Fld) (v : Nat) : (s.set f v).bbox = s.bbox := by rfl
@[simp] theorem State.set_hearth (s : State) (f : Fld) (v : Nat) : (s.set f v).hearth = s.hearth := by rfl
@[simp] theorem State.set_bbShadows (s : State) (f : Fld) (v : Nat) : (s.set f v).bbShadows = s.bbShadows := by rfl
@[simp] theorem State.set_supplyBad (s : State) (f : Fld) (v : Nat) : (s.set f v).supplyBad = s.supplyBad := by rfl
@[simp] theorem State.set_vaon (s : State) (f : Fld) (v : Nat) : (s.set f v).vaon = s.vaon := by rfl
@[simp] theorem State.set_chans (s : State) (f : Fld) (v : Nat) : (s.set f v).chans = s.chans := by rfl
@[simp] theorem State.set_recals (s : State) (f : Fld) (v : Nat) : (s.set f v).recals = s.recals := by rfl
@[simp] theorem State.set_anchors (s : State) (f : Fld) (v : Nat) : (s.set f v).anchors = s.anchors := by rfl
@[simp] theorem State.set_pgs (s : State) (f : Fld) (v : Nat) : (s.set f v).pgs = s.pgs := by rfl
@[simp] theorem State.set_lane0 (s : State) (f : Fld) (v : Nat) : (s.set f v).lane0 = s.lane0 := by rfl
@[simp] theorem State.set_lane1 (s : State) (f : Fld) (v : Nat) : (s.set f v).lane1 = s.lane1 := by rfl
@[simp] theorem State.set_slots (s : State) (f : Fld) (v : Nat) : (s.set f v).slots = s.slots := by rfl
@[simp] theorem State.set_points (s : State) (f : Fld) (v : Nat) : (s.set f v).points = s.points := by rfl
@[simp] theorem State.set_rules (s : State) (f : Fld) (v : Nat) : (s.set f v).rules = s.rules := by rfl
@[simp] theorem State.set_firings (s : State) (f : Fld) (v : Nat) : (s.set f v).firings = s.firings := by rfl
@[simp] theorem State.set_wms (s : State) (f : Fld) (v : Nat) : (s.set f v).wms = s.wms := by rfl
@[simp] theorem State.set_lcs (s : State) (f : Fld) (v : Nat) : (s.set f v).lcs = s.lcs := by rfl
@[simp] theorem State.set_lcShadows (s : State) (f : Fld) (v : Nat) : (s.set f v).lcShadows = s.lcShadows := by rfl
@[simp] theorem State.set_ports (s : State) (f : Fld) (v : Nat) : (s.set f v).ports = s.ports := by rfl
@[simp] theorem State.set_pumpOk (s : State) (f : Fld) (v : Nat) : (s.set f v).pumpOk = s.pumpOk := by rfl
@[simp] theorem State.set_ctxs (s : State) (f : Fld) (v : Nat) : (s.set f v).ctxs = s.ctxs := by rfl
@[simp] theorem State.set_badRefs (s : State) (f : Fld) (v : Nat) : (s.set f v).badRefs = s.badRefs := by rfl
@[simp] theorem State.set_hk (s : State) (f : Fld) (v : Nat) : (s.set f v).hk = s.hk := by rfl
@[simp] theorem State.set_pwr (s : State) (f : Fld) (v : Nat) : (s.set f v).pwr = s.pwr := by rfl
@[simp] theorem State.set_cmps (s : State) (f : Fld) (v : Nat) : (s.set f v).cmps = s.cmps := by rfl
@[simp] theorem State.set_cores (s : State) (f : Fld) (v : Nat) : (s.set f v).cores = s.cores := by rfl
@[simp] theorem State.set_steps (s : State) (f : Fld) (v : Nat) : (s.set f v).steps = s.steps := by rfl
@[simp] theorem State.set_repair (s : State) (f : Fld) (v : Nat) : (s.set f v).repair = s.repair := by rfl
@[simp] theorem State.set_img (s : State) (f : Fld) (v : Nat) : (s.set f v).img = s.img := by rfl
@[simp] theorem State.set_ring (s : State) (f : Fld) (v : Nat) : (s.set f v).ring = s.ring := by rfl
@[simp] theorem State.set_host (s : State) (f : Fld) (v : Nat) : (s.set f v).host = s.host := by rfl
@[simp] theorem State.set_boot (s : State) (f : Fld) (v : Nat) : (s.set f v).boot = s.boot := by rfl
@[simp] theorem State.set_hfShadows (s : State) (f : Fld) (v : Nat) : (s.set f v).hfShadows = s.hfShadows := by rfl
@[simp] theorem State.set_tap (s : State) (f : Fld) (v : Nat) : (s.set f v).tap = s.tap := by rfl

/-! ### `setByte` -/

@[simp] theorem State.setByte_pending (s : State) (a : Nat) (v : Byte) : (s.setByte a v).pending = s.pending := by rfl
@[simp] theorem State.setByte_variant (s : State) (a : Nat) (v : Byte) : (s.setByte a v).variant = s.variant := by rfl
@[simp] theorem State.setByte_draws (s : State) (a : Nat) (v : Byte) : (s.setByte a v).draws = s.draws := by rfl
@[simp] theorem State.setByte_regs (s : State) (a : Nat) (v : Byte) : (s.setByte a v).regs = s.regs := by rfl
@[simp] theorem State.setByte_keys (s : State) (a : Nat) (v : Byte) : (s.setByte a v).keys = s.keys := by rfl
@[simp] theorem State.setByte_replies (s : State) (a : Nat) (v : Byte) : (s.setByte a v).replies = s.replies := by rfl
@[simp] theorem State.setByte_tbf (s : State) (a : Nat) (v : Byte) : (s.setByte a v).tbf = s.tbf := by rfl
@[simp] theorem State.setByte_clk (s : State) (a : Nat) (v : Byte) : (s.setByte a v).clk = s.clk := by rfl
@[simp] theorem State.setByte_timeBase (s : State) (a : Nat) (v : Byte) : (s.setByte a v).timeBase = s.timeBase := by rfl
@[simp] theorem State.setByte_tbShadows (s : State) (a : Nat) (v : Byte) : (s.setByte a v).tbShadows = s.tbShadows := by rfl
@[simp] theorem State.setByte_tongs (s : State) (a : Nat) (v : Byte) : (s.setByte a v).tongs = s.tongs := by rfl
@[simp] theorem State.setByte_bursts (s : State) (a : Nat) (v : Byte) : (s.setByte a v).bursts = s.bursts := by rfl
@[simp] theorem State.setByte_pairs (s : State) (a : Nat) (v : Byte) : (s.setByte a v).pairs = s.pairs := by rfl
@[simp] theorem State.setByte_sources (s : State) (a : Nat) (v : Byte) : (s.setByte a v).sources = s.sources := by rfl
@[simp] theorem State.setByte_targets (s : State) (a : Nat) (v : Byte) : (s.setByte a v).targets = s.targets := by rfl
@[simp] theorem State.setByte_bbox (s : State) (a : Nat) (v : Byte) : (s.setByte a v).bbox = s.bbox := by rfl
@[simp] theorem State.setByte_hearth (s : State) (a : Nat) (v : Byte) : (s.setByte a v).hearth = s.hearth := by rfl
@[simp] theorem State.setByte_bbShadows (s : State) (a : Nat) (v : Byte) : (s.setByte a v).bbShadows = s.bbShadows := by rfl
@[simp] theorem State.setByte_supplyBad (s : State) (a : Nat) (v : Byte) : (s.setByte a v).supplyBad = s.supplyBad := by rfl
@[simp] theorem State.setByte_vaon (s : State) (a : Nat) (v : Byte) : (s.setByte a v).vaon = s.vaon := by rfl
@[simp] theorem State.setByte_chans (s : State) (a : Nat) (v : Byte) : (s.setByte a v).chans = s.chans := by rfl
@[simp] theorem State.setByte_recals (s : State) (a : Nat) (v : Byte) : (s.setByte a v).recals = s.recals := by rfl
@[simp] theorem State.setByte_anchors (s : State) (a : Nat) (v : Byte) : (s.setByte a v).anchors = s.anchors := by rfl
@[simp] theorem State.setByte_pgs (s : State) (a : Nat) (v : Byte) : (s.setByte a v).pgs = s.pgs := by rfl
@[simp] theorem State.setByte_lane0 (s : State) (a : Nat) (v : Byte) : (s.setByte a v).lane0 = s.lane0 := by rfl
@[simp] theorem State.setByte_lane1 (s : State) (a : Nat) (v : Byte) : (s.setByte a v).lane1 = s.lane1 := by rfl
@[simp] theorem State.setByte_slots (s : State) (a : Nat) (v : Byte) : (s.setByte a v).slots = s.slots := by rfl
@[simp] theorem State.setByte_points (s : State) (a : Nat) (v : Byte) : (s.setByte a v).points = s.points := by rfl
@[simp] theorem State.setByte_rules (s : State) (a : Nat) (v : Byte) : (s.setByte a v).rules = s.rules := by rfl
@[simp] theorem State.setByte_firings (s : State) (a : Nat) (v : Byte) : (s.setByte a v).firings = s.firings := by rfl
@[simp] theorem State.setByte_wms (s : State) (a : Nat) (v : Byte) : (s.setByte a v).wms = s.wms := by rfl
@[simp] theorem State.setByte_lcs (s : State) (a : Nat) (v : Byte) : (s.setByte a v).lcs = s.lcs := by rfl
@[simp] theorem State.setByte_lcShadows (s : State) (a : Nat) (v : Byte) : (s.setByte a v).lcShadows = s.lcShadows := by rfl
@[simp] theorem State.setByte_ports (s : State) (a : Nat) (v : Byte) : (s.setByte a v).ports = s.ports := by rfl
@[simp] theorem State.setByte_pumpOk (s : State) (a : Nat) (v : Byte) : (s.setByte a v).pumpOk = s.pumpOk := by rfl
@[simp] theorem State.setByte_ctxs (s : State) (a : Nat) (v : Byte) : (s.setByte a v).ctxs = s.ctxs := by rfl
@[simp] theorem State.setByte_badRefs (s : State) (a : Nat) (v : Byte) : (s.setByte a v).badRefs = s.badRefs := by rfl
@[simp] theorem State.setByte_hk (s : State) (a : Nat) (v : Byte) : (s.setByte a v).hk = s.hk := by rfl
@[simp] theorem State.setByte_pwr (s : State) (a : Nat) (v : Byte) : (s.setByte a v).pwr = s.pwr := by rfl
@[simp] theorem State.setByte_cmps (s : State) (a : Nat) (v : Byte) : (s.setByte a v).cmps = s.cmps := by rfl
@[simp] theorem State.setByte_cores (s : State) (a : Nat) (v : Byte) : (s.setByte a v).cores = s.cores := by rfl
@[simp] theorem State.setByte_steps (s : State) (a : Nat) (v : Byte) : (s.setByte a v).steps = s.steps := by rfl
@[simp] theorem State.setByte_repair (s : State) (a : Nat) (v : Byte) : (s.setByte a v).repair = s.repair := by rfl
@[simp] theorem State.setByte_img (s : State) (a : Nat) (v : Byte) : (s.setByte a v).img = s.img := by rfl
@[simp] theorem State.setByte_ring (s : State) (a : Nat) (v : Byte) : (s.setByte a v).ring = s.ring := by rfl
@[simp] theorem State.setByte_host (s : State) (a : Nat) (v : Byte) : (s.setByte a v).host = s.host := by rfl
@[simp] theorem State.setByte_boot (s : State) (a : Nat) (v : Byte) : (s.setByte a v).boot = s.boot := by rfl
@[simp] theorem State.setByte_hfShadows (s : State) (a : Nat) (v : Byte) : (s.setByte a v).hfShadows = s.hfShadows := by rfl
@[simp] theorem State.setByte_tap (s : State) (a : Nat) (v : Byte) : (s.setByte a v).tap = s.tap := by rfl

/-! ### `clearMem` -/

@[simp] theorem State.clearMem_pending (s : State) (lo hi : Nat) : (s.clearMem lo hi).pending = s.pending := by rfl
@[simp] theorem State.clearMem_variant (s : State) (lo hi : Nat) : (s.clearMem lo hi).variant = s.variant := by rfl
@[simp] theorem State.clearMem_draws (s : State) (lo hi : Nat) : (s.clearMem lo hi).draws = s.draws := by rfl
@[simp] theorem State.clearMem_regs (s : State) (lo hi : Nat) : (s.clearMem lo hi).regs = s.regs := by rfl
@[simp] theorem State.clearMem_keys (s : State) (lo hi : Nat) : (s.clearMem lo hi).keys = s.keys := by rfl
@[simp] theorem State.clearMem_replies (s : State) (lo hi : Nat) : (s.clearMem lo hi).replies = s.replies := by rfl
@[simp] theorem State.clearMem_tbf (s : State) (lo hi : Nat) : (s.clearMem lo hi).tbf = s.tbf := by rfl
@[simp] theorem State.clearMem_clk (s : State) (lo hi : Nat) : (s.clearMem lo hi).clk = s.clk := by rfl
@[simp] theorem State.clearMem_timeBase (s : State) (lo hi : Nat) : (s.clearMem lo hi).timeBase = s.timeBase := by rfl
@[simp] theorem State.clearMem_tbShadows (s : State) (lo hi : Nat) : (s.clearMem lo hi).tbShadows = s.tbShadows := by rfl
@[simp] theorem State.clearMem_tongs (s : State) (lo hi : Nat) : (s.clearMem lo hi).tongs = s.tongs := by rfl
@[simp] theorem State.clearMem_bursts (s : State) (lo hi : Nat) : (s.clearMem lo hi).bursts = s.bursts := by rfl
@[simp] theorem State.clearMem_pairs (s : State) (lo hi : Nat) : (s.clearMem lo hi).pairs = s.pairs := by rfl
@[simp] theorem State.clearMem_sources (s : State) (lo hi : Nat) : (s.clearMem lo hi).sources = s.sources := by rfl
@[simp] theorem State.clearMem_targets (s : State) (lo hi : Nat) : (s.clearMem lo hi).targets = s.targets := by rfl
@[simp] theorem State.clearMem_bbox (s : State) (lo hi : Nat) : (s.clearMem lo hi).bbox = s.bbox := by rfl
@[simp] theorem State.clearMem_hearth (s : State) (lo hi : Nat) : (s.clearMem lo hi).hearth = s.hearth := by rfl
@[simp] theorem State.clearMem_bbShadows (s : State) (lo hi : Nat) : (s.clearMem lo hi).bbShadows = s.bbShadows := by rfl
@[simp] theorem State.clearMem_supplyBad (s : State) (lo hi : Nat) : (s.clearMem lo hi).supplyBad = s.supplyBad := by rfl
@[simp] theorem State.clearMem_vaon (s : State) (lo hi : Nat) : (s.clearMem lo hi).vaon = s.vaon := by rfl
@[simp] theorem State.clearMem_chans (s : State) (lo hi : Nat) : (s.clearMem lo hi).chans = s.chans := by rfl
@[simp] theorem State.clearMem_recals (s : State) (lo hi : Nat) : (s.clearMem lo hi).recals = s.recals := by rfl
@[simp] theorem State.clearMem_anchors (s : State) (lo hi : Nat) : (s.clearMem lo hi).anchors = s.anchors := by rfl
@[simp] theorem State.clearMem_pgs (s : State) (lo hi : Nat) : (s.clearMem lo hi).pgs = s.pgs := by rfl
@[simp] theorem State.clearMem_lane0 (s : State) (lo hi : Nat) : (s.clearMem lo hi).lane0 = s.lane0 := by rfl
@[simp] theorem State.clearMem_lane1 (s : State) (lo hi : Nat) : (s.clearMem lo hi).lane1 = s.lane1 := by rfl
@[simp] theorem State.clearMem_slots (s : State) (lo hi : Nat) : (s.clearMem lo hi).slots = s.slots := by rfl
@[simp] theorem State.clearMem_points (s : State) (lo hi : Nat) : (s.clearMem lo hi).points = s.points := by rfl
@[simp] theorem State.clearMem_rules (s : State) (lo hi : Nat) : (s.clearMem lo hi).rules = s.rules := by rfl
@[simp] theorem State.clearMem_firings (s : State) (lo hi : Nat) : (s.clearMem lo hi).firings = s.firings := by rfl
@[simp] theorem State.clearMem_wms (s : State) (lo hi : Nat) : (s.clearMem lo hi).wms = s.wms := by rfl
@[simp] theorem State.clearMem_lcs (s : State) (lo hi : Nat) : (s.clearMem lo hi).lcs = s.lcs := by rfl
@[simp] theorem State.clearMem_lcShadows (s : State) (lo hi : Nat) : (s.clearMem lo hi).lcShadows = s.lcShadows := by rfl
@[simp] theorem State.clearMem_ports (s : State) (lo hi : Nat) : (s.clearMem lo hi).ports = s.ports := by rfl
@[simp] theorem State.clearMem_pumpOk (s : State) (lo hi : Nat) : (s.clearMem lo hi).pumpOk = s.pumpOk := by rfl
@[simp] theorem State.clearMem_ctxs (s : State) (lo hi : Nat) : (s.clearMem lo hi).ctxs = s.ctxs := by rfl
@[simp] theorem State.clearMem_badRefs (s : State) (lo hi : Nat) : (s.clearMem lo hi).badRefs = s.badRefs := by rfl
@[simp] theorem State.clearMem_hk (s : State) (lo hi : Nat) : (s.clearMem lo hi).hk = s.hk := by rfl
@[simp] theorem State.clearMem_pwr (s : State) (lo hi : Nat) : (s.clearMem lo hi).pwr = s.pwr := by rfl
@[simp] theorem State.clearMem_cmps (s : State) (lo hi : Nat) : (s.clearMem lo hi).cmps = s.cmps := by rfl
@[simp] theorem State.clearMem_cores (s : State) (lo hi : Nat) : (s.clearMem lo hi).cores = s.cores := by rfl
@[simp] theorem State.clearMem_steps (s : State) (lo hi : Nat) : (s.clearMem lo hi).steps = s.steps := by rfl
@[simp] theorem State.clearMem_repair (s : State) (lo hi : Nat) : (s.clearMem lo hi).repair = s.repair := by rfl
@[simp] theorem State.clearMem_img (s : State) (lo hi : Nat) : (s.clearMem lo hi).img = s.img := by rfl
@[simp] theorem State.clearMem_ring (s : State) (lo hi : Nat) : (s.clearMem lo hi).ring = s.ring := by rfl
@[simp] theorem State.clearMem_host (s : State) (lo hi : Nat) : (s.clearMem lo hi).host = s.host := by rfl
@[simp] theorem State.clearMem_boot (s : State) (lo hi : Nat) : (s.clearMem lo hi).boot = s.boot := by rfl
@[simp] theorem State.clearMem_hfShadows (s : State) (lo hi : Nat) : (s.clearMem lo hi).hfShadows = s.hfShadows := by rfl
@[simp] theorem State.clearMem_tap (s : State) (lo hi : Nat) : (s.clearMem lo hi).tap = s.tap := by rfl

/-! ### `setReply` -/

@[simp] theorem State.setReply_pending (s : State) (m : Nat) (x : Reply) : (s.setReply m x).pending = s.pending := by rfl
@[simp] theorem State.setReply_variant (s : State) (m : Nat) (x : Reply) : (s.setReply m x).variant = s.variant := by rfl
@[simp] theorem State.setReply_draws (s : State) (m : Nat) (x : Reply) : (s.setReply m x).draws = s.draws := by rfl
@[simp] theorem State.setReply_regs (s : State) (m : Nat) (x : Reply) : (s.setReply m x).regs = s.regs := by rfl
@[simp] theorem State.setReply_mem (s : State) (m : Nat) (x : Reply) : (s.setReply m x).mem = s.mem := by rfl
@[simp] theorem State.setReply_keys (s : State) (m : Nat) (x : Reply) : (s.setReply m x).keys = s.keys := by rfl
@[simp] theorem State.setReply_tbf (s : State) (m : Nat) (x : Reply) : (s.setReply m x).tbf = s.tbf := by rfl
@[simp] theorem State.setReply_clk (s : State) (m : Nat) (x : Reply) : (s.setReply m x).clk = s.clk := by rfl
@[simp] theorem State.setReply_timeBase (s : State) (m : Nat) (x : Reply) : (s.setReply m x).timeBase = s.timeBase := by rfl
@[simp] theorem State.setReply_tbShadows (s : State) (m : Nat) (x : Reply) : (s.setReply m x).tbShadows = s.tbShadows := by rfl
@[simp] theorem State.setReply_tongs (s : State) (m : Nat) (x : Reply) : (s.setReply m x).tongs = s.tongs := by rfl
@[simp] theorem State.setReply_bursts (s : State) (m : Nat) (x : Reply) : (s.setReply m x).bursts = s.bursts := by rfl
@[simp] theorem State.setReply_pairs (s : State) (m : Nat) (x : Reply) : (s.setReply m x).pairs = s.pairs := by rfl
@[simp] theorem State.setReply_sources (s : State) (m : Nat) (x : Reply) : (s.setReply m x).sources = s.sources := by rfl
@[simp] theorem State.setReply_targets (s : State) (m : Nat) (x : Reply) : (s.setReply m x).targets = s.targets := by rfl
@[simp] theorem State.setReply_bbox (s : State) (m : Nat) (x : Reply) : (s.setReply m x).bbox = s.bbox := by rfl
@[simp] theorem State.setReply_hearth (s : State) (m : Nat) (x : Reply) : (s.setReply m x).hearth = s.hearth := by rfl
@[simp] theorem State.setReply_bbShadows (s : State) (m : Nat) (x : Reply) : (s.setReply m x).bbShadows = s.bbShadows := by rfl
@[simp] theorem State.setReply_supplyBad (s : State) (m : Nat) (x : Reply) : (s.setReply m x).supplyBad = s.supplyBad := by rfl
@[simp] theorem State.setReply_vaon (s : State) (m : Nat) (x : Reply) : (s.setReply m x).vaon = s.vaon := by rfl
@[simp] theorem State.setReply_chans (s : State) (m : Nat) (x : Reply) : (s.setReply m x).chans = s.chans := by rfl
@[simp] theorem State.setReply_recals (s : State) (m : Nat) (x : Reply) : (s.setReply m x).recals = s.recals := by rfl
@[simp] theorem State.setReply_anchors (s : State) (m : Nat) (x : Reply) : (s.setReply m x).anchors = s.anchors := by rfl
@[simp] theorem State.setReply_pgs (s : State) (m : Nat) (x : Reply) : (s.setReply m x).pgs = s.pgs := by rfl
@[simp] theorem State.setReply_lane0 (s : State) (m : Nat) (x : Reply) : (s.setReply m x).lane0 = s.lane0 := by rfl
@[simp] theorem State.setReply_lane1 (s : State) (m : Nat) (x : Reply) : (s.setReply m x).lane1 = s.lane1 := by rfl
@[simp] theorem State.setReply_slots (s : State) (m : Nat) (x : Reply) : (s.setReply m x).slots = s.slots := by rfl
@[simp] theorem State.setReply_points (s : State) (m : Nat) (x : Reply) : (s.setReply m x).points = s.points := by rfl
@[simp] theorem State.setReply_rules (s : State) (m : Nat) (x : Reply) : (s.setReply m x).rules = s.rules := by rfl
@[simp] theorem State.setReply_firings (s : State) (m : Nat) (x : Reply) : (s.setReply m x).firings = s.firings := by rfl
@[simp] theorem State.setReply_wms (s : State) (m : Nat) (x : Reply) : (s.setReply m x).wms = s.wms := by rfl
@[simp] theorem State.setReply_lcs (s : State) (m : Nat) (x : Reply) : (s.setReply m x).lcs = s.lcs := by rfl
@[simp] theorem State.setReply_lcShadows (s : State) (m : Nat) (x : Reply) : (s.setReply m x).lcShadows = s.lcShadows := by rfl
@[simp] theorem State.setReply_ports (s : State) (m : Nat) (x : Reply) : (s.setReply m x).ports = s.ports := by rfl
@[simp] theorem State.setReply_pumpOk (s : State) (m : Nat) (x : Reply) : (s.setReply m x).pumpOk = s.pumpOk := by rfl
@[simp] theorem State.setReply_ctxs (s : State) (m : Nat) (x : Reply) : (s.setReply m x).ctxs = s.ctxs := by rfl
@[simp] theorem State.setReply_badRefs (s : State) (m : Nat) (x : Reply) : (s.setReply m x).badRefs = s.badRefs := by rfl
@[simp] theorem State.setReply_hk (s : State) (m : Nat) (x : Reply) : (s.setReply m x).hk = s.hk := by rfl
@[simp] theorem State.setReply_pwr (s : State) (m : Nat) (x : Reply) : (s.setReply m x).pwr = s.pwr := by rfl
@[simp] theorem State.setReply_cmps (s : State) (m : Nat) (x : Reply) : (s.setReply m x).cmps = s.cmps := by rfl
@[simp] theorem State.setReply_cores (s : State) (m : Nat) (x : Reply) : (s.setReply m x).cores = s.cores := by rfl
@[simp] theorem State.setReply_steps (s : State) (m : Nat) (x : Reply) : (s.setReply m x).steps = s.steps := by rfl
@[simp] theorem State.setReply_repair (s : State) (m : Nat) (x : Reply) : (s.setReply m x).repair = s.repair := by rfl
@[simp] theorem State.setReply_img (s : State) (m : Nat) (x : Reply) : (s.setReply m x).img = s.img := by rfl
@[simp] theorem State.setReply_ring (s : State) (m : Nat) (x : Reply) : (s.setReply m x).ring = s.ring := by rfl
@[simp] theorem State.setReply_host (s : State) (m : Nat) (x : Reply) : (s.setReply m x).host = s.host := by rfl
@[simp] theorem State.setReply_boot (s : State) (m : Nat) (x : Reply) : (s.setReply m x).boot = s.boot := by rfl
@[simp] theorem State.setReply_hfShadows (s : State) (m : Nat) (x : Reply) : (s.setReply m x).hfShadows = s.hfShadows := by rfl
@[simp] theorem State.setReply_tap (s : State) (m : Nat) (x : Reply) : (s.setReply m x).tap = s.tap := by rfl

/-! ### `setChan` -/

@[simp] theorem State.setChan_pending (s : State) (c : Nat) (x : Chan) : (s.setChan c x).pending = s.pending := by unfold State.setChan; split <;> rfl
@[simp] theorem State.setChan_variant (s : State) (c : Nat) (x : Chan) : (s.setChan c x).variant = s.variant := by unfold State.setChan; split <;> rfl
@[simp] theorem State.setChan_draws (s : State) (c : Nat) (x : Chan) : (s.setChan c x).draws = s.draws := by unfold State.setChan; split <;> rfl
@[simp] theorem State.setChan_regs (s : State) (c : Nat) (x : Chan) : (s.setChan c x).regs = s.regs := by unfold State.setChan; split <;> rfl
@[simp] theorem State.setChan_mem (s : State) (c : Nat) (x : Chan) : (s.setChan c x).mem = s.mem := by unfold State.setChan; split <;> rfl
@[simp] theorem State.setChan_keys (s : State) (c : Nat) (x : Chan) : (s.setChan c x).keys = s.keys := by unfold State.setChan; split <;> rfl
@[simp] theorem State.setChan_replies (s : State) (c : Nat) (x : Chan) : (s.setChan c x).replies = s.replies := by unfold State.setChan; split <;> rfl
@[simp] theorem State.setChan_tbf (s : State) (c : Nat) (x : Chan) : (s.setChan c x).tbf = s.tbf := by unfold State.setChan; split <;> rfl
@[simp] theorem State.setChan_clk (s : State) (c : Nat) (x : Chan) : (s.setChan c x).clk = s.clk := by unfold State.setChan; split <;> rfl
@[simp] theorem State.setChan_timeBase (s : State) (c : Nat) (x : Chan) : (s.setChan c x).timeBase = s.timeBase := by unfold State.setChan; split <;> rfl
@[simp] theorem State.setChan_tbShadows (s : State) (c : Nat) (x : Chan) : (s.setChan c x).tbShadows = s.tbShadows := by unfold State.setChan; split <;> rfl
@[simp] theorem State.setChan_tongs (s : State) (c : Nat) (x : Chan) : (s.setChan c x).tongs = s.tongs := by unfold State.setChan; split <;> rfl
@[simp] theorem State.setChan_bursts (s : State) (c : Nat) (x : Chan) : (s.setChan c x).bursts = s.bursts := by unfold State.setChan; split <;> rfl
@[simp] theorem State.setChan_pairs (s : State) (c : Nat) (x : Chan) : (s.setChan c x).pairs = s.pairs := by unfold State.setChan; split <;> rfl
@[simp] theorem State.setChan_sources (s : State) (c : Nat) (x : Chan) : (s.setChan c x).sources = s.sources := by unfold State.setChan; split <;> rfl
@[simp] theorem State.setChan_targets (s : State) (c : Nat) (x : Chan) : (s.setChan c x).targets = s.targets := by unfold State.setChan; split <;> rfl
@[simp] theorem State.setChan_bbox (s : State) (c : Nat) (x : Chan) : (s.setChan c x).bbox = s.bbox := by unfold State.setChan; split <;> rfl
@[simp] theorem State.setChan_hearth (s : State) (c : Nat) (x : Chan) : (s.setChan c x).hearth = s.hearth := by unfold State.setChan; split <;> rfl
@[simp] theorem State.setChan_bbShadows (s : State) (c : Nat) (x : Chan) : (s.setChan c x).bbShadows = s.bbShadows := by unfold State.setChan; split <;> rfl
@[simp] theorem State.setChan_supplyBad (s : State) (c : Nat) (x : Chan) : (s.setChan c x).supplyBad = s.supplyBad := by unfold State.setChan; split <;> rfl
@[simp] theorem State.setChan_vaon (s : State) (c : Nat) (x : Chan) : (s.setChan c x).vaon = s.vaon := by unfold State.setChan; split <;> rfl
@[simp] theorem State.setChan_recals (s : State) (c : Nat) (x : Chan) : (s.setChan c x).recals = s.recals := by unfold State.setChan; split <;> rfl
@[simp] theorem State.setChan_anchors (s : State) (c : Nat) (x : Chan) : (s.setChan c x).anchors = s.anchors := by unfold State.setChan; split <;> rfl
@[simp] theorem State.setChan_pgs (s : State) (c : Nat) (x : Chan) : (s.setChan c x).pgs = s.pgs := by unfold State.setChan; split <;> rfl
@[simp] theorem State.setChan_lane0 (s : State) (c : Nat) (x : Chan) : (s.setChan c x).lane0 = s.lane0 := by unfold State.setChan; split <;> rfl
@[simp] theorem State.setChan_lane1 (s : State) (c : Nat) (x : Chan) : (s.setChan c x).lane1 = s.lane1 := by unfold State.setChan; split <;> rfl
@[simp] theorem State.setChan_slots (s : State) (c : Nat) (x : Chan) : (s.setChan c x).slots = s.slots := by unfold State.setChan; split <;> rfl
@[simp] theorem State.setChan_points (s : State) (c : Nat) (x : Chan) : (s.setChan c x).points = s.points := by unfold State.setChan; split <;> rfl
@[simp] theorem State.setChan_rules (s : State) (c : Nat) (x : Chan) : (s.setChan c x).rules = s.rules := by unfold State.setChan; split <;> rfl
@[simp] theorem State.setChan_firings (s : State) (c : Nat) (x : Chan) : (s.setChan c x).firings = s.firings := by unfold State.setChan; split <;> rfl
@[simp] theorem State.setChan_wms (s : State) (c : Nat) (x : Chan) : (s.setChan c x).wms = s.wms := by unfold State.setChan; split <;> rfl
@[simp] theorem State.setChan_lcs (s : State) (c : Nat) (x : Chan) : (s.setChan c x).lcs = s.lcs := by unfold State.setChan; split <;> rfl
@[simp] theorem State.setChan_lcShadows (s : State) (c : Nat) (x : Chan) : (s.setChan c x).lcShadows = s.lcShadows := by unfold State.setChan; split <;> rfl
@[simp] theorem State.setChan_ports (s : State) (c : Nat) (x : Chan) : (s.setChan c x).ports = s.ports := by unfold State.setChan; split <;> rfl
@[simp] theorem State.setChan_pumpOk (s : State) (c : Nat) (x : Chan) : (s.setChan c x).pumpOk = s.pumpOk := by unfold State.setChan; split <;> rfl
@[simp] theorem State.setChan_ctxs (s : State) (c : Nat) (x : Chan) : (s.setChan c x).ctxs = s.ctxs := by unfold State.setChan; split <;> rfl
@[simp] theorem State.setChan_badRefs (s : State) (c : Nat) (x : Chan) : (s.setChan c x).badRefs = s.badRefs := by unfold State.setChan; split <;> rfl
@[simp] theorem State.setChan_hk (s : State) (c : Nat) (x : Chan) : (s.setChan c x).hk = s.hk := by unfold State.setChan; split <;> rfl
@[simp] theorem State.setChan_pwr (s : State) (c : Nat) (x : Chan) : (s.setChan c x).pwr = s.pwr := by unfold State.setChan; split <;> rfl
@[simp] theorem State.setChan_cmps (s : State) (c : Nat) (x : Chan) : (s.setChan c x).cmps = s.cmps := by unfold State.setChan; split <;> rfl
@[simp] theorem State.setChan_cores (s : State) (c : Nat) (x : Chan) : (s.setChan c x).cores = s.cores := by unfold State.setChan; split <;> rfl
@[simp] theorem State.setChan_steps (s : State) (c : Nat) (x : Chan) : (s.setChan c x).steps = s.steps := by unfold State.setChan; split <;> rfl
@[simp] theorem State.setChan_repair (s : State) (c : Nat) (x : Chan) : (s.setChan c x).repair = s.repair := by unfold State.setChan; split <;> rfl
@[simp] theorem State.setChan_img (s : State) (c : Nat) (x : Chan) : (s.setChan c x).img = s.img := by unfold State.setChan; split <;> rfl
@[simp] theorem State.setChan_ring (s : State) (c : Nat) (x : Chan) : (s.setChan c x).ring = s.ring := by unfold State.setChan; split <;> rfl
@[simp] theorem State.setChan_host (s : State) (c : Nat) (x : Chan) : (s.setChan c x).host = s.host := by unfold State.setChan; split <;> rfl
@[simp] theorem State.setChan_boot (s : State) (c : Nat) (x : Chan) : (s.setChan c x).boot = s.boot := by unfold State.setChan; split <;> rfl
@[simp] theorem State.setChan_hfShadows (s : State) (c : Nat) (x : Chan) : (s.setChan c x).hfShadows = s.hfShadows := by unfold State.setChan; split <;> rfl
@[simp] theorem State.setChan_tap (s : State) (c : Nat) (x : Chan) : (s.setChan c x).tap = s.tap := by unfold State.setChan; split <;> rfl

/-! ### `setRecal` -/

@[simp] theorem State.setRecal_pending (s : State) (c : Nat) (x : Recal) : (s.setRecal c x).pending = s.pending := by rfl
@[simp] theorem State.setRecal_variant (s : State) (c : Nat) (x : Recal) : (s.setRecal c x).variant = s.variant := by rfl
@[simp] theorem State.setRecal_draws (s : State) (c : Nat) (x : Recal) : (s.setRecal c x).draws = s.draws := by rfl
@[simp] theorem State.setRecal_regs (s : State) (c : Nat) (x : Recal) : (s.setRecal c x).regs = s.regs := by rfl
@[simp] theorem State.setRecal_mem (s : State) (c : Nat) (x : Recal) : (s.setRecal c x).mem = s.mem := by rfl
@[simp] theorem State.setRecal_keys (s : State) (c : Nat) (x : Recal) : (s.setRecal c x).keys = s.keys := by rfl
@[simp] theorem State.setRecal_replies (s : State) (c : Nat) (x : Recal) : (s.setRecal c x).replies = s.replies := by rfl
@[simp] theorem State.setRecal_tbf (s : State) (c : Nat) (x : Recal) : (s.setRecal c x).tbf = s.tbf := by rfl
@[simp] theorem State.setRecal_clk (s : State) (c : Nat) (x : Recal) : (s.setRecal c x).clk = s.clk := by rfl
@[simp] theorem State.setRecal_timeBase (s : State) (c : Nat) (x : Recal) : (s.setRecal c x).timeBase = s.timeBase := by rfl
@[simp] theorem State.setRecal_tbShadows (s : State) (c : Nat) (x : Recal) : (s.setRecal c x).tbShadows = s.tbShadows := by rfl
@[simp] theorem State.setRecal_tongs (s : State) (c : Nat) (x : Recal) : (s.setRecal c x).tongs = s.tongs := by rfl
@[simp] theorem State.setRecal_bursts (s : State) (c : Nat) (x : Recal) : (s.setRecal c x).bursts = s.bursts := by rfl
@[simp] theorem State.setRecal_pairs (s : State) (c : Nat) (x : Recal) : (s.setRecal c x).pairs = s.pairs := by rfl
@[simp] theorem State.setRecal_sources (s : State) (c : Nat) (x : Recal) : (s.setRecal c x).sources = s.sources := by rfl
@[simp] theorem State.setRecal_targets (s : State) (c : Nat) (x : Recal) : (s.setRecal c x).targets = s.targets := by rfl
@[simp] theorem State.setRecal_bbox (s : State) (c : Nat) (x : Recal) : (s.setRecal c x).bbox = s.bbox := by rfl
@[simp] theorem State.setRecal_hearth (s : State) (c : Nat) (x : Recal) : (s.setRecal c x).hearth = s.hearth := by rfl
@[simp] theorem State.setRecal_bbShadows (s : State) (c : Nat) (x : Recal) : (s.setRecal c x).bbShadows = s.bbShadows := by rfl
@[simp] theorem State.setRecal_supplyBad (s : State) (c : Nat) (x : Recal) : (s.setRecal c x).supplyBad = s.supplyBad := by rfl
@[simp] theorem State.setRecal_vaon (s : State) (c : Nat) (x : Recal) : (s.setRecal c x).vaon = s.vaon := by rfl
@[simp] theorem State.setRecal_chans (s : State) (c : Nat) (x : Recal) : (s.setRecal c x).chans = s.chans := by rfl
@[simp] theorem State.setRecal_anchors (s : State) (c : Nat) (x : Recal) : (s.setRecal c x).anchors = s.anchors := by rfl
@[simp] theorem State.setRecal_pgs (s : State) (c : Nat) (x : Recal) : (s.setRecal c x).pgs = s.pgs := by rfl
@[simp] theorem State.setRecal_lane0 (s : State) (c : Nat) (x : Recal) : (s.setRecal c x).lane0 = s.lane0 := by rfl
@[simp] theorem State.setRecal_lane1 (s : State) (c : Nat) (x : Recal) : (s.setRecal c x).lane1 = s.lane1 := by rfl
@[simp] theorem State.setRecal_slots (s : State) (c : Nat) (x : Recal) : (s.setRecal c x).slots = s.slots := by rfl
@[simp] theorem State.setRecal_points (s : State) (c : Nat) (x : Recal) : (s.setRecal c x).points = s.points := by rfl
@[simp] theorem State.setRecal_rules (s : State) (c : Nat) (x : Recal) : (s.setRecal c x).rules = s.rules := by rfl
@[simp] theorem State.setRecal_firings (s : State) (c : Nat) (x : Recal) : (s.setRecal c x).firings = s.firings := by rfl
@[simp] theorem State.setRecal_wms (s : State) (c : Nat) (x : Recal) : (s.setRecal c x).wms = s.wms := by rfl
@[simp] theorem State.setRecal_lcs (s : State) (c : Nat) (x : Recal) : (s.setRecal c x).lcs = s.lcs := by rfl
@[simp] theorem State.setRecal_lcShadows (s : State) (c : Nat) (x : Recal) : (s.setRecal c x).lcShadows = s.lcShadows := by rfl
@[simp] theorem State.setRecal_ports (s : State) (c : Nat) (x : Recal) : (s.setRecal c x).ports = s.ports := by rfl
@[simp] theorem State.setRecal_pumpOk (s : State) (c : Nat) (x : Recal) : (s.setRecal c x).pumpOk = s.pumpOk := by rfl
@[simp] theorem State.setRecal_ctxs (s : State) (c : Nat) (x : Recal) : (s.setRecal c x).ctxs = s.ctxs := by rfl
@[simp] theorem State.setRecal_badRefs (s : State) (c : Nat) (x : Recal) : (s.setRecal c x).badRefs = s.badRefs := by rfl
@[simp] theorem State.setRecal_hk (s : State) (c : Nat) (x : Recal) : (s.setRecal c x).hk = s.hk := by rfl
@[simp] theorem State.setRecal_pwr (s : State) (c : Nat) (x : Recal) : (s.setRecal c x).pwr = s.pwr := by rfl
@[simp] theorem State.setRecal_cmps (s : State) (c : Nat) (x : Recal) : (s.setRecal c x).cmps = s.cmps := by rfl
@[simp] theorem State.setRecal_cores (s : State) (c : Nat) (x : Recal) : (s.setRecal c x).cores = s.cores := by rfl
@[simp] theorem State.setRecal_steps (s : State) (c : Nat) (x : Recal) : (s.setRecal c x).steps = s.steps := by rfl
@[simp] theorem State.setRecal_repair (s : State) (c : Nat) (x : Recal) : (s.setRecal c x).repair = s.repair := by rfl
@[simp] theorem State.setRecal_img (s : State) (c : Nat) (x : Recal) : (s.setRecal c x).img = s.img := by rfl
@[simp] theorem State.setRecal_ring (s : State) (c : Nat) (x : Recal) : (s.setRecal c x).ring = s.ring := by rfl
@[simp] theorem State.setRecal_host (s : State) (c : Nat) (x : Recal) : (s.setRecal c x).host = s.host := by rfl
@[simp] theorem State.setRecal_boot (s : State) (c : Nat) (x : Recal) : (s.setRecal c x).boot = s.boot := by rfl
@[simp] theorem State.setRecal_hfShadows (s : State) (c : Nat) (x : Recal) : (s.setRecal c x).hfShadows = s.hfShadows := by rfl
@[simp] theorem State.setRecal_tap (s : State) (c : Nat) (x : Recal) : (s.setRecal c x).tap = s.tap := by rfl

/-! ### `setTbShadow` -/

@[simp] theorem State.setTbShadow_pending (s : State) (m : Nat) (x : TbShadow) : (s.setTbShadow m x).pending = s.pending := by rfl
@[simp] theorem State.setTbShadow_variant (s : State) (m : Nat) (x : TbShadow) : (s.setTbShadow m x).variant = s.variant := by rfl
@[simp] theorem State.setTbShadow_draws (s : State) (m : Nat) (x : TbShadow) : (s.setTbShadow m x).draws = s.draws := by rfl
@[simp] theorem State.setTbShadow_regs (s : State) (m : Nat) (x : TbShadow) : (s.setTbShadow m x).regs = s.regs := by rfl
@[simp] theorem State.setTbShadow_mem (s : State) (m : Nat) (x : TbShadow) : (s.setTbShadow m x).mem = s.mem := by rfl
@[simp] theorem State.setTbShadow_keys (s : State) (m : Nat) (x : TbShadow) : (s.setTbShadow m x).keys = s.keys := by rfl
@[simp] theorem State.setTbShadow_replies (s : State) (m : Nat) (x : TbShadow) : (s.setTbShadow m x).replies = s.replies := by rfl
@[simp] theorem State.setTbShadow_tbf (s : State) (m : Nat) (x : TbShadow) : (s.setTbShadow m x).tbf = s.tbf := by rfl
@[simp] theorem State.setTbShadow_clk (s : State) (m : Nat) (x : TbShadow) : (s.setTbShadow m x).clk = s.clk := by rfl
@[simp] theorem State.setTbShadow_timeBase (s : State) (m : Nat) (x : TbShadow) : (s.setTbShadow m x).timeBase = s.timeBase := by rfl
@[simp] theorem State.setTbShadow_tongs (s : State) (m : Nat) (x : TbShadow) : (s.setTbShadow m x).tongs = s.tongs := by rfl
@[simp] theorem State.setTbShadow_bursts (s : State) (m : Nat) (x : TbShadow) : (s.setTbShadow m x).bursts = s.bursts := by rfl
@[simp] theorem State.setTbShadow_pairs (s : State) (m : Nat) (x : TbShadow) : (s.setTbShadow m x).pairs = s.pairs := by rfl
@[simp] theorem State.setTbShadow_sources (s : State) (m : Nat) (x : TbShadow) : (s.setTbShadow m x).sources = s.sources := by rfl
@[simp] theorem State.setTbShadow_targets (s : State) (m : Nat) (x : TbShadow) : (s.setTbShadow m x).targets = s.targets := by rfl
@[simp] theorem State.setTbShadow_bbox (s : State) (m : Nat) (x : TbShadow) : (s.setTbShadow m x).bbox = s.bbox := by rfl
@[simp] theorem State.setTbShadow_hearth (s : State) (m : Nat) (x : TbShadow) : (s.setTbShadow m x).hearth = s.hearth := by rfl
@[simp] theorem State.setTbShadow_bbShadows (s : State) (m : Nat) (x : TbShadow) : (s.setTbShadow m x).bbShadows = s.bbShadows := by rfl
@[simp] theorem State.setTbShadow_supplyBad (s : State) (m : Nat) (x : TbShadow) : (s.setTbShadow m x).supplyBad = s.supplyBad := by rfl
@[simp] theorem State.setTbShadow_vaon (s : State) (m : Nat) (x : TbShadow) : (s.setTbShadow m x).vaon = s.vaon := by rfl
@[simp] theorem State.setTbShadow_chans (s : State) (m : Nat) (x : TbShadow) : (s.setTbShadow m x).chans = s.chans := by rfl
@[simp] theorem State.setTbShadow_recals (s : State) (m : Nat) (x : TbShadow) : (s.setTbShadow m x).recals = s.recals := by rfl
@[simp] theorem State.setTbShadow_anchors (s : State) (m : Nat) (x : TbShadow) : (s.setTbShadow m x).anchors = s.anchors := by rfl
@[simp] theorem State.setTbShadow_pgs (s : State) (m : Nat) (x : TbShadow) : (s.setTbShadow m x).pgs = s.pgs := by rfl
@[simp] theorem State.setTbShadow_lane0 (s : State) (m : Nat) (x : TbShadow) : (s.setTbShadow m x).lane0 = s.lane0 := by rfl
@[simp] theorem State.setTbShadow_lane1 (s : State) (m : Nat) (x : TbShadow) : (s.setTbShadow m x).lane1 = s.lane1 := by rfl
@[simp] theorem State.setTbShadow_slots (s : State) (m : Nat) (x : TbShadow) : (s.setTbShadow m x).slots = s.slots := by rfl
@[simp] theorem State.setTbShadow_points (s : State) (m : Nat) (x : TbShadow) : (s.setTbShadow m x).points = s.points := by rfl
@[simp] theorem State.setTbShadow_rules (s : State) (m : Nat) (x : TbShadow) : (s.setTbShadow m x).rules = s.rules := by rfl
@[simp] theorem State.setTbShadow_firings (s : State) (m : Nat) (x : TbShadow) : (s.setTbShadow m x).firings = s.firings := by rfl
@[simp] theorem State.setTbShadow_wms (s : State) (m : Nat) (x : TbShadow) : (s.setTbShadow m x).wms = s.wms := by rfl
@[simp] theorem State.setTbShadow_lcs (s : State) (m : Nat) (x : TbShadow) : (s.setTbShadow m x).lcs = s.lcs := by rfl
@[simp] theorem State.setTbShadow_lcShadows (s : State) (m : Nat) (x : TbShadow) : (s.setTbShadow m x).lcShadows = s.lcShadows := by rfl
@[simp] theorem State.setTbShadow_ports (s : State) (m : Nat) (x : TbShadow) : (s.setTbShadow m x).ports = s.ports := by rfl
@[simp] theorem State.setTbShadow_pumpOk (s : State) (m : Nat) (x : TbShadow) : (s.setTbShadow m x).pumpOk = s.pumpOk := by rfl
@[simp] theorem State.setTbShadow_ctxs (s : State) (m : Nat) (x : TbShadow) : (s.setTbShadow m x).ctxs = s.ctxs := by rfl
@[simp] theorem State.setTbShadow_badRefs (s : State) (m : Nat) (x : TbShadow) : (s.setTbShadow m x).badRefs = s.badRefs := by rfl
@[simp] theorem State.setTbShadow_hk (s : State) (m : Nat) (x : TbShadow) : (s.setTbShadow m x).hk = s.hk := by rfl
@[simp] theorem State.setTbShadow_pwr (s : State) (m : Nat) (x : TbShadow) : (s.setTbShadow m x).pwr = s.pwr := by rfl
@[simp] theorem State.setTbShadow_cmps (s : State) (m : Nat) (x : TbShadow) : (s.setTbShadow m x).cmps = s.cmps := by rfl
@[simp] theorem State.setTbShadow_cores (s : State) (m : Nat) (x : TbShadow) : (s.setTbShadow m x).cores = s.cores := by rfl
@[simp] theorem State.setTbShadow_steps (s : State) (m : Nat) (x : TbShadow) : (s.setTbShadow m x).steps = s.steps := by rfl
@[simp] theorem State.setTbShadow_repair (s : State) (m : Nat) (x : TbShadow) : (s.setTbShadow m x).repair = s.repair := by rfl
@[simp] theorem State.setTbShadow_img (s : State) (m : Nat) (x : TbShadow) : (s.setTbShadow m x).img = s.img := by rfl
@[simp] theorem State.setTbShadow_ring (s : State) (m : Nat) (x : TbShadow) : (s.setTbShadow m x).ring = s.ring := by rfl
@[simp] theorem State.setTbShadow_host (s : State) (m : Nat) (x : TbShadow) : (s.setTbShadow m x).host = s.host := by rfl
@[simp] theorem State.setTbShadow_boot (s : State) (m : Nat) (x : TbShadow) : (s.setTbShadow m x).boot = s.boot := by rfl
@[simp] theorem State.setTbShadow_hfShadows (s : State) (m : Nat) (x : TbShadow) : (s.setTbShadow m x).hfShadows = s.hfShadows := by rfl
@[simp] theorem State.setTbShadow_tap (s : State) (m : Nat) (x : TbShadow) : (s.setTbShadow m x).tap = s.tap := by rfl

/-! ### `setKey` -/

@[simp] theorem State.setKey_pending (s : State) (p m : Nat) (x : Key) : (s.setKey p m x).pending = s.pending := by rfl
@[simp] theorem State.setKey_variant (s : State) (p m : Nat) (x : Key) : (s.setKey p m x).variant = s.variant := by rfl
@[simp] theorem State.setKey_draws (s : State) (p m : Nat) (x : Key) : (s.setKey p m x).draws = s.draws := by rfl
@[simp] theorem State.setKey_regs (s : State) (p m : Nat) (x : Key) : (s.setKey p m x).regs = s.regs := by rfl
@[simp] theorem State.setKey_mem (s : State) (p m : Nat) (x : Key) : (s.setKey p m x).mem = s.mem := by rfl
@[simp] theorem State.setKey_replies (s : State) (p m : Nat) (x : Key) : (s.setKey p m x).replies = s.replies := by rfl
@[simp] theorem State.setKey_tbf (s : State) (p m : Nat) (x : Key) : (s.setKey p m x).tbf = s.tbf := by rfl
@[simp] theorem State.setKey_clk (s : State) (p m : Nat) (x : Key) : (s.setKey p m x).clk = s.clk := by rfl
@[simp] theorem State.setKey_timeBase (s : State) (p m : Nat) (x : Key) : (s.setKey p m x).timeBase = s.timeBase := by rfl
@[simp] theorem State.setKey_tbShadows (s : State) (p m : Nat) (x : Key) : (s.setKey p m x).tbShadows = s.tbShadows := by rfl
@[simp] theorem State.setKey_tongs (s : State) (p m : Nat) (x : Key) : (s.setKey p m x).tongs = s.tongs := by rfl
@[simp] theorem State.setKey_bursts (s : State) (p m : Nat) (x : Key) : (s.setKey p m x).bursts = s.bursts := by rfl
@[simp] theorem State.setKey_pairs (s : State) (p m : Nat) (x : Key) : (s.setKey p m x).pairs = s.pairs := by rfl
@[simp] theorem State.setKey_sources (s : State) (p m : Nat) (x : Key) : (s.setKey p m x).sources = s.sources := by rfl
@[simp] theorem State.setKey_targets (s : State) (p m : Nat) (x : Key) : (s.setKey p m x).targets = s.targets := by rfl
@[simp] theorem State.setKey_bbox (s : State) (p m : Nat) (x : Key) : (s.setKey p m x).bbox = s.bbox := by rfl
@[simp] theorem State.setKey_hearth (s : State) (p m : Nat) (x : Key) : (s.setKey p m x).hearth = s.hearth := by rfl
@[simp] theorem State.setKey_bbShadows (s : State) (p m : Nat) (x : Key) : (s.setKey p m x).bbShadows = s.bbShadows := by rfl
@[simp] theorem State.setKey_supplyBad (s : State) (p m : Nat) (x : Key) : (s.setKey p m x).supplyBad = s.supplyBad := by rfl
@[simp] theorem State.setKey_vaon (s : State) (p m : Nat) (x : Key) : (s.setKey p m x).vaon = s.vaon := by rfl
@[simp] theorem State.setKey_chans (s : State) (p m : Nat) (x : Key) : (s.setKey p m x).chans = s.chans := by rfl
@[simp] theorem State.setKey_recals (s : State) (p m : Nat) (x : Key) : (s.setKey p m x).recals = s.recals := by rfl
@[simp] theorem State.setKey_anchors (s : State) (p m : Nat) (x : Key) : (s.setKey p m x).anchors = s.anchors := by rfl
@[simp] theorem State.setKey_pgs (s : State) (p m : Nat) (x : Key) : (s.setKey p m x).pgs = s.pgs := by rfl
@[simp] theorem State.setKey_lane0 (s : State) (p m : Nat) (x : Key) : (s.setKey p m x).lane0 = s.lane0 := by rfl
@[simp] theorem State.setKey_lane1 (s : State) (p m : Nat) (x : Key) : (s.setKey p m x).lane1 = s.lane1 := by rfl
@[simp] theorem State.setKey_slots (s : State) (p m : Nat) (x : Key) : (s.setKey p m x).slots = s.slots := by rfl
@[simp] theorem State.setKey_points (s : State) (p m : Nat) (x : Key) : (s.setKey p m x).points = s.points := by rfl
@[simp] theorem State.setKey_rules (s : State) (p m : Nat) (x : Key) : (s.setKey p m x).rules = s.rules := by rfl
@[simp] theorem State.setKey_firings (s : State) (p m : Nat) (x : Key) : (s.setKey p m x).firings = s.firings := by rfl
@[simp] theorem State.setKey_wms (s : State) (p m : Nat) (x : Key) : (s.setKey p m x).wms = s.wms := by rfl
@[simp] theorem State.setKey_lcs (s : State) (p m : Nat) (x : Key) : (s.setKey p m x).lcs = s.lcs := by rfl
@[simp] theorem State.setKey_lcShadows (s : State) (p m : Nat) (x : Key) : (s.setKey p m x).lcShadows = s.lcShadows := by rfl
@[simp] theorem State.setKey_ports (s : State) (p m : Nat) (x : Key) : (s.setKey p m x).ports = s.ports := by rfl
@[simp] theorem State.setKey_pumpOk (s : State) (p m : Nat) (x : Key) : (s.setKey p m x).pumpOk = s.pumpOk := by rfl
@[simp] theorem State.setKey_ctxs (s : State) (p m : Nat) (x : Key) : (s.setKey p m x).ctxs = s.ctxs := by rfl
@[simp] theorem State.setKey_badRefs (s : State) (p m : Nat) (x : Key) : (s.setKey p m x).badRefs = s.badRefs := by rfl
@[simp] theorem State.setKey_hk (s : State) (p m : Nat) (x : Key) : (s.setKey p m x).hk = s.hk := by rfl
@[simp] theorem State.setKey_pwr (s : State) (p m : Nat) (x : Key) : (s.setKey p m x).pwr = s.pwr := by rfl
@[simp] theorem State.setKey_cmps (s : State) (p m : Nat) (x : Key) : (s.setKey p m x).cmps = s.cmps := by rfl
@[simp] theorem State.setKey_cores (s : State) (p m : Nat) (x : Key) : (s.setKey p m x).cores = s.cores := by rfl
@[simp] theorem State.setKey_steps (s : State) (p m : Nat) (x : Key) : (s.setKey p m x).steps = s.steps := by rfl
@[simp] theorem State.setKey_repair (s : State) (p m : Nat) (x : Key) : (s.setKey p m x).repair = s.repair := by rfl
@[simp] theorem State.setKey_img (s : State) (p m : Nat) (x : Key) : (s.setKey p m x).img = s.img := by rfl
@[simp] theorem State.setKey_ring (s : State) (p m : Nat) (x : Key) : (s.setKey p m x).ring = s.ring := by rfl
@[simp] theorem State.setKey_host (s : State) (p m : Nat) (x : Key) : (s.setKey p m x).host = s.host := by rfl
@[simp] theorem State.setKey_boot (s : State) (p m : Nat) (x : Key) : (s.setKey p m x).boot = s.boot := by rfl
@[simp] theorem State.setKey_hfShadows (s : State) (p m : Nat) (x : Key) : (s.setKey p m x).hfShadows = s.hfShadows := by rfl
@[simp] theorem State.setKey_tap (s : State) (p m : Nat) (x : Key) : (s.setKey p m x).tap = s.tap := by rfl

/-! ### `setCmp` -/

@[simp] theorem State.setCmp_pending (s : State) (n : Nat) (x : CmpX) : (s.setCmp n x).pending = s.pending := by rfl
@[simp] theorem State.setCmp_variant (s : State) (n : Nat) (x : CmpX) : (s.setCmp n x).variant = s.variant := by rfl
@[simp] theorem State.setCmp_draws (s : State) (n : Nat) (x : CmpX) : (s.setCmp n x).draws = s.draws := by rfl
@[simp] theorem State.setCmp_regs (s : State) (n : Nat) (x : CmpX) : (s.setCmp n x).regs = s.regs := by rfl
@[simp] theorem State.setCmp_mem (s : State) (n : Nat) (x : CmpX) : (s.setCmp n x).mem = s.mem := by rfl
@[simp] theorem State.setCmp_keys (s : State) (n : Nat) (x : CmpX) : (s.setCmp n x).keys = s.keys := by rfl
@[simp] theorem State.setCmp_replies (s : State) (n : Nat) (x : CmpX) : (s.setCmp n x).replies = s.replies := by rfl
@[simp] theorem State.setCmp_tbf (s : State) (n : Nat) (x : CmpX) : (s.setCmp n x).tbf = s.tbf := by rfl
@[simp] theorem State.setCmp_clk (s : State) (n : Nat) (x : CmpX) : (s.setCmp n x).clk = s.clk := by rfl
@[simp] theorem State.setCmp_timeBase (s : State) (n : Nat) (x : CmpX) : (s.setCmp n x).timeBase = s.timeBase := by rfl
@[simp] theorem State.setCmp_tbShadows (s : State) (n : Nat) (x : CmpX) : (s.setCmp n x).tbShadows = s.tbShadows := by rfl
@[simp] theorem State.setCmp_tongs (s : State) (n : Nat) (x : CmpX) : (s.setCmp n x).tongs = s.tongs := by rfl
@[simp] theorem State.setCmp_bursts (s : State) (n : Nat) (x : CmpX) : (s.setCmp n x).bursts = s.bursts := by rfl
@[simp] theorem State.setCmp_pairs (s : State) (n : Nat) (x : CmpX) : (s.setCmp n x).pairs = s.pairs := by rfl
@[simp] theorem State.setCmp_sources (s : State) (n : Nat) (x : CmpX) : (s.setCmp n x).sources = s.sources := by rfl
@[simp] theorem State.setCmp_targets (s : State) (n : Nat) (x : CmpX) : (s.setCmp n x).targets = s.targets := by rfl
@[simp] theorem State.setCmp_bbox (s : State) (n : Nat) (x : CmpX) : (s.setCmp n x).bbox = s.bbox := by rfl
@[simp] theorem State.setCmp_hearth (s : State) (n : Nat) (x : CmpX) : (s.setCmp n x).hearth = s.hearth := by rfl
@[simp] theorem State.setCmp_bbShadows (s : State) (n : Nat) (x : CmpX) : (s.setCmp n x).bbShadows = s.bbShadows := by rfl
@[simp] theorem State.setCmp_supplyBad (s : State) (n : Nat) (x : CmpX) : (s.setCmp n x).supplyBad = s.supplyBad := by rfl
@[simp] theorem State.setCmp_vaon (s : State) (n : Nat) (x : CmpX) : (s.setCmp n x).vaon = s.vaon := by rfl
@[simp] theorem State.setCmp_chans (s : State) (n : Nat) (x : CmpX) : (s.setCmp n x).chans = s.chans := by rfl
@[simp] theorem State.setCmp_recals (s : State) (n : Nat) (x : CmpX) : (s.setCmp n x).recals = s.recals := by rfl
@[simp] theorem State.setCmp_anchors (s : State) (n : Nat) (x : CmpX) : (s.setCmp n x).anchors = s.anchors := by rfl
@[simp] theorem State.setCmp_pgs (s : State) (n : Nat) (x : CmpX) : (s.setCmp n x).pgs = s.pgs := by rfl
@[simp] theorem State.setCmp_lane0 (s : State) (n : Nat) (x : CmpX) : (s.setCmp n x).lane0 = s.lane0 := by rfl
@[simp] theorem State.setCmp_lane1 (s : State) (n : Nat) (x : CmpX) : (s.setCmp n x).lane1 = s.lane1 := by rfl
@[simp] theorem State.setCmp_slots (s : State) (n : Nat) (x : CmpX) : (s.setCmp n x).slots = s.slots := by rfl
@[simp] theorem State.setCmp_points (s : State) (n : Nat) (x : CmpX) : (s.setCmp n x).points = s.points := by rfl
@[simp] theorem State.setCmp_rules (s : State) (n : Nat) (x : CmpX) : (s.setCmp n x).rules = s.rules := by rfl
@[simp] theorem State.setCmp_firings (s : State) (n : Nat) (x : CmpX) : (s.setCmp n x).firings = s.firings := by rfl
@[simp] theorem State.setCmp_wms (s : State) (n : Nat) (x : CmpX) : (s.setCmp n x).wms = s.wms := by rfl
@[simp] theorem State.setCmp_lcs (s : State) (n : Nat) (x : CmpX) : (s.setCmp n x).lcs = s.lcs := by rfl
@[simp] theorem State.setCmp_lcShadows (s : State) (n : Nat) (x : CmpX) : (s.setCmp n x).lcShadows = s.lcShadows := by rfl
@[simp] theorem State.setCmp_ports (s : State) (n : Nat) (x : CmpX) : (s.setCmp n x).ports = s.ports := by rfl
@[simp] theorem State.setCmp_pumpOk (s : State) (n : Nat) (x : CmpX) : (s.setCmp n x).pumpOk = s.pumpOk := by rfl
@[simp] theorem State.setCmp_ctxs (s : State) (n : Nat) (x : CmpX) : (s.setCmp n x).ctxs = s.ctxs := by rfl
@[simp] theorem State.setCmp_badRefs (s : State) (n : Nat) (x : CmpX) : (s.setCmp n x).badRefs = s.badRefs := by rfl
@[simp] theorem State.setCmp_hk (s : State) (n : Nat) (x : CmpX) : (s.setCmp n x).hk = s.hk := by rfl
@[simp] theorem State.setCmp_pwr (s : State) (n : Nat) (x : CmpX) : (s.setCmp n x).pwr = s.pwr := by rfl
@[simp] theorem State.setCmp_cores (s : State) (n : Nat) (x : CmpX) : (s.setCmp n x).cores = s.cores := by rfl
@[simp] theorem State.setCmp_steps (s : State) (n : Nat) (x : CmpX) : (s.setCmp n x).steps = s.steps := by rfl
@[simp] theorem State.setCmp_repair (s : State) (n : Nat) (x : CmpX) : (s.setCmp n x).repair = s.repair := by rfl
@[simp] theorem State.setCmp_img (s : State) (n : Nat) (x : CmpX) : (s.setCmp n x).img = s.img := by rfl
@[simp] theorem State.setCmp_ring (s : State) (n : Nat) (x : CmpX) : (s.setCmp n x).ring = s.ring := by rfl
@[simp] theorem State.setCmp_host (s : State) (n : Nat) (x : CmpX) : (s.setCmp n x).host = s.host := by rfl
@[simp] theorem State.setCmp_boot (s : State) (n : Nat) (x : CmpX) : (s.setCmp n x).boot = s.boot := by rfl
@[simp] theorem State.setCmp_hfShadows (s : State) (n : Nat) (x : CmpX) : (s.setCmp n x).hfShadows = s.hfShadows := by rfl
@[simp] theorem State.setCmp_tap (s : State) (n : Nat) (x : CmpX) : (s.setCmp n x).tap = s.tap := by rfl

/-! ### `setCore` -/

@[simp] theorem State.setCore_pending (s : State) (n : Nat) (x : Core) : (s.setCore n x).pending = s.pending := by rfl
@[simp] theorem State.setCore_variant (s : State) (n : Nat) (x : Core) : (s.setCore n x).variant = s.variant := by rfl
@[simp] theorem State.setCore_draws (s : State) (n : Nat) (x : Core) : (s.setCore n x).draws = s.draws := by rfl
@[simp] theorem State.setCore_regs (s : State) (n : Nat) (x : Core) : (s.setCore n x).regs = s.regs := by rfl
@[simp] theorem State.setCore_mem (s : State) (n : Nat) (x : Core) : (s.setCore n x).mem = s.mem := by rfl
@[simp] theorem State.setCore_keys (s : State) (n : Nat) (x : Core) : (s.setCore n x).keys = s.keys := by rfl
@[simp] theorem State.setCore_replies (s : State) (n : Nat) (x : Core) : (s.setCore n x).replies = s.replies := by rfl
@[simp] theorem State.setCore_tbf (s : State) (n : Nat) (x : Core) : (s.setCore n x).tbf = s.tbf := by rfl
@[simp] theorem State.setCore_clk (s : State) (n : Nat) (x : Core) : (s.setCore n x).clk = s.clk := by rfl
@[simp] theorem State.setCore_timeBase (s : State) (n : Nat) (x : Core) : (s.setCore n x).timeBase = s.timeBase := by rfl
@[simp] theorem State.setCore_tbShadows (s : State) (n : Nat) (x : Core) : (s.setCore n x).tbShadows = s.tbShadows := by rfl
@[simp] theorem State.setCore_tongs (s : State) (n : Nat) (x : Core) : (s.setCore n x).tongs = s.tongs := by rfl
@[simp] theorem State.setCore_bursts (s : State) (n : Nat) (x : Core) : (s.setCore n x).bursts = s.bursts := by rfl
@[simp] theorem State.setCore_pairs (s : State) (n : Nat) (x : Core) : (s.setCore n x).pairs = s.pairs := by rfl
@[simp] theorem State.setCore_sources (s : State) (n : Nat) (x : Core) : (s.setCore n x).sources = s.sources := by rfl
@[simp] theorem State.setCore_targets (s : State) (n : Nat) (x : Core) : (s.setCore n x).targets = s.targets := by rfl
@[simp] theorem State.setCore_bbox (s : State) (n : Nat) (x : Core) : (s.setCore n x).bbox = s.bbox := by rfl
@[simp] theorem State.setCore_hearth (s : State) (n : Nat) (x : Core) : (s.setCore n x).hearth = s.hearth := by rfl
@[simp] theorem State.setCore_bbShadows (s : State) (n : Nat) (x : Core) : (s.setCore n x).bbShadows = s.bbShadows := by rfl
@[simp] theorem State.setCore_supplyBad (s : State) (n : Nat) (x : Core) : (s.setCore n x).supplyBad = s.supplyBad := by rfl
@[simp] theorem State.setCore_vaon (s : State) (n : Nat) (x : Core) : (s.setCore n x).vaon = s.vaon := by rfl
@[simp] theorem State.setCore_chans (s : State) (n : Nat) (x : Core) : (s.setCore n x).chans = s.chans := by rfl
@[simp] theorem State.setCore_recals (s : State) (n : Nat) (x : Core) : (s.setCore n x).recals = s.recals := by rfl
@[simp] theorem State.setCore_anchors (s : State) (n : Nat) (x : Core) : (s.setCore n x).anchors = s.anchors := by rfl
@[simp] theorem State.setCore_pgs (s : State) (n : Nat) (x : Core) : (s.setCore n x).pgs = s.pgs := by rfl
@[simp] theorem State.setCore_lane0 (s : State) (n : Nat) (x : Core) : (s.setCore n x).lane0 = s.lane0 := by rfl
@[simp] theorem State.setCore_lane1 (s : State) (n : Nat) (x : Core) : (s.setCore n x).lane1 = s.lane1 := by rfl
@[simp] theorem State.setCore_slots (s : State) (n : Nat) (x : Core) : (s.setCore n x).slots = s.slots := by rfl
@[simp] theorem State.setCore_points (s : State) (n : Nat) (x : Core) : (s.setCore n x).points = s.points := by rfl
@[simp] theorem State.setCore_rules (s : State) (n : Nat) (x : Core) : (s.setCore n x).rules = s.rules := by rfl
@[simp] theorem State.setCore_firings (s : State) (n : Nat) (x : Core) : (s.setCore n x).firings = s.firings := by rfl
@[simp] theorem State.setCore_wms (s : State) (n : Nat) (x : Core) : (s.setCore n x).wms = s.wms := by rfl
@[simp] theorem State.setCore_lcs (s : State) (n : Nat) (x : Core) : (s.setCore n x).lcs = s.lcs := by rfl
@[simp] theorem State.setCore_lcShadows (s : State) (n : Nat) (x : Core) : (s.setCore n x).lcShadows = s.lcShadows := by rfl
@[simp] theorem State.setCore_ports (s : State) (n : Nat) (x : Core) : (s.setCore n x).ports = s.ports := by rfl
@[simp] theorem State.setCore_pumpOk (s : State) (n : Nat) (x : Core) : (s.setCore n x).pumpOk = s.pumpOk := by rfl
@[simp] theorem State.setCore_ctxs (s : State) (n : Nat) (x : Core) : (s.setCore n x).ctxs = s.ctxs := by rfl
@[simp] theorem State.setCore_badRefs (s : State) (n : Nat) (x : Core) : (s.setCore n x).badRefs = s.badRefs := by rfl
@[simp] theorem State.setCore_hk (s : State) (n : Nat) (x : Core) : (s.setCore n x).hk = s.hk := by rfl
@[simp] theorem State.setCore_pwr (s : State) (n : Nat) (x : Core) : (s.setCore n x).pwr = s.pwr := by rfl
@[simp] theorem State.setCore_cmps (s : State) (n : Nat) (x : Core) : (s.setCore n x).cmps = s.cmps := by rfl
@[simp] theorem State.setCore_steps (s : State) (n : Nat) (x : Core) : (s.setCore n x).steps = s.steps := by rfl
@[simp] theorem State.setCore_repair (s : State) (n : Nat) (x : Core) : (s.setCore n x).repair = s.repair := by rfl
@[simp] theorem State.setCore_img (s : State) (n : Nat) (x : Core) : (s.setCore n x).img = s.img := by rfl
@[simp] theorem State.setCore_ring (s : State) (n : Nat) (x : Core) : (s.setCore n x).ring = s.ring := by rfl
@[simp] theorem State.setCore_host (s : State) (n : Nat) (x : Core) : (s.setCore n x).host = s.host := by rfl
@[simp] theorem State.setCore_boot (s : State) (n : Nat) (x : Core) : (s.setCore n x).boot = s.boot := by rfl
@[simp] theorem State.setCore_hfShadows (s : State) (n : Nat) (x : Core) : (s.setCore n x).hfShadows = s.hfShadows := by rfl
@[simp] theorem State.setCore_tap (s : State) (n : Nat) (x : Core) : (s.setCore n x).tap = s.tap := by rfl

/-! ### `setLc` -/

@[simp] theorem State.setLc_pending (s : State) (n : Nat) (x : Lc) : (s.setLc n x).pending = s.pending := by rfl
@[simp] theorem State.setLc_variant (s : State) (n : Nat) (x : Lc) : (s.setLc n x).variant = s.variant := by rfl
@[simp] theorem State.setLc_draws (s : State) (n : Nat) (x : Lc) : (s.setLc n x).draws = s.draws := by rfl
@[simp] theorem State.setLc_regs (s : State) (n : Nat) (x : Lc) : (s.setLc n x).regs = s.regs := by rfl
@[simp] theorem State.setLc_mem (s : State) (n : Nat) (x : Lc) : (s.setLc n x).mem = s.mem := by rfl
@[simp] theorem State.setLc_keys (s : State) (n : Nat) (x : Lc) : (s.setLc n x).keys = s.keys := by rfl
@[simp] theorem State.setLc_replies (s : State) (n : Nat) (x : Lc) : (s.setLc n x).replies = s.replies := by rfl
@[simp] theorem State.setLc_tbf (s : State) (n : Nat) (x : Lc) : (s.setLc n x).tbf = s.tbf := by rfl
@[simp] theorem State.setLc_clk (s : State) (n : Nat) (x : Lc) : (s.setLc n x).clk = s.clk := by rfl
@[simp] theorem State.setLc_timeBase (s : State) (n : Nat) (x : Lc) : (s.setLc n x).timeBase = s.timeBase := by rfl
@[simp] theorem State.setLc_tbShadows (s : State) (n : Nat) (x : Lc) : (s.setLc n x).tbShadows = s.tbShadows := by rfl
@[simp] theorem State.setLc_tongs (s : State) (n : Nat) (x : Lc) : (s.setLc n x).tongs = s.tongs := by rfl
@[simp] theorem State.setLc_bursts (s : State) (n : Nat) (x : Lc) : (s.setLc n x).bursts = s.bursts := by rfl
@[simp] theorem State.setLc_pairs (s : State) (n : Nat) (x : Lc) : (s.setLc n x).pairs = s.pairs := by rfl
@[simp] theorem State.setLc_sources (s : State) (n : Nat) (x : Lc) : (s.setLc n x).sources = s.sources := by rfl
@[simp] theorem State.setLc_targets (s : State) (n : Nat) (x : Lc) : (s.setLc n x).targets = s.targets := by rfl
@[simp] theorem State.setLc_bbox (s : State) (n : Nat) (x : Lc) : (s.setLc n x).bbox = s.bbox := by rfl
@[simp] theorem State.setLc_hearth (s : State) (n : Nat) (x : Lc) : (s.setLc n x).hearth = s.hearth := by rfl
@[simp] theorem State.setLc_bbShadows (s : State) (n : Nat) (x : Lc) : (s.setLc n x).bbShadows = s.bbShadows := by rfl
@[simp] theorem State.setLc_supplyBad (s : State) (n : Nat) (x : Lc) : (s.setLc n x).supplyBad = s.supplyBad := by rfl
@[simp] theorem State.setLc_vaon (s : State) (n : Nat) (x : Lc) : (s.setLc n x).vaon = s.vaon := by rfl
@[simp] theorem State.setLc_chans (s : State) (n : Nat) (x : Lc) : (s.setLc n x).chans = s.chans := by rfl
@[simp] theorem State.setLc_recals (s : State) (n : Nat) (x : Lc) : (s.setLc n x).recals = s.recals := by rfl
@[simp] theorem State.setLc_anchors (s : State) (n : Nat) (x : Lc) : (s.setLc n x).anchors = s.anchors := by rfl
@[simp] theorem State.setLc_pgs (s : State) (n : Nat) (x : Lc) : (s.setLc n x).pgs = s.pgs := by rfl
@[simp] theorem State.setLc_lane0 (s : State) (n : Nat) (x : Lc) : (s.setLc n x).lane0 = s.lane0 := by rfl
@[simp] theorem State.setLc_lane1 (s : State) (n : Nat) (x : Lc) : (s.setLc n x).lane1 = s.lane1 := by rfl
@[simp] theorem State.setLc_slots (s : State) (n : Nat) (x : Lc) : (s.setLc n x).slots = s.slots := by rfl
@[simp] theorem State.setLc_points (s : State) (n : Nat) (x : Lc) : (s.setLc n x).points = s.points := by rfl
@[simp] theorem State.setLc_rules (s : State) (n : Nat) (x : Lc) : (s.setLc n x).rules = s.rules := by rfl
@[simp] theorem State.setLc_firings (s : State) (n : Nat) (x : Lc) : (s.setLc n x).firings = s.firings := by rfl
@[simp] theorem State.setLc_wms (s : State) (n : Nat) (x : Lc) : (s.setLc n x).wms = s.wms := by rfl
@[simp] theorem State.setLc_lcShadows (s : State) (n : Nat) (x : Lc) : (s.setLc n x).lcShadows = s.lcShadows := by rfl
@[simp] theorem State.setLc_ports (s : State) (n : Nat) (x : Lc) : (s.setLc n x).ports = s.ports := by rfl
@[simp] theorem State.setLc_pumpOk (s : State) (n : Nat) (x : Lc) : (s.setLc n x).pumpOk = s.pumpOk := by rfl
@[simp] theorem State.setLc_ctxs (s : State) (n : Nat) (x : Lc) : (s.setLc n x).ctxs = s.ctxs := by rfl
@[simp] theorem State.setLc_badRefs (s : State) (n : Nat) (x : Lc) : (s.setLc n x).badRefs = s.badRefs := by rfl
@[simp] theorem State.setLc_hk (s : State) (n : Nat) (x : Lc) : (s.setLc n x).hk = s.hk := by rfl
@[simp] theorem State.setLc_pwr (s : State) (n : Nat) (x : Lc) : (s.setLc n x).pwr = s.pwr := by rfl
@[simp] theorem State.setLc_cmps (s : State) (n : Nat) (x : Lc) : (s.setLc n x).cmps = s.cmps := by rfl
@[simp] theorem State.setLc_cores (s : State) (n : Nat) (x : Lc) : (s.setLc n x).cores = s.cores := by rfl
@[simp] theorem State.setLc_steps (s : State) (n : Nat) (x : Lc) : (s.setLc n x).steps = s.steps := by rfl
@[simp] theorem State.setLc_repair (s : State) (n : Nat) (x : Lc) : (s.setLc n x).repair = s.repair := by rfl
@[simp] theorem State.setLc_img (s : State) (n : Nat) (x : Lc) : (s.setLc n x).img = s.img := by rfl
@[simp] theorem State.setLc_ring (s : State) (n : Nat) (x : Lc) : (s.setLc n x).ring = s.ring := by rfl
@[simp] theorem State.setLc_host (s : State) (n : Nat) (x : Lc) : (s.setLc n x).host = s.host := by rfl
@[simp] theorem State.setLc_boot (s : State) (n : Nat) (x : Lc) : (s.setLc n x).boot = s.boot := by rfl
@[simp] theorem State.setLc_hfShadows (s : State) (n : Nat) (x : Lc) : (s.setLc n x).hfShadows = s.hfShadows := by rfl
@[simp] theorem State.setLc_tap (s : State) (n : Nat) (x : Lc) : (s.setLc n x).tap = s.tap := by rfl

/-! ### `setLcShadow` -/

@[simp] theorem State.setLcShadow_pending (s : State) (m : Nat) (x : LcShadow) : (s.setLcShadow m x).pending = s.pending := by rfl
@[simp] theorem State.setLcShadow_variant (s : State) (m : Nat) (x : LcShadow) : (s.setLcShadow m x).variant = s.variant := by rfl
@[simp] theorem State.setLcShadow_draws (s : State) (m : Nat) (x : LcShadow) : (s.setLcShadow m x).draws = s.draws := by rfl
@[simp] theorem State.setLcShadow_regs (s : State) (m : Nat) (x : LcShadow) : (s.setLcShadow m x).regs = s.regs := by rfl
@[simp] theorem State.setLcShadow_mem (s : State) (m : Nat) (x : LcShadow) : (s.setLcShadow m x).mem = s.mem := by rfl
@[simp] theorem State.setLcShadow_keys (s : State) (m : Nat) (x : LcShadow) : (s.setLcShadow m x).keys = s.keys := by rfl
@[simp] theorem State.setLcShadow_replies (s : State) (m : Nat) (x : LcShadow) : (s.setLcShadow m x).replies = s.replies := by rfl
@[simp] theorem State.setLcShadow_tbf (s : State) (m : Nat) (x : LcShadow) : (s.setLcShadow m x).tbf = s.tbf := by rfl
@[simp] theorem State.setLcShadow_clk (s : State) (m : Nat) (x : LcShadow) : (s.setLcShadow m x).clk = s.clk := by rfl
@[simp] theorem State.setLcShadow_timeBase (s : State) (m : Nat) (x : LcShadow) : (s.setLcShadow m x).timeBase = s.timeBase := by rfl
@[simp] theorem State.setLcShadow_tbShadows (s : State) (m : Nat) (x : LcShadow) : (s.setLcShadow m x).tbShadows = s.tbShadows := by rfl
@[simp] theorem State.setLcShadow_tongs (s : State) (m : Nat) (x : LcShadow) : (s.setLcShadow m x).tongs = s.tongs := by rfl
@[simp] theorem State.setLcShadow_bursts (s : State) (m : Nat) (x : LcShadow) : (s.setLcShadow m x).bursts = s.bursts := by rfl
@[simp] theorem State.setLcShadow_pairs (s : State) (m : Nat) (x : LcShadow) : (s.setLcShadow m x).pairs = s.pairs := by rfl
@[simp] theorem State.setLcShadow_sources (s : State) (m : Nat) (x : LcShadow) : (s.setLcShadow m x).sources = s.sources := by rfl
@[simp] theorem State.setLcShadow_targets (s : State) (m : Nat) (x : LcShadow) : (s.setLcShadow m x).targets = s.targets := by rfl
@[simp] theorem State.setLcShadow_bbox (s : State) (m : Nat) (x : LcShadow) : (s.setLcShadow m x).bbox = s.bbox := by rfl
@[simp] theorem State.setLcShadow_hearth (s : State) (m : Nat) (x : LcShadow) : (s.setLcShadow m x).hearth = s.hearth := by rfl
@[simp] theorem State.setLcShadow_bbShadows (s : State) (m : Nat) (x : LcShadow) : (s.setLcShadow m x).bbShadows = s.bbShadows := by rfl
@[simp] theorem State.setLcShadow_supplyBad (s : State) (m : Nat) (x : LcShadow) : (s.setLcShadow m x).supplyBad = s.supplyBad := by rfl
@[simp] theorem State.setLcShadow_vaon (s : State) (m : Nat) (x : LcShadow) : (s.setLcShadow m x).vaon = s.vaon := by rfl
@[simp] theorem State.setLcShadow_chans (s : State) (m : Nat) (x : LcShadow) : (s.setLcShadow m x).chans = s.chans := by rfl
@[simp] theorem State.setLcShadow_recals (s : State) (m : Nat) (x : LcShadow) : (s.setLcShadow m x).recals = s.recals := by rfl
@[simp] theorem State.setLcShadow_anchors (s : State) (m : Nat) (x : LcShadow) : (s.setLcShadow m x).anchors = s.anchors := by rfl
@[simp] theorem State.setLcShadow_pgs (s : State) (m : Nat) (x : LcShadow) : (s.setLcShadow m x).pgs = s.pgs := by rfl
@[simp] theorem State.setLcShadow_lane0 (s : State) (m : Nat) (x : LcShadow) : (s.setLcShadow m x).lane0 = s.lane0 := by rfl
@[simp] theorem State.setLcShadow_lane1 (s : State) (m : Nat) (x : LcShadow) : (s.setLcShadow m x).lane1 = s.lane1 := by rfl
@[simp] theorem State.setLcShadow_slots (s : State) (m : Nat) (x : LcShadow) : (s.setLcShadow m x).slots = s.slots := by rfl
@[simp] theorem State.setLcShadow_points (s : State) (m : Nat) (x : LcShadow) : (s.setLcShadow m x).points = s.points := by rfl
@[simp] theorem State.setLcShadow_rules (s : State) (m : Nat) (x : LcShadow) : (s.setLcShadow m x).rules = s.rules := by rfl
@[simp] theorem State.setLcShadow_firings (s : State) (m : Nat) (x : LcShadow) : (s.setLcShadow m x).firings = s.firings := by rfl
@[simp] theorem State.setLcShadow_wms (s : State) (m : Nat) (x : LcShadow) : (s.setLcShadow m x).wms = s.wms := by rfl
@[simp] theorem State.setLcShadow_lcs (s : State) (m : Nat) (x : LcShadow) : (s.setLcShadow m x).lcs = s.lcs := by rfl
@[simp] theorem State.setLcShadow_ports (s : State) (m : Nat) (x : LcShadow) : (s.setLcShadow m x).ports = s.ports := by rfl
@[simp] theorem State.setLcShadow_pumpOk (s : State) (m : Nat) (x : LcShadow) : (s.setLcShadow m x).pumpOk = s.pumpOk := by rfl
@[simp] theorem State.setLcShadow_ctxs (s : State) (m : Nat) (x : LcShadow) : (s.setLcShadow m x).ctxs = s.ctxs := by rfl
@[simp] theorem State.setLcShadow_badRefs (s : State) (m : Nat) (x : LcShadow) : (s.setLcShadow m x).badRefs = s.badRefs := by rfl
@[simp] theorem State.setLcShadow_hk (s : State) (m : Nat) (x : LcShadow) : (s.setLcShadow m x).hk = s.hk := by rfl
@[simp] theorem State.setLcShadow_pwr (s : State) (m : Nat) (x : LcShadow) : (s.setLcShadow m x).pwr = s.pwr := by rfl
@[simp] theorem State.setLcShadow_cmps (s : State) (m : Nat) (x : LcShadow) : (s.setLcShadow m x).cmps = s.cmps := by rfl
@[simp] theorem State.setLcShadow_cores (s : State) (m : Nat) (x : LcShadow) : (s.setLcShadow m x).cores = s.cores := by rfl
@[simp] theorem State.setLcShadow_steps (s : State) (m : Nat) (x : LcShadow) : (s.setLcShadow m x).steps = s.steps := by rfl
@[simp] theorem State.setLcShadow_repair (s : State) (m : Nat) (x : LcShadow) : (s.setLcShadow m x).repair = s.repair := by rfl
@[simp] theorem State.setLcShadow_img (s : State) (m : Nat) (x : LcShadow) : (s.setLcShadow m x).img = s.img := by rfl
@[simp] theorem State.setLcShadow_ring (s : State) (m : Nat) (x : LcShadow) : (s.setLcShadow m x).ring = s.ring := by rfl
@[simp] theorem State.setLcShadow_host (s : State) (m : Nat) (x : LcShadow) : (s.setLcShadow m x).host = s.host := by rfl
@[simp] theorem State.setLcShadow_boot (s : State) (m : Nat) (x : LcShadow) : (s.setLcShadow m x).boot = s.boot := by rfl
@[simp] theorem State.setLcShadow_hfShadows (s : State) (m : Nat) (x : LcShadow) : (s.setLcShadow m x).hfShadows = s.hfShadows := by rfl
@[simp] theorem State.setLcShadow_tap (s : State) (m : Nat) (x : LcShadow) : (s.setLcShadow m x).tap = s.tap := by rfl

/-! ### `putTarget` -/

@[simp] theorem State.putTarget_pending (s : State) (t : Nat) (x : Target) : (s.putTarget t x).pending = s.pending := by rfl
@[simp] theorem State.putTarget_variant (s : State) (t : Nat) (x : Target) : (s.putTarget t x).variant = s.variant := by rfl
@[simp] theorem State.putTarget_draws (s : State) (t : Nat) (x : Target) : (s.putTarget t x).draws = s.draws := by rfl
@[simp] theorem State.putTarget_regs (s : State) (t : Nat) (x : Target) : (s.putTarget t x).regs = s.regs := by rfl
@[simp] theorem State.putTarget_mem (s : State) (t : Nat) (x : Target) : (s.putTarget t x).mem = s.mem := by rfl
@[simp] theorem State.putTarget_keys (s : State) (t : Nat) (x : Target) : (s.putTarget t x).keys = s.keys := by rfl
@[simp] theorem State.putTarget_replies (s : State) (t : Nat) (x : Target) : (s.putTarget t x).replies = s.replies := by rfl
@[simp] theorem State.putTarget_tbf (s : State) (t : Nat) (x : Target) : (s.putTarget t x).tbf = s.tbf := by rfl
@[simp] theorem State.putTarget_clk (s : State) (t : Nat) (x : Target) : (s.putTarget t x).clk = s.clk := by rfl
@[simp] theorem State.putTarget_timeBase (s : State) (t : Nat) (x : Target) : (s.putTarget t x).timeBase = s.timeBase := by rfl
@[simp] theorem State.putTarget_tbShadows (s : State) (t : Nat) (x : Target) : (s.putTarget t x).tbShadows = s.tbShadows := by rfl
@[simp] theorem State.putTarget_tongs (s : State) (t : Nat) (x : Target) : (s.putTarget t x).tongs = s.tongs := by rfl
@[simp] theorem State.putTarget_bursts (s : State) (t : Nat) (x : Target) : (s.putTarget t x).bursts = s.bursts := by rfl
@[simp] theorem State.putTarget_pairs (s : State) (t : Nat) (x : Target) : (s.putTarget t x).pairs = s.pairs := by rfl
@[simp] theorem State.putTarget_sources (s : State) (t : Nat) (x : Target) : (s.putTarget t x).sources = s.sources := by rfl
@[simp] theorem State.putTarget_bbox (s : State) (t : Nat) (x : Target) : (s.putTarget t x).bbox = s.bbox := by rfl
@[simp] theorem State.putTarget_hearth (s : State) (t : Nat) (x : Target) : (s.putTarget t x).hearth = s.hearth := by rfl
@[simp] theorem State.putTarget_bbShadows (s : State) (t : Nat) (x : Target) : (s.putTarget t x).bbShadows = s.bbShadows := by rfl
@[simp] theorem State.putTarget_supplyBad (s : State) (t : Nat) (x : Target) : (s.putTarget t x).supplyBad = s.supplyBad := by rfl
@[simp] theorem State.putTarget_vaon (s : State) (t : Nat) (x : Target) : (s.putTarget t x).vaon = s.vaon := by rfl
@[simp] theorem State.putTarget_chans (s : State) (t : Nat) (x : Target) : (s.putTarget t x).chans = s.chans := by rfl
@[simp] theorem State.putTarget_recals (s : State) (t : Nat) (x : Target) : (s.putTarget t x).recals = s.recals := by rfl
@[simp] theorem State.putTarget_anchors (s : State) (t : Nat) (x : Target) : (s.putTarget t x).anchors = s.anchors := by rfl
@[simp] theorem State.putTarget_pgs (s : State) (t : Nat) (x : Target) : (s.putTarget t x).pgs = s.pgs := by rfl
@[simp] theorem State.putTarget_lane0 (s : State) (t : Nat) (x : Target) : (s.putTarget t x).lane0 = s.lane0 := by rfl
@[simp] theorem State.putTarget_lane1 (s : State) (t : Nat) (x : Target) : (s.putTarget t x).lane1 = s.lane1 := by rfl
@[simp] theorem State.putTarget_slots (s : State) (t : Nat) (x : Target) : (s.putTarget t x).slots = s.slots := by rfl
@[simp] theorem State.putTarget_points (s : State) (t : Nat) (x : Target) : (s.putTarget t x).points = s.points := by rfl
@[simp] theorem State.putTarget_rules (s : State) (t : Nat) (x : Target) : (s.putTarget t x).rules = s.rules := by rfl
@[simp] theorem State.putTarget_firings (s : State) (t : Nat) (x : Target) : (s.putTarget t x).firings = s.firings := by rfl
@[simp] theorem State.putTarget_wms (s : State) (t : Nat) (x : Target) : (s.putTarget t x).wms = s.wms := by rfl
@[simp] theorem State.putTarget_lcs (s : State) (t : Nat) (x : Target) : (s.putTarget t x).lcs = s.lcs := by rfl
@[simp] theorem State.putTarget_lcShadows (s : State) (t : Nat) (x : Target) : (s.putTarget t x).lcShadows = s.lcShadows := by rfl
@[simp] theorem State.putTarget_ports (s : State) (t : Nat) (x : Target) : (s.putTarget t x).ports = s.ports := by rfl
@[simp] theorem State.putTarget_pumpOk (s : State) (t : Nat) (x : Target) : (s.putTarget t x).pumpOk = s.pumpOk := by rfl
@[simp] theorem State.putTarget_ctxs (s : State) (t : Nat) (x : Target) : (s.putTarget t x).ctxs = s.ctxs := by rfl
@[simp] theorem State.putTarget_badRefs (s : State) (t : Nat) (x : Target) : (s.putTarget t x).badRefs = s.badRefs := by rfl
@[simp] theorem State.putTarget_hk (s : State) (t : Nat) (x : Target) : (s.putTarget t x).hk = s.hk := by rfl
@[simp] theorem State.putTarget_pwr (s : State) (t : Nat) (x : Target) : (s.putTarget t x).pwr = s.pwr := by rfl
@[simp] theorem State.putTarget_cmps (s : State) (t : Nat) (x : Target) : (s.putTarget t x).cmps = s.cmps := by rfl
@[simp] theorem State.putTarget_cores (s : State) (t : Nat) (x : Target) : (s.putTarget t x).cores = s.cores := by rfl
@[simp] theorem State.putTarget_steps (s : State) (t : Nat) (x : Target) : (s.putTarget t x).steps = s.steps := by rfl
@[simp] theorem State.putTarget_repair (s : State) (t : Nat) (x : Target) : (s.putTarget t x).repair = s.repair := by rfl
@[simp] theorem State.putTarget_img (s : State) (t : Nat) (x : Target) : (s.putTarget t x).img = s.img := by rfl
@[simp] theorem State.putTarget_ring (s : State) (t : Nat) (x : Target) : (s.putTarget t x).ring = s.ring := by rfl
@[simp] theorem State.putTarget_host (s : State) (t : Nat) (x : Target) : (s.putTarget t x).host = s.host := by rfl
@[simp] theorem State.putTarget_boot (s : State) (t : Nat) (x : Target) : (s.putTarget t x).boot = s.boot := by rfl
@[simp] theorem State.putTarget_hfShadows (s : State) (t : Nat) (x : Target) : (s.putTarget t x).hfShadows = s.hfShadows := by rfl
@[simp] theorem State.putTarget_tap (s : State) (t : Nat) (x : Target) : (s.putTarget t x).tap = s.tap := by rfl

/-! ### `setSlot` -/

@[simp] theorem State.setSlot_pending (s : State) (n : Nat) (x : Slot) : (s.setSlot n x).pending = s.pending := by rfl
@[simp] theorem State.setSlot_variant (s : State) (n : Nat) (x : Slot) : (s.setSlot n x).variant = s.variant := by rfl
@[simp] theorem State.setSlot_draws (s : State) (n : Nat) (x : Slot) : (s.setSlot n x).draws = s.draws := by rfl
@[simp] theorem State.setSlot_regs (s : State) (n : Nat) (x : Slot) : (s.setSlot n x).regs = s.regs := by rfl
@[simp] theorem State.setSlot_mem (s : State) (n : Nat) (x : Slot) : (s.setSlot n x).mem = s.mem := by rfl
@[simp] theorem State.setSlot_keys (s : State) (n : Nat) (x : Slot) : (s.setSlot n x).keys = s.keys := by rfl
@[simp] theorem State.setSlot_replies (s : State) (n : Nat) (x : Slot) : (s.setSlot n x).replies = s.replies := by rfl
@[simp] theorem State.setSlot_tbf (s : State) (n : Nat) (x : Slot) : (s.setSlot n x).tbf = s.tbf := by rfl
@[simp] theorem State.setSlot_clk (s : State) (n : Nat) (x : Slot) : (s.setSlot n x).clk = s.clk := by rfl
@[simp] theorem State.setSlot_timeBase (s : State) (n : Nat) (x : Slot) : (s.setSlot n x).timeBase = s.timeBase := by rfl
@[simp] theorem State.setSlot_tbShadows (s : State) (n : Nat) (x : Slot) : (s.setSlot n x).tbShadows = s.tbShadows := by rfl
@[simp] theorem State.setSlot_tongs (s : State) (n : Nat) (x : Slot) : (s.setSlot n x).tongs = s.tongs := by rfl
@[simp] theorem State.setSlot_bursts (s : State) (n : Nat) (x : Slot) : (s.setSlot n x).bursts = s.bursts := by rfl
@[simp] theorem State.setSlot_pairs (s : State) (n : Nat) (x : Slot) : (s.setSlot n x).pairs = s.pairs := by rfl
@[simp] theorem State.setSlot_sources (s : State) (n : Nat) (x : Slot) : (s.setSlot n x).sources = s.sources := by rfl
@[simp] theorem State.setSlot_targets (s : State) (n : Nat) (x : Slot) : (s.setSlot n x).targets = s.targets := by rfl
@[simp] theorem State.setSlot_bbox (s : State) (n : Nat) (x : Slot) : (s.setSlot n x).bbox = s.bbox := by rfl
@[simp] theorem State.setSlot_hearth (s : State) (n : Nat) (x : Slot) : (s.setSlot n x).hearth = s.hearth := by rfl
@[simp] theorem State.setSlot_bbShadows (s : State) (n : Nat) (x : Slot) : (s.setSlot n x).bbShadows = s.bbShadows := by rfl
@[simp] theorem State.setSlot_supplyBad (s : State) (n : Nat) (x : Slot) : (s.setSlot n x).supplyBad = s.supplyBad := by rfl
@[simp] theorem State.setSlot_vaon (s : State) (n : Nat) (x : Slot) : (s.setSlot n x).vaon = s.vaon := by rfl
@[simp] theorem State.setSlot_chans (s : State) (n : Nat) (x : Slot) : (s.setSlot n x).chans = s.chans := by rfl
@[simp] theorem State.setSlot_recals (s : State) (n : Nat) (x : Slot) : (s.setSlot n x).recals = s.recals := by rfl
@[simp] theorem State.setSlot_anchors (s : State) (n : Nat) (x : Slot) : (s.setSlot n x).anchors = s.anchors := by rfl
@[simp] theorem State.setSlot_pgs (s : State) (n : Nat) (x : Slot) : (s.setSlot n x).pgs = s.pgs := by rfl
@[simp] theorem State.setSlot_lane0 (s : State) (n : Nat) (x : Slot) : (s.setSlot n x).lane0 = s.lane0 := by rfl
@[simp] theorem State.setSlot_lane1 (s : State) (n : Nat) (x : Slot) : (s.setSlot n x).lane1 = s.lane1 := by rfl
@[simp] theorem State.setSlot_points (s : State) (n : Nat) (x : Slot) : (s.setSlot n x).points = s.points := by rfl
@[simp] theorem State.setSlot_rules (s : State) (n : Nat) (x : Slot) : (s.setSlot n x).rules = s.rules := by rfl
@[simp] theorem State.setSlot_firings (s : State) (n : Nat) (x : Slot) : (s.setSlot n x).firings = s.firings := by rfl
@[simp] theorem State.setSlot_wms (s : State) (n : Nat) (x : Slot) : (s.setSlot n x).wms = s.wms := by rfl
@[simp] theorem State.setSlot_lcs (s : State) (n : Nat) (x : Slot) : (s.setSlot n x).lcs = s.lcs := by rfl
@[simp] theorem State.setSlot_lcShadows (s : State) (n : Nat) (x : Slot) : (s.setSlot n x).lcShadows = s.lcShadows := by rfl
@[simp] theorem State.setSlot_ports (s : State) (n : Nat) (x : Slot) : (s.setSlot n x).ports = s.ports := by rfl
@[simp] theorem State.setSlot_pumpOk (s : State) (n : Nat) (x : Slot) : (s.setSlot n x).pumpOk = s.pumpOk := by rfl
@[simp] theorem State.setSlot_ctxs (s : State) (n : Nat) (x : Slot) : (s.setSlot n x).ctxs = s.ctxs := by rfl
@[simp] theorem State.setSlot_badRefs (s : State) (n : Nat) (x : Slot) : (s.setSlot n x).badRefs = s.badRefs := by rfl
@[simp] theorem State.setSlot_hk (s : State) (n : Nat) (x : Slot) : (s.setSlot n x).hk = s.hk := by rfl
@[simp] theorem State.setSlot_pwr (s : State) (n : Nat) (x : Slot) : (s.setSlot n x).pwr = s.pwr := by rfl
@[simp] theorem State.setSlot_cmps (s : State) (n : Nat) (x : Slot) : (s.setSlot n x).cmps = s.cmps := by rfl
@[simp] theorem State.setSlot_cores (s : State) (n : Nat) (x : Slot) : (s.setSlot n x).cores = s.cores := by rfl
@[simp] theorem State.setSlot_steps (s : State) (n : Nat) (x : Slot) : (s.setSlot n x).steps = s.steps := by rfl
@[simp] theorem State.setSlot_repair (s : State) (n : Nat) (x : Slot) : (s.setSlot n x).repair = s.repair := by rfl
@[simp] theorem State.setSlot_img (s : State) (n : Nat) (x : Slot) : (s.setSlot n x).img = s.img := by rfl
@[simp] theorem State.setSlot_ring (s : State) (n : Nat) (x : Slot) : (s.setSlot n x).ring = s.ring := by rfl
@[simp] theorem State.setSlot_host (s : State) (n : Nat) (x : Slot) : (s.setSlot n x).host = s.host := by rfl
@[simp] theorem State.setSlot_boot (s : State) (n : Nat) (x : Slot) : (s.setSlot n x).boot = s.boot := by rfl
@[simp] theorem State.setSlot_hfShadows (s : State) (n : Nat) (x : Slot) : (s.setSlot n x).hfShadows = s.hfShadows := by rfl
@[simp] theorem State.setSlot_tap (s : State) (n : Nat) (x : Slot) : (s.setSlot n x).tap = s.tap := by rfl

/-! ### `setRule` -/

@[simp] theorem State.setRule_pending (s : State) (n : Nat) (x : RuleState) : (s.setRule n x).pending = s.pending := by rfl
@[simp] theorem State.setRule_variant (s : State) (n : Nat) (x : RuleState) : (s.setRule n x).variant = s.variant := by rfl
@[simp] theorem State.setRule_draws (s : State) (n : Nat) (x : RuleState) : (s.setRule n x).draws = s.draws := by rfl
@[simp] theorem State.setRule_regs (s : State) (n : Nat) (x : RuleState) : (s.setRule n x).regs = s.regs := by rfl
@[simp] theorem State.setRule_mem (s : State) (n : Nat) (x : RuleState) : (s.setRule n x).mem = s.mem := by rfl
@[simp] theorem State.setRule_keys (s : State) (n : Nat) (x : RuleState) : (s.setRule n x).keys = s.keys := by rfl
@[simp] theorem State.setRule_replies (s : State) (n : Nat) (x : RuleState) : (s.setRule n x).replies = s.replies := by rfl
@[simp] theorem State.setRule_tbf (s : State) (n : Nat) (x : RuleState) : (s.setRule n x).tbf = s.tbf := by rfl
@[simp] theorem State.setRule_clk (s : State) (n : Nat) (x : RuleState) : (s.setRule n x).clk = s.clk := by rfl
@[simp] theorem State.setRule_timeBase (s : State) (n : Nat) (x : RuleState) : (s.setRule n x).timeBase = s.timeBase := by rfl
@[simp] theorem State.setRule_tbShadows (s : State) (n : Nat) (x : RuleState) : (s.setRule n x).tbShadows = s.tbShadows := by rfl
@[simp] theorem State.setRule_tongs (s : State) (n : Nat) (x : RuleState) : (s.setRule n x).tongs = s.tongs := by rfl
@[simp] theorem State.setRule_bursts (s : State) (n : Nat) (x : RuleState) : (s.setRule n x).bursts = s.bursts := by rfl
@[simp] theorem State.setRule_pairs (s : State) (n : Nat) (x : RuleState) : (s.setRule n x).pairs = s.pairs := by rfl
@[simp] theorem State.setRule_sources (s : State) (n : Nat) (x : RuleState) : (s.setRule n x).sources = s.sources := by rfl
@[simp] theorem State.setRule_targets (s : State) (n : Nat) (x : RuleState) : (s.setRule n x).targets = s.targets := by rfl
@[simp] theorem State.setRule_bbox (s : State) (n : Nat) (x : RuleState) : (s.setRule n x).bbox = s.bbox := by rfl
@[simp] theorem State.setRule_hearth (s : State) (n : Nat) (x : RuleState) : (s.setRule n x).hearth = s.hearth := by rfl
@[simp] theorem State.setRule_bbShadows (s : State) (n : Nat) (x : RuleState) : (s.setRule n x).bbShadows = s.bbShadows := by rfl
@[simp] theorem State.setRule_supplyBad (s : State) (n : Nat) (x : RuleState) : (s.setRule n x).supplyBad = s.supplyBad := by rfl
@[simp] theorem State.setRule_vaon (s : State) (n : Nat) (x : RuleState) : (s.setRule n x).vaon = s.vaon := by rfl
@[simp] theorem State.setRule_chans (s : State) (n : Nat) (x : RuleState) : (s.setRule n x).chans = s.chans := by rfl
@[simp] theorem State.setRule_recals (s : State) (n : Nat) (x : RuleState) : (s.setRule n x).recals = s.recals := by rfl
@[simp] theorem State.setRule_anchors (s : State) (n : Nat) (x : RuleState) : (s.setRule n x).anchors = s.anchors := by rfl
@[simp] theorem State.setRule_pgs (s : State) (n : Nat) (x : RuleState) : (s.setRule n x).pgs = s.pgs := by rfl
@[simp] theorem State.setRule_lane0 (s : State) (n : Nat) (x : RuleState) : (s.setRule n x).lane0 = s.lane0 := by rfl
@[simp] theorem State.setRule_lane1 (s : State) (n : Nat) (x : RuleState) : (s.setRule n x).lane1 = s.lane1 := by rfl
@[simp] theorem State.setRule_slots (s : State) (n : Nat) (x : RuleState) : (s.setRule n x).slots = s.slots := by rfl
@[simp] theorem State.setRule_points (s : State) (n : Nat) (x : RuleState) : (s.setRule n x).points = s.points := by rfl
@[simp] theorem State.setRule_firings (s : State) (n : Nat) (x : RuleState) : (s.setRule n x).firings = s.firings := by rfl
@[simp] theorem State.setRule_wms (s : State) (n : Nat) (x : RuleState) : (s.setRule n x).wms = s.wms := by rfl
@[simp] theorem State.setRule_lcs (s : State) (n : Nat) (x : RuleState) : (s.setRule n x).lcs = s.lcs := by rfl
@[simp] theorem State.setRule_lcShadows (s : State) (n : Nat) (x : RuleState) : (s.setRule n x).lcShadows = s.lcShadows := by rfl
@[simp] theorem State.setRule_ports (s : State) (n : Nat) (x : RuleState) : (s.setRule n x).ports = s.ports := by rfl
@[simp] theorem State.setRule_pumpOk (s : State) (n : Nat) (x : RuleState) : (s.setRule n x).pumpOk = s.pumpOk := by rfl
@[simp] theorem State.setRule_ctxs (s : State) (n : Nat) (x : RuleState) : (s.setRule n x).ctxs = s.ctxs := by rfl
@[simp] theorem State.setRule_badRefs (s : State) (n : Nat) (x : RuleState) : (s.setRule n x).badRefs = s.badRefs := by rfl
@[simp] theorem State.setRule_hk (s : State) (n : Nat) (x : RuleState) : (s.setRule n x).hk = s.hk := by rfl
@[simp] theorem State.setRule_pwr (s : State) (n : Nat) (x : RuleState) : (s.setRule n x).pwr = s.pwr := by rfl
@[simp] theorem State.setRule_cmps (s : State) (n : Nat) (x : RuleState) : (s.setRule n x).cmps = s.cmps := by rfl
@[simp] theorem State.setRule_cores (s : State) (n : Nat) (x : RuleState) : (s.setRule n x).cores = s.cores := by rfl
@[simp] theorem State.setRule_steps (s : State) (n : Nat) (x : RuleState) : (s.setRule n x).steps = s.steps := by rfl
@[simp] theorem State.setRule_repair (s : State) (n : Nat) (x : RuleState) : (s.setRule n x).repair = s.repair := by rfl
@[simp] theorem State.setRule_img (s : State) (n : Nat) (x : RuleState) : (s.setRule n x).img = s.img := by rfl
@[simp] theorem State.setRule_ring (s : State) (n : Nat) (x : RuleState) : (s.setRule n x).ring = s.ring := by rfl
@[simp] theorem State.setRule_host (s : State) (n : Nat) (x : RuleState) : (s.setRule n x).host = s.host := by rfl
@[simp] theorem State.setRule_boot (s : State) (n : Nat) (x : RuleState) : (s.setRule n x).boot = s.boot := by rfl
@[simp] theorem State.setRule_hfShadows (s : State) (n : Nat) (x : RuleState) : (s.setRule n x).hfShadows = s.hfShadows := by rfl
@[simp] theorem State.setRule_tap (s : State) (n : Nat) (x : RuleState) : (s.setRule n x).tap = s.tap := by rfl

/-! ### `setPort` -/

@[simp] theorem State.setPort_pending (s : State) (p : Nat) (x : PortX) : (s.setPort p x).pending = s.pending := by rfl
@[simp] theorem State.setPort_variant (s : State) (p : Nat) (x : PortX) : (s.setPort p x).variant = s.variant := by rfl
@[simp] theorem State.setPort_draws (s : State) (p : Nat) (x : PortX) : (s.setPort p x).draws = s.draws := by rfl
@[simp] theorem State.setPort_regs (s : State) (p : Nat) (x : PortX) : (s.setPort p x).regs = s.regs := by rfl
@[simp] theorem State.setPort_mem (s : State) (p : Nat) (x : PortX) : (s.setPort p x).mem = s.mem := by rfl
@[simp] theorem State.setPort_keys (s : State) (p : Nat) (x : PortX) : (s.setPort p x).keys = s.keys := by rfl
@[simp] theorem State.setPort_replies (s : State) (p : Nat) (x : PortX) : (s.setPort p x).replies = s.replies := by rfl
@[simp] theorem State.setPort_tbf (s : State) (p : Nat) (x : PortX) : (s.setPort p x).tbf = s.tbf := by rfl
@[simp] theorem State.setPort_clk (s : State) (p : Nat) (x : PortX) : (s.setPort p x).clk = s.clk := by rfl
@[simp] theorem State.setPort_timeBase (s : State) (p : Nat) (x : PortX) : (s.setPort p x).timeBase = s.timeBase := by rfl
@[simp] theorem State.setPort_tbShadows (s : State) (p : Nat) (x : PortX) : (s.setPort p x).tbShadows = s.tbShadows := by rfl
@[simp] theorem State.setPort_tongs (s : State) (p : Nat) (x : PortX) : (s.setPort p x).tongs = s.tongs := by rfl
@[simp] theorem State.setPort_bursts (s : State) (p : Nat) (x : PortX) : (s.setPort p x).bursts = s.bursts := by rfl
@[simp] theorem State.setPort_pairs (s : State) (p : Nat) (x : PortX) : (s.setPort p x).pairs = s.pairs := by rfl
@[simp] theorem State.setPort_sources (s : State) (p : Nat) (x : PortX) : (s.setPort p x).sources = s.sources := by rfl
@[simp] theorem State.setPort_targets (s : State) (p : Nat) (x : PortX) : (s.setPort p x).targets = s.targets := by rfl
@[simp] theorem State.setPort_bbox (s : State) (p : Nat) (x : PortX) : (s.setPort p x).bbox = s.bbox := by rfl
@[simp] theorem State.setPort_hearth (s : State) (p : Nat) (x : PortX) : (s.setPort p x).hearth = s.hearth := by rfl
@[simp] theorem State.setPort_bbShadows (s : State) (p : Nat) (x : PortX) : (s.setPort p x).bbShadows = s.bbShadows := by rfl
@[simp] theorem State.setPort_supplyBad (s : State) (p : Nat) (x : PortX) : (s.setPort p x).supplyBad = s.supplyBad := by rfl
@[simp] theorem State.setPort_vaon (s : State) (p : Nat) (x : PortX) : (s.setPort p x).vaon = s.vaon := by rfl
@[simp] theorem State.setPort_chans (s : State) (p : Nat) (x : PortX) : (s.setPort p x).chans = s.chans := by rfl
@[simp] theorem State.setPort_recals (s : State) (p : Nat) (x : PortX) : (s.setPort p x).recals = s.recals := by rfl
@[simp] theorem State.setPort_anchors (s : State) (p : Nat) (x : PortX) : (s.setPort p x).anchors = s.anchors := by rfl
@[simp] theorem State.setPort_pgs (s : State) (p : Nat) (x : PortX) : (s.setPort p x).pgs = s.pgs := by rfl
@[simp] theorem State.setPort_lane0 (s : State) (p : Nat) (x : PortX) : (s.setPort p x).lane0 = s.lane0 := by rfl
@[simp] theorem State.setPort_lane1 (s : State) (p : Nat) (x : PortX) : (s.setPort p x).lane1 = s.lane1 := by rfl
@[simp] theorem State.setPort_slots (s : State) (p : Nat) (x : PortX) : (s.setPort p x).slots = s.slots := by rfl
@[simp] theorem State.setPort_points (s : State) (p : Nat) (x : PortX) : (s.setPort p x).points = s.points := by rfl
@[simp] theorem State.setPort_rules (s : State) (p : Nat) (x : PortX) : (s.setPort p x).rules = s.rules := by rfl
@[simp] theorem State.setPort_firings (s : State) (p : Nat) (x : PortX) : (s.setPort p x).firings = s.firings := by rfl
@[simp] theorem State.setPort_wms (s : State) (p : Nat) (x : PortX) : (s.setPort p x).wms = s.wms := by rfl
@[simp] theorem State.setPort_lcs (s : State) (p : Nat) (x : PortX) : (s.setPort p x).lcs = s.lcs := by rfl
@[simp] theorem State.setPort_lcShadows (s : State) (p : Nat) (x : PortX) : (s.setPort p x).lcShadows = s.lcShadows := by rfl
@[simp] theorem State.setPort_pumpOk (s : State) (p : Nat) (x : PortX) : (s.setPort p x).pumpOk = s.pumpOk := by rfl
@[simp] theorem State.setPort_ctxs (s : State) (p : Nat) (x : PortX) : (s.setPort p x).ctxs = s.ctxs := by rfl
@[simp] theorem State.setPort_badRefs (s : State) (p : Nat) (x : PortX) : (s.setPort p x).badRefs = s.badRefs := by rfl
@[simp] theorem State.setPort_hk (s : State) (p : Nat) (x : PortX) : (s.setPort p x).hk = s.hk := by rfl
@[simp] theorem State.setPort_pwr (s : State) (p : Nat) (x : PortX) : (s.setPort p x).pwr = s.pwr := by rfl
@[simp] theorem State.setPort_cmps (s : State) (p : Nat) (x : PortX) : (s.setPort p x).cmps = s.cmps := by rfl
@[simp] theorem State.setPort_cores (s : State) (p : Nat) (x : PortX) : (s.setPort p x).cores = s.cores := by rfl
@[simp] theorem State.setPort_steps (s : State) (p : Nat) (x : PortX) : (s.setPort p x).steps = s.steps := by rfl
@[simp] theorem State.setPort_repair (s : State) (p : Nat) (x : PortX) : (s.setPort p x).repair = s.repair := by rfl
@[simp] theorem State.setPort_img (s : State) (p : Nat) (x : PortX) : (s.setPort p x).img = s.img := by rfl
@[simp] theorem State.setPort_ring (s : State) (p : Nat) (x : PortX) : (s.setPort p x).ring = s.ring := by rfl
@[simp] theorem State.setPort_host (s : State) (p : Nat) (x : PortX) : (s.setPort p x).host = s.host := by rfl
@[simp] theorem State.setPort_boot (s : State) (p : Nat) (x : PortX) : (s.setPort p x).boot = s.boot := by rfl
@[simp] theorem State.setPort_hfShadows (s : State) (p : Nat) (x : PortX) : (s.setPort p x).hfShadows = s.hfShadows := by rfl
@[simp] theorem State.setPort_tap (s : State) (p : Nat) (x : PortX) : (s.setPort p x).tap = s.tap := by rfl

/-! ### `setCtx` -/

@[simp] theorem State.setCtx_pending (s : State) (n : Nat) (x : Ctx) : (s.setCtx n x).pending = s.pending := by rfl
@[simp] theorem State.setCtx_variant (s : State) (n : Nat) (x : Ctx) : (s.setCtx n x).variant = s.variant := by rfl
@[simp] theorem State.setCtx_draws (s : State) (n : Nat) (x : Ctx) : (s.setCtx n x).draws = s.draws := by rfl
@[simp] theorem State.setCtx_regs (s : State) (n : Nat) (x : Ctx) : (s.setCtx n x).regs = s.regs := by rfl
@[simp] theorem State.setCtx_mem (s : State) (n : Nat) (x : Ctx) : (s.setCtx n x).mem = s.mem := by rfl
@[simp] theorem State.setCtx_keys (s : State) (n : Nat) (x : Ctx) : (s.setCtx n x).keys = s.keys := by rfl
@[simp] theorem State.setCtx_replies (s : State) (n : Nat) (x : Ctx) : (s.setCtx n x).replies = s.replies := by rfl
@[simp] theorem State.setCtx_tbf (s : State) (n : Nat) (x : Ctx) : (s.setCtx n x).tbf = s.tbf := by rfl
@[simp] theorem State.setCtx_clk (s : State) (n : Nat) (x : Ctx) : (s.setCtx n x).clk = s.clk := by rfl
@[simp] theorem State.setCtx_timeBase (s : State) (n : Nat) (x : Ctx) : (s.setCtx n x).timeBase = s.timeBase := by rfl
@[simp] theorem State.setCtx_tbShadows (s : State) (n : Nat) (x : Ctx) : (s.setCtx n x).tbShadows = s.tbShadows := by rfl
@[simp] theorem State.setCtx_tongs (s : State) (n : Nat) (x : Ctx) : (s.setCtx n x).tongs = s.tongs := by rfl
@[simp] theorem State.setCtx_bursts (s : State) (n : Nat) (x : Ctx) : (s.setCtx n x).bursts = s.bursts := by rfl
@[simp] theorem State.setCtx_pairs (s : State) (n : Nat) (x : Ctx) : (s.setCtx n x).pairs = s.pairs := by rfl
@[simp] theorem State.setCtx_sources (s : State) (n : Nat) (x : Ctx) : (s.setCtx n x).sources = s.sources := by rfl
@[simp] theorem State.setCtx_targets (s : State) (n : Nat) (x : Ctx) : (s.setCtx n x).targets = s.targets := by rfl
@[simp] theorem State.setCtx_bbox (s : State) (n : Nat) (x : Ctx) : (s.setCtx n x).bbox = s.bbox := by rfl
@[simp] theorem State.setCtx_hearth (s : State) (n : Nat) (x : Ctx) : (s.setCtx n x).hearth = s.hearth := by rfl
@[simp] theorem State.setCtx_bbShadows (s : State) (n : Nat) (x : Ctx) : (s.setCtx n x).bbShadows = s.bbShadows := by rfl
@[simp] theorem State.setCtx_supplyBad (s : State) (n : Nat) (x : Ctx) : (s.setCtx n x).supplyBad = s.supplyBad := by rfl
@[simp] theorem State.setCtx_vaon (s : State) (n : Nat) (x : Ctx) : (s.setCtx n x).vaon = s.vaon := by rfl
@[simp] theorem State.setCtx_chans (s : State) (n : Nat) (x : Ctx) : (s.setCtx n x).chans = s.chans := by rfl
@[simp] theorem State.setCtx_recals (s : State) (n : Nat) (x : Ctx) : (s.setCtx n x).recals = s.recals := by rfl
@[simp] theorem State.setCtx_anchors (s : State) (n : Nat) (x : Ctx) : (s.setCtx n x).anchors = s.anchors := by rfl
@[simp] theorem State.setCtx_pgs (s : State) (n : Nat) (x : Ctx) : (s.setCtx n x).pgs = s.pgs := by rfl
@[simp] theorem State.setCtx_lane0 (s : State) (n : Nat) (x : Ctx) : (s.setCtx n x).lane0 = s.lane0 := by rfl
@[simp] theorem State.setCtx_lane1 (s : State) (n : Nat) (x : Ctx) : (s.setCtx n x).lane1 = s.lane1 := by rfl
@[simp] theorem State.setCtx_slots (s : State) (n : Nat) (x : Ctx) : (s.setCtx n x).slots = s.slots := by rfl
@[simp] theorem State.setCtx_points (s : State) (n : Nat) (x : Ctx) : (s.setCtx n x).points = s.points := by rfl
@[simp] theorem State.setCtx_rules (s : State) (n : Nat) (x : Ctx) : (s.setCtx n x).rules = s.rules := by rfl
@[simp] theorem State.setCtx_firings (s : State) (n : Nat) (x : Ctx) : (s.setCtx n x).firings = s.firings := by rfl
@[simp] theorem State.setCtx_wms (s : State) (n : Nat) (x : Ctx) : (s.setCtx n x).wms = s.wms := by rfl
@[simp] theorem State.setCtx_lcs (s : State) (n : Nat) (x : Ctx) : (s.setCtx n x).lcs = s.lcs := by rfl
@[simp] theorem State.setCtx_lcShadows (s : State) (n : Nat) (x : Ctx) : (s.setCtx n x).lcShadows = s.lcShadows := by rfl
@[simp] theorem State.setCtx_ports (s : State) (n : Nat) (x : Ctx) : (s.setCtx n x).ports = s.ports := by rfl
@[simp] theorem State.setCtx_pumpOk (s : State) (n : Nat) (x : Ctx) : (s.setCtx n x).pumpOk = s.pumpOk := by rfl
@[simp] theorem State.setCtx_badRefs (s : State) (n : Nat) (x : Ctx) : (s.setCtx n x).badRefs = s.badRefs := by rfl
@[simp] theorem State.setCtx_hk (s : State) (n : Nat) (x : Ctx) : (s.setCtx n x).hk = s.hk := by rfl
@[simp] theorem State.setCtx_pwr (s : State) (n : Nat) (x : Ctx) : (s.setCtx n x).pwr = s.pwr := by rfl
@[simp] theorem State.setCtx_cmps (s : State) (n : Nat) (x : Ctx) : (s.setCtx n x).cmps = s.cmps := by rfl
@[simp] theorem State.setCtx_cores (s : State) (n : Nat) (x : Ctx) : (s.setCtx n x).cores = s.cores := by rfl
@[simp] theorem State.setCtx_steps (s : State) (n : Nat) (x : Ctx) : (s.setCtx n x).steps = s.steps := by rfl
@[simp] theorem State.setCtx_repair (s : State) (n : Nat) (x : Ctx) : (s.setCtx n x).repair = s.repair := by rfl
@[simp] theorem State.setCtx_img (s : State) (n : Nat) (x : Ctx) : (s.setCtx n x).img = s.img := by rfl
@[simp] theorem State.setCtx_ring (s : State) (n : Nat) (x : Ctx) : (s.setCtx n x).ring = s.ring := by rfl
@[simp] theorem State.setCtx_host (s : State) (n : Nat) (x : Ctx) : (s.setCtx n x).host = s.host := by rfl
@[simp] theorem State.setCtx_boot (s : State) (n : Nat) (x : Ctx) : (s.setCtx n x).boot = s.boot := by rfl
@[simp] theorem State.setCtx_hfShadows (s : State) (n : Nat) (x : Ctx) : (s.setCtx n x).hfShadows = s.hfShadows := by rfl
@[simp] theorem State.setCtx_tap (s : State) (n : Nat) (x : Ctx) : (s.setCtx n x).tap = s.tap := by rfl

/-! ### `setPg` -/

@[simp] theorem State.setPg_pending (s : State) (g : Nat) (x : Pg) : (s.setPg g x).pending = s.pending := by rfl
@[simp] theorem State.setPg_variant (s : State) (g : Nat) (x : Pg) : (s.setPg g x).variant = s.variant := by rfl
@[simp] theorem State.setPg_draws (s : State) (g : Nat) (x : Pg) : (s.setPg g x).draws = s.draws := by rfl
@[simp] theorem State.setPg_regs (s : State) (g : Nat) (x : Pg) : (s.setPg g x).regs = s.regs := by rfl
@[simp] theorem State.setPg_mem (s : State) (g : Nat) (x : Pg) : (s.setPg g x).mem = s.mem := by rfl
@[simp] theorem State.setPg_keys (s : State) (g : Nat) (x : Pg) : (s.setPg g x).keys = s.keys := by rfl
@[simp] theorem State.setPg_replies (s : State) (g : Nat) (x : Pg) : (s.setPg g x).replies = s.replies := by rfl
@[simp] theorem State.setPg_tbf (s : State) (g : Nat) (x : Pg) : (s.setPg g x).tbf = s.tbf := by rfl
@[simp] theorem State.setPg_clk (s : State) (g : Nat) (x : Pg) : (s.setPg g x).clk = s.clk := by rfl
@[simp] theorem State.setPg_timeBase (s : State) (g : Nat) (x : Pg) : (s.setPg g x).timeBase = s.timeBase := by rfl
@[simp] theorem State.setPg_tbShadows (s : State) (g : Nat) (x : Pg) : (s.setPg g x).tbShadows = s.tbShadows := by rfl
@[simp] theorem State.setPg_tongs (s : State) (g : Nat) (x : Pg) : (s.setPg g x).tongs = s.tongs := by rfl
@[simp] theorem State.setPg_bursts (s : State) (g : Nat) (x : Pg) : (s.setPg g x).bursts = s.bursts := by rfl
@[simp] theorem State.setPg_pairs (s : State) (g : Nat) (x : Pg) : (s.setPg g x).pairs = s.pairs := by rfl
@[simp] theorem State.setPg_sources (s : State) (g : Nat) (x : Pg) : (s.setPg g x).sources = s.sources := by rfl
@[simp] theorem State.setPg_targets (s : State) (g : Nat) (x : Pg) : (s.setPg g x).targets = s.targets := by rfl
@[simp] theorem State.setPg_bbox (s : State) (g : Nat) (x : Pg) : (s.setPg g x).bbox = s.bbox := by rfl
@[simp] theorem State.setPg_hearth (s : State) (g : Nat) (x : Pg) : (s.setPg g x).hearth = s.hearth := by rfl
@[simp] theorem State.setPg_bbShadows (s : State) (g : Nat) (x : Pg) : (s.setPg g x).bbShadows = s.bbShadows := by rfl
@[simp] theorem State.setPg_supplyBad (s : State) (g : Nat) (x : Pg) : (s.setPg g x).supplyBad = s.supplyBad := by rfl
@[simp] theorem State.setPg_vaon (s : State) (g : Nat) (x : Pg) : (s.setPg g x).vaon = s.vaon := by rfl
@[simp] theorem State.setPg_chans (s : State) (g : Nat) (x : Pg) : (s.setPg g x).chans = s.chans := by rfl
@[simp] theorem State.setPg_recals (s : State) (g : Nat) (x : Pg) : (s.setPg g x).recals = s.recals := by rfl
@[simp] theorem State.setPg_anchors (s : State) (g : Nat) (x : Pg) : (s.setPg g x).anchors = s.anchors := by rfl
@[simp] theorem State.setPg_lane0 (s : State) (g : Nat) (x : Pg) : (s.setPg g x).lane0 = s.lane0 := by rfl
@[simp] theorem State.setPg_lane1 (s : State) (g : Nat) (x : Pg) : (s.setPg g x).lane1 = s.lane1 := by rfl
@[simp] theorem State.setPg_slots (s : State) (g : Nat) (x : Pg) : (s.setPg g x).slots = s.slots := by rfl
@[simp] theorem State.setPg_points (s : State) (g : Nat) (x : Pg) : (s.setPg g x).points = s.points := by rfl
@[simp] theorem State.setPg_rules (s : State) (g : Nat) (x : Pg) : (s.setPg g x).rules = s.rules := by rfl
@[simp] theorem State.setPg_firings (s : State) (g : Nat) (x : Pg) : (s.setPg g x).firings = s.firings := by rfl
@[simp] theorem State.setPg_wms (s : State) (g : Nat) (x : Pg) : (s.setPg g x).wms = s.wms := by rfl
@[simp] theorem State.setPg_lcs (s : State) (g : Nat) (x : Pg) : (s.setPg g x).lcs = s.lcs := by rfl
@[simp] theorem State.setPg_lcShadows (s : State) (g : Nat) (x : Pg) : (s.setPg g x).lcShadows = s.lcShadows := by rfl
@[simp] theorem State.setPg_ports (s : State) (g : Nat) (x : Pg) : (s.setPg g x).ports = s.ports := by rfl
@[simp] theorem State.setPg_pumpOk (s : State) (g : Nat) (x : Pg) : (s.setPg g x).pumpOk = s.pumpOk := by rfl
@[simp] theorem State.setPg_ctxs (s : State) (g : Nat) (x : Pg) : (s.setPg g x).ctxs = s.ctxs := by rfl
@[simp] theorem State.setPg_badRefs (s : State) (g : Nat) (x : Pg) : (s.setPg g x).badRefs = s.badRefs := by rfl
@[simp] theorem State.setPg_hk (s : State) (g : Nat) (x : Pg) : (s.setPg g x).hk = s.hk := by rfl
@[simp] theorem State.setPg_pwr (s : State) (g : Nat) (x : Pg) : (s.setPg g x).pwr = s.pwr := by rfl
@[simp] theorem State.setPg_cmps (s : State) (g : Nat) (x : Pg) : (s.setPg g x).cmps = s.cmps := by rfl
@[simp] theorem State.setPg_cores (s : State) (g : Nat) (x : Pg) : (s.setPg g x).cores = s.cores := by rfl
@[simp] theorem State.setPg_steps (s : State) (g : Nat) (x : Pg) : (s.setPg g x).steps = s.steps := by rfl
@[simp] theorem State.setPg_repair (s : State) (g : Nat) (x : Pg) : (s.setPg g x).repair = s.repair := by rfl
@[simp] theorem State.setPg_img (s : State) (g : Nat) (x : Pg) : (s.setPg g x).img = s.img := by rfl
@[simp] theorem State.setPg_ring (s : State) (g : Nat) (x : Pg) : (s.setPg g x).ring = s.ring := by rfl
@[simp] theorem State.setPg_host (s : State) (g : Nat) (x : Pg) : (s.setPg g x).host = s.host := by rfl
@[simp] theorem State.setPg_boot (s : State) (g : Nat) (x : Pg) : (s.setPg g x).boot = s.boot := by rfl
@[simp] theorem State.setPg_hfShadows (s : State) (g : Nat) (x : Pg) : (s.setPg g x).hfShadows = s.hfShadows := by rfl
@[simp] theorem State.setPg_tap (s : State) (g : Nat) (x : Pg) : (s.setPg g x).tap = s.tap := by rfl

/-! ### `setWm` -/

@[simp] theorem State.setWm_pending (s : State) (n : Nat) (x : Wm) : (s.setWm n x).pending = s.pending := by rfl
@[simp] theorem State.setWm_variant (s : State) (n : Nat) (x : Wm) : (s.setWm n x).variant = s.variant := by rfl
@[simp] theorem State.setWm_draws (s : State) (n : Nat) (x : Wm) : (s.setWm n x).draws = s.draws := by rfl
@[simp] theorem State.setWm_regs (s : State) (n : Nat) (x : Wm) : (s.setWm n x).regs = s.regs := by rfl
@[simp] theorem State.setWm_mem (s : State) (n : Nat) (x : Wm) : (s.setWm n x).mem = s.mem := by rfl
@[simp] theorem State.setWm_keys (s : State) (n : Nat) (x : Wm) : (s.setWm n x).keys = s.keys := by rfl
@[simp] theorem State.setWm_replies (s : State) (n : Nat) (x : Wm) : (s.setWm n x).replies = s.replies := by rfl
@[simp] theorem State.setWm_tbf (s : State) (n : Nat) (x : Wm) : (s.setWm n x).tbf = s.tbf := by rfl
@[simp] theorem State.setWm_clk (s : State) (n : Nat) (x : Wm) : (s.setWm n x).clk = s.clk := by rfl
@[simp] theorem State.setWm_timeBase (s : State) (n : Nat) (x : Wm) : (s.setWm n x).timeBase = s.timeBase := by rfl
@[simp] theorem State.setWm_tbShadows (s : State) (n : Nat) (x : Wm) : (s.setWm n x).tbShadows = s.tbShadows := by rfl
@[simp] theorem State.setWm_tongs (s : State) (n : Nat) (x : Wm) : (s.setWm n x).tongs = s.tongs := by rfl
@[simp] theorem State.setWm_bursts (s : State) (n : Nat) (x : Wm) : (s.setWm n x).bursts = s.bursts := by rfl
@[simp] theorem State.setWm_pairs (s : State) (n : Nat) (x : Wm) : (s.setWm n x).pairs = s.pairs := by rfl
@[simp] theorem State.setWm_sources (s : State) (n : Nat) (x : Wm) : (s.setWm n x).sources = s.sources := by rfl
@[simp] theorem State.setWm_targets (s : State) (n : Nat) (x : Wm) : (s.setWm n x).targets = s.targets := by rfl
@[simp] theorem State.setWm_bbox (s : State) (n : Nat) (x : Wm) : (s.setWm n x).bbox = s.bbox := by rfl
@[simp] theorem State.setWm_hearth (s : State) (n : Nat) (x : Wm) : (s.setWm n x).hearth = s.hearth := by rfl
@[simp] theorem State.setWm_bbShadows (s : State) (n : Nat) (x : Wm) : (s.setWm n x).bbShadows = s.bbShadows := by rfl
@[simp] theorem State.setWm_supplyBad (s : State) (n : Nat) (x : Wm) : (s.setWm n x).supplyBad = s.supplyBad := by rfl
@[simp] theorem State.setWm_vaon (s : State) (n : Nat) (x : Wm) : (s.setWm n x).vaon = s.vaon := by rfl
@[simp] theorem State.setWm_chans (s : State) (n : Nat) (x : Wm) : (s.setWm n x).chans = s.chans := by rfl
@[simp] theorem State.setWm_recals (s : State) (n : Nat) (x : Wm) : (s.setWm n x).recals = s.recals := by rfl
@[simp] theorem State.setWm_anchors (s : State) (n : Nat) (x : Wm) : (s.setWm n x).anchors = s.anchors := by rfl
@[simp] theorem State.setWm_pgs (s : State) (n : Nat) (x : Wm) : (s.setWm n x).pgs = s.pgs := by rfl
@[simp] theorem State.setWm_lane0 (s : State) (n : Nat) (x : Wm) : (s.setWm n x).lane0 = s.lane0 := by rfl
@[simp] theorem State.setWm_lane1 (s : State) (n : Nat) (x : Wm) : (s.setWm n x).lane1 = s.lane1 := by rfl
@[simp] theorem State.setWm_slots (s : State) (n : Nat) (x : Wm) : (s.setWm n x).slots = s.slots := by rfl
@[simp] theorem State.setWm_points (s : State) (n : Nat) (x : Wm) : (s.setWm n x).points = s.points := by rfl
@[simp] theorem State.setWm_rules (s : State) (n : Nat) (x : Wm) : (s.setWm n x).rules = s.rules := by rfl
@[simp] theorem State.setWm_firings (s : State) (n : Nat) (x : Wm) : (s.setWm n x).firings = s.firings := by rfl
@[simp] theorem State.setWm_lcs (s : State) (n : Nat) (x : Wm) : (s.setWm n x).lcs = s.lcs := by rfl
@[simp] theorem State.setWm_lcShadows (s : State) (n : Nat) (x : Wm) : (s.setWm n x).lcShadows = s.lcShadows := by rfl
@[simp] theorem State.setWm_ports (s : State) (n : Nat) (x : Wm) : (s.setWm n x).ports = s.ports := by rfl
@[simp] theorem State.setWm_pumpOk (s : State) (n : Nat) (x : Wm) : (s.setWm n x).pumpOk = s.pumpOk := by rfl
@[simp] theorem State.setWm_ctxs (s : State) (n : Nat) (x : Wm) : (s.setWm n x).ctxs = s.ctxs := by rfl
@[simp] theorem State.setWm_badRefs (s : State) (n : Nat) (x : Wm) : (s.setWm n x).badRefs = s.badRefs := by rfl
@[simp] theorem State.setWm_hk (s : State) (n : Nat) (x : Wm) : (s.setWm n x).hk = s.hk := by rfl
@[simp] theorem State.setWm_pwr (s : State) (n : Nat) (x : Wm) : (s.setWm n x).pwr = s.pwr := by rfl
@[simp] theorem State.setWm_cmps (s : State) (n : Nat) (x : Wm) : (s.setWm n x).cmps = s.cmps := by rfl
@[simp] theorem State.setWm_cores (s : State) (n : Nat) (x : Wm) : (s.setWm n x).cores = s.cores := by rfl
@[simp] theorem State.setWm_steps (s : State) (n : Nat) (x : Wm) : (s.setWm n x).steps = s.steps := by rfl
@[simp] theorem State.setWm_repair (s : State) (n : Nat) (x : Wm) : (s.setWm n x).repair = s.repair := by rfl
@[simp] theorem State.setWm_img (s : State) (n : Nat) (x : Wm) : (s.setWm n x).img = s.img := by rfl
@[simp] theorem State.setWm_ring (s : State) (n : Nat) (x : Wm) : (s.setWm n x).ring = s.ring := by rfl
@[simp] theorem State.setWm_host (s : State) (n : Nat) (x : Wm) : (s.setWm n x).host = s.host := by rfl
@[simp] theorem State.setWm_boot (s : State) (n : Nat) (x : Wm) : (s.setWm n x).boot = s.boot := by rfl
@[simp] theorem State.setWm_hfShadows (s : State) (n : Nat) (x : Wm) : (s.setWm n x).hfShadows = s.hfShadows := by rfl
@[simp] theorem State.setWm_tap (s : State) (n : Nat) (x : Wm) : (s.setWm n x).tap = s.tap := by rfl

/-! ### `setPair` -/

@[simp] theorem State.setPair_pending (s : State) (n t : Nat) (x : Pair) : (s.setPair n t x).pending = s.pending := by rfl
@[simp] theorem State.setPair_variant (s : State) (n t : Nat) (x : Pair) : (s.setPair n t x).variant = s.variant := by rfl
@[simp] theorem State.setPair_draws (s : State) (n t : Nat) (x : Pair) : (s.setPair n t x).draws = s.draws := by rfl
@[simp] theorem State.setPair_regs (s : State) (n t : Nat) (x : Pair) : (s.setPair n t x).regs = s.regs := by rfl
@[simp] theorem State.setPair_mem (s : State) (n t : Nat) (x : Pair) : (s.setPair n t x).mem = s.mem := by rfl
@[simp] theorem State.setPair_keys (s : State) (n t : Nat) (x : Pair) : (s.setPair n t x).keys = s.keys := by rfl
@[simp] theorem State.setPair_replies (s : State) (n t : Nat) (x : Pair) : (s.setPair n t x).replies = s.replies := by rfl
@[simp] theorem State.setPair_tbf (s : State) (n t : Nat) (x : Pair) : (s.setPair n t x).tbf = s.tbf := by rfl
@[simp] theorem State.setPair_clk (s : State) (n t : Nat) (x : Pair) : (s.setPair n t x).clk = s.clk := by rfl
@[simp] theorem State.setPair_timeBase (s : State) (n t : Nat) (x : Pair) : (s.setPair n t x).timeBase = s.timeBase := by rfl
@[simp] theorem State.setPair_tbShadows (s : State) (n t : Nat) (x : Pair) : (s.setPair n t x).tbShadows = s.tbShadows := by rfl
@[simp] theorem State.setPair_tongs (s : State) (n t : Nat) (x : Pair) : (s.setPair n t x).tongs = s.tongs := by rfl
@[simp] theorem State.setPair_bursts (s : State) (n t : Nat) (x : Pair) : (s.setPair n t x).bursts = s.bursts := by rfl
@[simp] theorem State.setPair_sources (s : State) (n t : Nat) (x : Pair) : (s.setPair n t x).sources = s.sources := by rfl
@[simp] theorem State.setPair_targets (s : State) (n t : Nat) (x : Pair) : (s.setPair n t x).targets = s.targets := by rfl
@[simp] theorem State.setPair_bbox (s : State) (n t : Nat) (x : Pair) : (s.setPair n t x).bbox = s.bbox := by rfl
@[simp] theorem State.setPair_hearth (s : State) (n t : Nat) (x : Pair) : (s.setPair n t x).hearth = s.hearth := by rfl
@[simp] theorem State.setPair_bbShadows (s : State) (n t : Nat) (x : Pair) : (s.setPair n t x).bbShadows = s.bbShadows := by rfl
@[simp] theorem State.setPair_supplyBad (s : State) (n t : Nat) (x : Pair) : (s.setPair n t x).supplyBad = s.supplyBad := by rfl
@[simp] theorem State.setPair_vaon (s : State) (n t : Nat) (x : Pair) : (s.setPair n t x).vaon = s.vaon := by rfl
@[simp] theorem State.setPair_chans (s : State) (n t : Nat) (x : Pair) : (s.setPair n t x).chans = s.chans := by rfl
@[simp] theorem State.setPair_recals (s : State) (n t : Nat) (x : Pair) : (s.setPair n t x).recals = s.recals := by rfl
@[simp] theorem State.setPair_anchors (s : State) (n t : Nat) (x : Pair) : (s.setPair n t x).anchors = s.anchors := by rfl
@[simp] theorem State.setPair_pgs (s : State) (n t : Nat) (x : Pair) : (s.setPair n t x).pgs = s.pgs := by rfl
@[simp] theorem State.setPair_lane0 (s : State) (n t : Nat) (x : Pair) : (s.setPair n t x).lane0 = s.lane0 := by rfl
@[simp] theorem State.setPair_lane1 (s : State) (n t : Nat) (x : Pair) : (s.setPair n t x).lane1 = s.lane1 := by rfl
@[simp] theorem State.setPair_slots (s : State) (n t : Nat) (x : Pair) : (s.setPair n t x).slots = s.slots := by rfl
@[simp] theorem State.setPair_points (s : State) (n t : Nat) (x : Pair) : (s.setPair n t x).points = s.points := by rfl
@[simp] theorem State.setPair_rules (s : State) (n t : Nat) (x : Pair) : (s.setPair n t x).rules = s.rules := by rfl
@[simp] theorem State.setPair_firings (s : State) (n t : Nat) (x : Pair) : (s.setPair n t x).firings = s.firings := by rfl
@[simp] theorem State.setPair_wms (s : State) (n t : Nat) (x : Pair) : (s.setPair n t x).wms = s.wms := by rfl
@[simp] theorem State.setPair_lcs (s : State) (n t : Nat) (x : Pair) : (s.setPair n t x).lcs = s.lcs := by rfl
@[simp] theorem State.setPair_lcShadows (s : State) (n t : Nat) (x : Pair) : (s.setPair n t x).lcShadows = s.lcShadows := by rfl
@[simp] theorem State.setPair_ports (s : State) (n t : Nat) (x : Pair) : (s.setPair n t x).ports = s.ports := by rfl
@[simp] theorem State.setPair_pumpOk (s : State) (n t : Nat) (x : Pair) : (s.setPair n t x).pumpOk = s.pumpOk := by rfl
@[simp] theorem State.setPair_ctxs (s : State) (n t : Nat) (x : Pair) : (s.setPair n t x).ctxs = s.ctxs := by rfl
@[simp] theorem State.setPair_badRefs (s : State) (n t : Nat) (x : Pair) : (s.setPair n t x).badRefs = s.badRefs := by rfl
@[simp] theorem State.setPair_hk (s : State) (n t : Nat) (x : Pair) : (s.setPair n t x).hk = s.hk := by rfl
@[simp] theorem State.setPair_pwr (s : State) (n t : Nat) (x : Pair) : (s.setPair n t x).pwr = s.pwr := by rfl
@[simp] theorem State.setPair_cmps (s : State) (n t : Nat) (x : Pair) : (s.setPair n t x).cmps = s.cmps := by rfl
@[simp] theorem State.setPair_cores (s : State) (n t : Nat) (x : Pair) : (s.setPair n t x).cores = s.cores := by rfl
@[simp] theorem State.setPair_steps (s : State) (n t : Nat) (x : Pair) : (s.setPair n t x).steps = s.steps := by rfl
@[simp] theorem State.setPair_repair (s : State) (n t : Nat) (x : Pair) : (s.setPair n t x).repair = s.repair := by rfl
@[simp] theorem State.setPair_img (s : State) (n t : Nat) (x : Pair) : (s.setPair n t x).img = s.img := by rfl
@[simp] theorem State.setPair_ring (s : State) (n t : Nat) (x : Pair) : (s.setPair n t x).ring = s.ring := by rfl
@[simp] theorem State.setPair_host (s : State) (n t : Nat) (x : Pair) : (s.setPair n t x).host = s.host := by rfl
@[simp] theorem State.setPair_boot (s : State) (n t : Nat) (x : Pair) : (s.setPair n t x).boot = s.boot := by rfl
@[simp] theorem State.setPair_hfShadows (s : State) (n t : Nat) (x : Pair) : (s.setPair n t x).hfShadows = s.hfShadows := by rfl
@[simp] theorem State.setPair_tap (s : State) (n t : Nat) (x : Pair) : (s.setPair n t x).tap = s.tap := by rfl

/-! ### `setSource` -/

@[simp] theorem State.setSource_pending (s : State) (n : Nat) (x : Source) : (s.setSource n x).pending = s.pending := by rfl
@[simp] theorem State.setSource_variant (s : State) (n : Nat) (x : Source) : (s.setSource n x).variant = s.variant := by rfl
@[simp] theorem State.setSource_draws (s : State) (n : Nat) (x : Source) : (s.setSource n x).draws = s.draws := by rfl
@[simp] theorem State.setSource_regs (s : State) (n : Nat) (x : Source) : (s.setSource n x).regs = s.regs := by rfl
@[simp] theorem State.setSource_mem (s : State) (n : Nat) (x : Source) : (s.setSource n x).mem = s.mem := by rfl
@[simp] theorem State.setSource_keys (s : State) (n : Nat) (x : Source) : (s.setSource n x).keys = s.keys := by rfl
@[simp] theorem State.setSource_replies (s : State) (n : Nat) (x : Source) : (s.setSource n x).replies = s.replies := by rfl
@[simp] theorem State.setSource_tbf (s : State) (n : Nat) (x : Source) : (s.setSource n x).tbf = s.tbf := by rfl
@[simp] theorem State.setSource_clk (s : State) (n : Nat) (x : Source) : (s.setSource n x).clk = s.clk := by rfl
@[simp] theorem State.setSource_timeBase (s : State) (n : Nat) (x : Source) : (s.setSource n x).timeBase = s.timeBase := by rfl
@[simp] theorem State.setSource_tbShadows (s : State) (n : Nat) (x : Source) : (s.setSource n x).tbShadows = s.tbShadows := by rfl
@[simp] theorem State.setSource_tongs (s : State) (n : Nat) (x : Source) : (s.setSource n x).tongs = s.tongs := by rfl
@[simp] theorem State.setSource_bursts (s : State) (n : Nat) (x : Source) : (s.setSource n x).bursts = s.bursts := by rfl
@[simp] theorem State.setSource_pairs (s : State) (n : Nat) (x : Source) : (s.setSource n x).pairs = s.pairs := by rfl
@[simp] theorem State.setSource_targets (s : State) (n : Nat) (x : Source) : (s.setSource n x).targets = s.targets := by rfl
@[simp] theorem State.setSource_bbox (s : State) (n : Nat) (x : Source) : (s.setSource n x).bbox = s.bbox := by rfl
@[simp] theorem State.setSource_hearth (s : State) (n : Nat) (x : Source) : (s.setSource n x).hearth = s.hearth := by rfl
@[simp] theorem State.setSource_bbShadows (s : State) (n : Nat) (x : Source) : (s.setSource n x).bbShadows = s.bbShadows := by rfl
@[simp] theorem State.setSource_supplyBad (s : State) (n : Nat) (x : Source) : (s.setSource n x).supplyBad = s.supplyBad := by rfl
@[simp] theorem State.setSource_vaon (s : State) (n : Nat) (x : Source) : (s.setSource n x).vaon = s.vaon := by rfl
@[simp] theorem State.setSource_chans (s : State) (n : Nat) (x : Source) : (s.setSource n x).chans = s.chans := by rfl
@[simp] theorem State.setSource_recals (s : State) (n : Nat) (x : Source) : (s.setSource n x).recals = s.recals := by rfl
@[simp] theorem State.setSource_anchors (s : State) (n : Nat) (x : Source) : (s.setSource n x).anchors = s.anchors := by rfl
@[simp] theorem State.setSource_pgs (s : State) (n : Nat) (x : Source) : (s.setSource n x).pgs = s.pgs := by rfl
@[simp] theorem State.setSource_lane0 (s : State) (n : Nat) (x : Source) : (s.setSource n x).lane0 = s.lane0 := by rfl
@[simp] theorem State.setSource_lane1 (s : State) (n : Nat) (x : Source) : (s.setSource n x).lane1 = s.lane1 := by rfl
@[simp] theorem State.setSource_slots (s : State) (n : Nat) (x : Source) : (s.setSource n x).slots = s.slots := by rfl
@[simp] theorem State.setSource_points (s : State) (n : Nat) (x : Source) : (s.setSource n x).points = s.points := by rfl
@[simp] theorem State.setSource_rules (s : State) (n : Nat) (x : Source) : (s.setSource n x).rules = s.rules := by rfl
@[simp] theorem State.setSource_firings (s : State) (n : Nat) (x : Source) : (s.setSource n x).firings = s.firings := by rfl
@[simp] theorem State.setSource_wms (s : State) (n : Nat) (x : Source) : (s.setSource n x).wms = s.wms := by rfl
@[simp] theorem State.setSource_lcs (s : State) (n : Nat) (x : Source) : (s.setSource n x).lcs = s.lcs := by rfl
@[simp] theorem State.setSource_lcShadows (s : State) (n : Nat) (x : Source) : (s.setSource n x).lcShadows = s.lcShadows := by rfl
@[simp] theorem State.setSource_ports (s : State) (n : Nat) (x : Source) : (s.setSource n x).ports = s.ports := by rfl
@[simp] theorem State.setSource_pumpOk (s : State) (n : Nat) (x : Source) : (s.setSource n x).pumpOk = s.pumpOk := by rfl
@[simp] theorem State.setSource_ctxs (s : State) (n : Nat) (x : Source) : (s.setSource n x).ctxs = s.ctxs := by rfl
@[simp] theorem State.setSource_badRefs (s : State) (n : Nat) (x : Source) : (s.setSource n x).badRefs = s.badRefs := by rfl
@[simp] theorem State.setSource_hk (s : State) (n : Nat) (x : Source) : (s.setSource n x).hk = s.hk := by rfl
@[simp] theorem State.setSource_pwr (s : State) (n : Nat) (x : Source) : (s.setSource n x).pwr = s.pwr := by rfl
@[simp] theorem State.setSource_cmps (s : State) (n : Nat) (x : Source) : (s.setSource n x).cmps = s.cmps := by rfl
@[simp] theorem State.setSource_cores (s : State) (n : Nat) (x : Source) : (s.setSource n x).cores = s.cores := by rfl
@[simp] theorem State.setSource_steps (s : State) (n : Nat) (x : Source) : (s.setSource n x).steps = s.steps := by rfl
@[simp] theorem State.setSource_repair (s : State) (n : Nat) (x : Source) : (s.setSource n x).repair = s.repair := by rfl
@[simp] theorem State.setSource_img (s : State) (n : Nat) (x : Source) : (s.setSource n x).img = s.img := by rfl
@[simp] theorem State.setSource_ring (s : State) (n : Nat) (x : Source) : (s.setSource n x).ring = s.ring := by rfl
@[simp] theorem State.setSource_host (s : State) (n : Nat) (x : Source) : (s.setSource n x).host = s.host := by rfl
@[simp] theorem State.setSource_boot (s : State) (n : Nat) (x : Source) : (s.setSource n x).boot = s.boot := by rfl
@[simp] theorem State.setSource_hfShadows (s : State) (n : Nat) (x : Source) : (s.setSource n x).hfShadows = s.hfShadows := by rfl
@[simp] theorem State.setSource_tap (s : State) (n : Nat) (x : Source) : (s.setSource n x).tap = s.tap := by rfl

/-! ### The other updates of one field are `set` -/

@[simp] theorem State.raise_eq (s : State) (f : Fld) : s.raise f = s.set f 1 := rfl
@[simp] theorem State.clear_eq (s : State) (f : Fld) : s.clear f = s.set f 0 := rfl
@[simp] theorem State.setS_eq (s : State) (f : Fld) (i : Int) : s.setS f i = s.set f (ux f.w i) := rfl
@[simp] theorem State.addSat_eq (s : State) (f : Fld) (k : Nat) : s.addSat f k = s.set f (satU f.w (s.get f + k)) := rfl
@[simp] theorem State.inc_eq (s : State) (f : Fld) : s.inc f = s.set f (satU f.w (s.get f + 1)) := rfl
@[simp] theorem State.incWrap_eq (s : State) (f : Fld) : s.incWrap f = s.set f (s.get f + 1) := rfl
@[simp] theorem State.fault_eq (s : State) (p b : Nat) : s.fault p b = s.set (PG_FAULT_bit p b) 1 := rfl

/-! ### Entries read back -/

theorem State.chan_setChan (s : State) (n : Nat) (x : Chan) (h : n < 256) : (s.setChan n x).chan n = x := by
  rw [State.setChan, if_pos h]; exact SMap.get_put_self _ _ _ _
theorem State.chan_setChan_ne (s : State) {n k : Nat} (x : Chan) (h : k ≠ n) : (s.setChan n x).chan k = s.chan k := by
  unfold State.setChan; split
  · exact SMap.get_put_ne _ _ _ h
  · rfl
@[simp] theorem State.recal_setRecal (s : State) (n : Nat) (x : Recal) : (s.setRecal n x).recal n = x := SMap.get_put_self _ _ _ _
theorem State.recal_setRecal_ne (s : State) {n k : Nat} (x : Recal) (h : k ≠ n) : (s.setRecal n x).recal k = s.recal k := SMap.get_put_ne _ _ _ h
@[simp] theorem State.tbShadow_setTbShadow (s : State) (n : Nat) (x : TbShadow) : (s.setTbShadow n x).tbShadow n = x := SMap.get_put_self _ _ _ _
theorem State.tbShadow_setTbShadow_ne (s : State) {n k : Nat} (x : TbShadow) (h : k ≠ n) : (s.setTbShadow n x).tbShadow k = s.tbShadow k := SMap.get_put_ne _ _ _ h
@[simp] theorem State.cmp_setCmp (s : State) (n : Nat) (x : CmpX) : (s.setCmp n x).cmp n = x := SMap.get_put_self _ _ _ _
theorem State.cmp_setCmp_ne (s : State) {n k : Nat} (x : CmpX) (h : k ≠ n) : (s.setCmp n x).cmp k = s.cmp k := SMap.get_put_ne _ _ _ h
@[simp] theorem State.core_setCore (s : State) (n : Nat) (x : Core) : (s.setCore n x).core n = x := SMap.get_put_self _ _ _ _
theorem State.core_setCore_ne (s : State) {n k : Nat} (x : Core) (h : k ≠ n) : (s.setCore n x).core k = s.core k := SMap.get_put_ne _ _ _ h
@[simp] theorem State.lc_setLc (s : State) (n : Nat) (x : Lc) : (s.setLc n x).lc n = x := SMap.get_put_self _ _ _ _
theorem State.lc_setLc_ne (s : State) {n k : Nat} (x : Lc) (h : k ≠ n) : (s.setLc n x).lc k = s.lc k := SMap.get_put_ne _ _ _ h
@[simp] theorem State.lcShadow_setLcShadow (s : State) (n : Nat) (x : LcShadow) : (s.setLcShadow n x).lcShadow n = x := SMap.get_put_self _ _ _ _
theorem State.lcShadow_setLcShadow_ne (s : State) {n k : Nat} (x : LcShadow) (h : k ≠ n) : (s.setLcShadow n x).lcShadow k = s.lcShadow k := SMap.get_put_ne _ _ _ h
@[simp] theorem State.slot_setSlot (s : State) (n : Nat) (x : Slot) : (s.setSlot n x).slot n = x := SMap.get_put_self _ _ _ _
theorem State.slot_setSlot_ne (s : State) {n k : Nat} (x : Slot) (h : k ≠ n) : (s.setSlot n x).slot k = s.slot k := SMap.get_put_ne _ _ _ h
@[simp] theorem State.rule_setRule (s : State) (n : Nat) (x : RuleState) : (s.setRule n x).rule n = x := SMap.get_put_self _ _ _ _
theorem State.rule_setRule_ne (s : State) {n k : Nat} (x : RuleState) (h : k ≠ n) : (s.setRule n x).rule k = s.rule k := SMap.get_put_ne _ _ _ h
@[simp] theorem State.port_setPort (s : State) (n : Nat) (x : PortX) : (s.setPort n x).port n = x := SMap.get_put_self _ _ _ _
theorem State.port_setPort_ne (s : State) {n k : Nat} (x : PortX) (h : k ≠ n) : (s.setPort n x).port k = s.port k := SMap.get_put_ne _ _ _ h
@[simp] theorem State.ctx_setCtx (s : State) (n : Nat) (x : Ctx) : (s.setCtx n x).ctx n = x := SMap.get_put_self _ _ _ _
theorem State.ctx_setCtx_ne (s : State) {n k : Nat} (x : Ctx) (h : k ≠ n) : (s.setCtx n x).ctx k = s.ctx k := SMap.get_put_ne _ _ _ h
@[simp] theorem State.pg_setPg (s : State) (n : Nat) (x : Pg) : (s.setPg n x).pg n = x := SMap.get_put_self _ _ _ _
theorem State.pg_setPg_ne (s : State) {n k : Nat} (x : Pg) (h : k ≠ n) : (s.setPg n x).pg k = s.pg k := SMap.get_put_ne _ _ _ h
@[simp] theorem State.wm_setWm (s : State) (n : Nat) (x : Wm) : (s.setWm n x).wm n = x := SMap.get_put_self _ _ _ _
theorem State.wm_setWm_ne (s : State) {n k : Nat} (x : Wm) (h : k ≠ n) : (s.setWm n x).wm k = s.wm k := SMap.get_put_ne _ _ _ h
@[simp] theorem State.source_setSource (s : State) (n : Nat) (x : Source) : (s.setSource n x).source n = x := SMap.get_put_self _ _ _ _
theorem State.source_setSource_ne (s : State) {n k : Nat} (x : Source) (h : k ≠ n) : (s.setSource n x).source k = s.source k := SMap.get_put_ne _ _ _ h
@[simp] theorem State.target_putTarget (s : State) (n : Nat) (x : Target) : (s.putTarget n x).target n = x := SMap.get_put_self _ _ _ _
theorem State.target_putTarget_ne (s : State) {n k : Nat} (x : Target) (h : k ≠ n) : (s.putTarget n x).target k = s.target k := SMap.get_put_ne _ _ _ h

end Sys2Proof.Machine
end

