-- ==== Sys2Proof/Laws/Ops.lean ====
section
/-!
SUPPORT. Sys2Proof/Laws/Ops.lean: what the named operations do: a field reads back what was stored and every other field reads as before;
a stored byte reads back and every other byte reads as before; registers and memory keep their canonical form.
-/
namespace Sys2Proof.Machine

/-! ### Bit fields of a natural number -/

theorem bits_lt (n lo w : Nat) : bits n lo w < 2 ^ w := Nat.mod_lt _ (Nat.two_pow_pos w)

/-- A number by its three parts around a field. -/
theorem bits_split (n lo w : Nat) : n = n % 2 ^ lo + (bits n lo w) * 2 ^ lo + (n / 2 ^ lo / 2 ^ w) * (2 ^ lo * 2 ^ w) := by
  have h1 : 2 ^ lo * (n / 2 ^ lo) + n % 2 ^ lo = n := Nat.div_add_mod n (2 ^ lo)
  have h2 : 2 ^ w * (n / 2 ^ lo / 2 ^ w) + n / 2 ^ lo % 2 ^ w = n / 2 ^ lo := Nat.div_add_mod (n / 2 ^ lo) (2 ^ w)
  unfold bits
  calc n = 2 ^ lo * (2 ^ w * (n / 2 ^ lo / 2 ^ w) + n / 2 ^ lo % 2 ^ w) + n % 2 ^ lo := by rw [h2, h1]
    _ = _ := by grind

/-- The parts of a number after a field is replaced. -/
theorem putBits_split (n lo w v : Nat) :
    putBits n lo w v = n % 2 ^ lo + (v % 2 ^ w) * 2 ^ lo + (n / 2 ^ lo / 2 ^ w) * (2 ^ lo * 2 ^ w) := by
  have h := bits_split n lo w
  unfold putBits
  omega

theorem bits_of_parts (a b c lo w : Nat) (ha : a < 2 ^ lo) (hb : b < 2 ^ w) : bits (a + b * 2 ^ lo + c * (2 ^ lo * 2 ^ w)) lo w = b := by
  have e : a + b * 2 ^ lo + c * (2 ^ lo * 2 ^ w) = a + 2 ^ lo * (b + 2 ^ w * c) := by grind
  unfold bits
  rw [e, Nat.add_mul_div_left _ _ (Nat.two_pow_pos lo), Nat.div_eq_of_lt ha, Nat.zero_add, Nat.add_mul_mod_self_left, Nat.mod_eq_of_lt hb]

theorem bits_putBits_self (n lo w v : Nat) : bits (putBits n lo w v) lo w = v % 2 ^ w := by
  rw [putBits_split]
  exact bits_of_parts _ _ _ _ _ (Nat.mod_lt _ (Nat.two_pow_pos lo)) (Nat.mod_lt _ (Nat.two_pow_pos w))

theorem testBit_bits (n lo w i : Nat) : (bits n lo w).testBit i = (decide (i < w) && n.testBit (lo + i)) := by
  unfold bits
  rw [Nat.testBit_mod_two_pow, Nat.testBit_div_two_pow, Nat.add_comm]

/-- Bit by bit: a replaced field. -/
theorem testBit_putBits (n lo w v i : Nat) :
    (putBits n lo w v).testBit i = if lo ≤ i ∧ i < lo + w then v.testBit (i - lo) else n.testBit i := by
  have hn := bits_split n lo w
  have h1 : ∀ a b c : Nat, a < 2 ^ lo → b < 2 ^ w → (a + b * 2 ^ lo + c * (2 ^ lo * 2 ^ w)).testBit i =
      if i < lo then a.testBit i else if i < lo + w then b.testBit (i - lo) else c.testBit (i - lo - w) := by
    intro a b c ha hb
    have e : a + b * 2 ^ lo + c * (2 ^ lo * 2 ^ w) = 2 ^ lo * (2 ^ w * c + b) + a := by grind
    rw [e, Nat.testBit_two_pow_mul_add _ ha]
    split
    · rfl
    · rw [Nat.testBit_two_pow_mul_add _ hb]
      have : (i - lo < w) ↔ (i < lo + w) := by omega
      simp only [this]
  have ha : n % 2 ^ lo < 2 ^ lo := Nat.mod_lt _ (Nat.two_pow_pos lo)
  rw [putBits_split, h1 _ _ _ ha (Nat.mod_lt _ (Nat.two_pow_pos w))]
  have hr : n.testBit i = if i < lo then (n % 2 ^ lo).testBit i else if i < lo + w then (bits n lo w).testBit (i - lo)
      else (n / 2 ^ lo / 2 ^ w).testBit (i - lo - w) := by
    have q := h1 _ _ (n / 2 ^ lo / 2 ^ w) ha (bits_lt n lo w)
    rwa [← hn] at q
  rw [hr]
  by_cases c1 : i < lo
  · have : ¬ (lo ≤ i) := by omega
    simp [c1, this]
  · by_cases c2 : i < lo + w
    · have : lo ≤ i := by omega
      have c3 : i - lo < w := by omega
      simp [c1, c2, this, Nat.testBit_mod_two_pow, c3]
    · simp [c1, c2]

/-- A field that does not meet the replaced one is unchanged. -/
theorem bits_putBits_disjoint (n lo w v lo' w' : Nat) (h : lo + w ≤ lo' ∨ lo' + w' ≤ lo) :
    bits (putBits n lo w v) lo' w' = bits n lo' w' := by
  apply Nat.eq_of_testBit_eq
  intro i
  rw [testBit_bits, testBit_bits, testBit_putBits]
  by_cases c : i < w'
  · have : ¬ (lo ≤ lo' + i ∧ lo' + i < lo + w) := by omega
    simp [this]
  · simp [c]

theorem putBits_lt (n lo w v k : Nat) (hn : n < 2 ^ k) (hk : lo + w ≤ k) : putBits n lo w v < 2 ^ k := by
  apply Nat.lt_pow_two_of_testBit
  intro i hi
  rw [testBit_putBits]
  have : ¬ (lo ≤ i ∧ i < lo + w) := by omega
  simp only [this, if_false]
  exact Nat.testBit_lt_two_pow (Nat.lt_of_lt_of_le hn (Nat.pow_le_pow_right (by decide) hi))

/-! ### Registers -/

theorem State.word_setWord (s : State) (a b : Nat) (v : Word) : (s.setWord a v).word b = if b = a then v else s.word b :=
  SMap.get_put _ _ _ _ _

@[simp] theorem State.word_setWord_self (s : State) (a : Nat) (v : Word) : (s.setWord a v).word a = v := SMap.get_put_self _ _ _ _

theorem State.word_setWord_ne (s : State) {a b : Nat} (v : Word) (h : b ≠ a) : (s.setWord a v).word b = s.word b :=
  SMap.get_put_ne _ _ _ h

theorem State.word_set_ne (s : State) (f : Fld) (v : Nat) {b : Nat} (h : b ≠ f.addr) : (s.set f v).word b = s.word b :=
  SMap.get_put_ne _ _ _ h

theorem State.get_set_ne (s : State) (f g : Fld) (v : Nat) (h : g.addr ≠ f.addr) : (s.set f v).get g = s.get g := by
  unfold State.get
  rw [State.word_set_ne s f v h]

theorem State.word_set_self_toNat (s : State) (f : Fld) (v : Nat) (h : f.lo + f.w ≤ 32) :
    ((s.set f v).word f.addr).toNat = putBits (s.word f.addr).toNat f.lo f.w v := by
  unfold State.set
  rw [State.word_setWord_self]
  exact Nat.mod_eq_of_lt (putBits_lt _ _ _ _ 32 (s.word f.addr).isLt h)

/-- A field of a word reads back the low bits of what was stored. -/
theorem State.get_set_self (s : State) (f : Fld) (v : Nat) (h : f.lo + f.w ≤ 32) : (s.set f v).get f = v % 2 ^ f.w := by
  unfold State.get
  rw [State.word_set_self_toNat s f v h]
  exact bits_putBits_self _ _ _ _

/-- A field that shares no bit with the stored one reads as before. -/
theorem State.get_set_disjoint (s : State) (f g : Fld) (v : Nat) (hf : f.lo + f.w ≤ 32)
    (h : g.addr ≠ f.addr ∨ f.lo + f.w ≤ g.lo ∨ g.lo + g.w ≤ f.lo) : (s.set f v).get g = s.get g := by
  by_cases e : g.addr = f.addr
  · unfold State.get
    rw [e, State.word_set_self_toNat s f v hf]
    exact bits_putBits_disjoint _ _ _ _ _ _ (by rcases h with h | h | h <;> simp_all)
  · exact State.get_set_ne s f g v e

/-! ### Memory -/

theorem State.byte_setByte (s : State) (a b : Nat) (v : Byte) : (s.setByte a v).byte b = if b = a then v else s.byte b :=
  SMap.get_put _ _ _ _ _

@[simp] theorem State.byte_set (s : State) (f : Fld) (v b : Nat) : (s.set f v).byte b = s.byte b := rfl
@[simp] theorem State.byte_setWord (s : State) (a b : Nat) (v : Word) : (s.setWord a v).byte b = s.byte b := rfl
@[simp] theorem State.word_setByte (s : State) (a b : Nat) (v : Byte) : (s.setByte a v).word b = s.word b := rfl

/-- Bytes outside a store read as before. -/
theorem State.byte_store (s : State) (n : Nat) : ∀ (a v b : Nat), (b < a ∨ a + n ≤ b) → (s.store a n v).byte b = s.byte b := by
  induction n generalizing s with
  | zero => intros; rfl
  | succ n ih =>
    intro a v b h
    show ((s.setByte a (b8 (v % 256))).store (a + 1) n (v / 256)).byte b = s.byte b
    rw [ih (s.setByte a (b8 (v % 256))) (a + 1) (v / 256) b (by omega), State.byte_setByte]
    have : b ≠ a := by omega
    simp [this]

/-- A store changes nothing but memory. -/
theorem State.store_eq (s : State) (n : Nat) : ∀ (a v : Nat), s.store a n v = { s with mem := (s.store a n v).mem } := by
  induction n generalizing s with
  | zero => intros; rfl
  | succ n ih =>
    intro a v
    show (s.setByte a (b8 (v % 256))).store (a + 1) n (v / 256) = _
    rw [ih]
    rfl

@[simp] theorem State.store_regs (s : State) (a n v : Nat) : (s.store a n v).regs = s.regs := by rw [State.store_eq]
@[simp] theorem State.word_store (s : State) (a n v b : Nat) : (s.store a n v).word b = s.word b := by
  unfold State.word
  rw [State.store_regs]

/-- What was stored is loaded again. -/
theorem State.load_store (s : State) (n : Nat) : ∀ (a v : Nat), (s.store a n v).load a n = v % 256 ^ n := by
  induction n generalizing s with
  | zero => intros; simp [State.load, Nat.mod_one]
  | succ n ih =>
    intro a v
    show ((s.store a (n + 1) v).byte a).toNat + 256 * (s.store a (n + 1) v).load (a + 1) n = _
    have e : s.store a (n + 1) v = (s.setByte a (b8 (v % 256))).store (a + 1) n (v / 256) := rfl
    rw [e, ih, State.byte_store _ _ _ _ _ (by omega), State.byte_setByte]
    have : (b8 (v % 256)).toNat = v % 256 := by simp [b8]
    simp only [if_true, this]
    rw [Nat.pow_succ, Nat.mul_comm (256 ^ n) 256, Nat.mod_mul]

/-- A load from bytes that a store does not reach. -/
theorem State.load_store_outside (s : State) (n v b k : Nat) : ∀ a, (a + k ≤ b ∨ b + n ≤ a) → (s.store b n v).load a k = s.load a k := by
  induction k with
  | zero => intros; rfl
  | succ k ih =>
    intro a h
    show ((s.store b n v).byte a).toNat + 256 * (s.store b n v).load (a + 1) k = (s.byte a).toNat + 256 * s.load (a + 1) k
    rw [ih (a + 1) (by omega), State.byte_store _ _ _ _ _ (by omega)]

/-! ### The canonical form -/

theorem State.canon_iff (s : State) : s.canon = true ↔ SMap.wf regReset s.regs = true ∧ Memory.wf s.mem = true := by
  simp [State.canon]

theorem State.setWord_canon (s : State) (a : Nat) (v : Word) (h : s.canon = true) : (s.setWord a v).canon = true := by
  rw [State.canon_iff] at *
  exact ⟨SMap.wf_put _ _ _ _ h.1, h.2⟩

theorem State.set_canon (s : State) (f : Fld) (v : Nat) (h : s.canon = true) : (s.set f v).canon = true := State.setWord_canon _ _ _ h

theorem State.setByte_canon (s : State) (a : Nat) (v : Byte) (h : s.canon = true) : (s.setByte a v).canon = true := by
  rw [State.canon_iff] at *
  exact ⟨h.1, SMap.wf_put _ _ _ _ h.2⟩

theorem State.store_canon (s : State) (n : Nat) : ∀ (a v : Nat), s.canon = true → (s.store a n v).canon = true := by
  induction n generalizing s with
  | zero => intros; assumption
  | succ n ih =>
    intro a v h
    exact ih (s.setByte a (b8 (v % 256))) (a + 1) (v / 256) (State.setByte_canon s a _ h)

theorem State.clearMem_canon (s : State) (lo hi : Nat) (h : s.canon = true) : (s.clearMem lo hi).canon = true := by
  rw [State.canon_iff] at *
  exact ⟨h.1, SMap.wf_filter _ _ _ h.2⟩

/-- Every operation on memory keeps its canonical form. -/
theorem Memory.wf_setByte (s : State) (a : Nat) (v : Byte) (h : Memory.wf s.mem = true) : Memory.wf (s.setByte a v).mem = true :=
  SMap.wf_put _ _ _ _ h

theorem Memory.wf_store (s : State) (n : Nat) : ∀ (a v : Nat), Memory.wf s.mem = true → Memory.wf (s.store a n v).mem = true := by
  induction n generalizing s with
  | zero => intros; assumption
  | succ n ih =>
    intro a v h
    exact ih (s.setByte a (b8 (v % 256))) (a + 1) (v / 256) (Memory.wf_setByte s a _ h)

theorem Memory.wf_clearMem (s : State) (lo hi : Nat) (h : Memory.wf s.mem = true) : Memory.wf (s.clearMem lo hi).mem = true :=
  SMap.wf_filter _ _ _ h

end Sys2Proof.Machine
end

