-- ==== Sys2Proof/Laws/Events.lean ====
section
/-!
SUPPORT. Sys2Proof/Laws/Events.lean: everything that the operations shared by all blocks can do: raising and sampling an event source, a
record of the black box, a bit of PG_FAULT, and the commit of a command's effect.
-/
namespace Sys2Proof.Machine

/-! ### Raising and sampling a source -/

/-- `t` is `s` but for the hidden records of sources, the events that linked counters have heard, and the PEND and OUT word of source `n`; the
canonical form is kept. -/
def EventOnly (n : Nat) (s t : State) : Prop :=
  t = { s with regs := t.regs, pairs := t.pairs, sources := t.sources, lcs := t.lcs } ∧ (s.canon = true → t.canon = true) ∧
    ∀ a, a ≠ (EVC_SRC1_PEND n).addr → t.word a = s.word a

theorem EventOnly.refl (n : Nat) (s : State) : EventOnly n s s := ⟨rfl, id, fun _ _ => rfl⟩

theorem EventOnly.trans {n : Nat} {s t u : State} (h : EventOnly n s t) (k : EventOnly n t u) : EventOnly n s u := by
  refine ⟨?_, fun c => k.2.1 (h.2.1 c), fun a ha => (k.2.2 a ha).trans (h.2.2 a ha)⟩
  have h1 := h.1
  have k1 := k.1
  rw [h1] at k1
  exact k1

theorem EventOnly.setPair (n m t : Nat) (s : State) (p : Pair) : EventOnly n s (s.setPair m t p) :=
  ⟨rfl, fun c => by simpa [State.canon, State.setPair] using c, fun _ _ => rfl⟩

theorem EventOnly.setSource (n m : Nat) (s : State) (x : Source) : EventOnly n s (s.setSource m x) :=
  ⟨rfl, fun c => by simpa [State.canon, State.setSource] using c, fun _ _ => rfl⟩

theorem EventOnly.setLc (n m : Nat) (s : State) (x : Lc) : EventOnly n s (s.setLc m x) :=
  ⟨rfl, fun c => by simpa [State.canon, State.setLc] using c, fun _ _ => rfl⟩

theorem EventOnly.setPend (n t v : Nat) (s : State) : EventOnly n s (s.set (pendBit n t) v) :=
  ⟨rfl, fun c => State.set_canon _ _ _ c, fun _ ha => State.word_set_ne _ _ _ ha⟩

theorem pendEdge_only (n t : Nat) (s : State) : EventOnly n s (pendEdge n t s) := by
  unfold pendEdge
  split
  · exact .refl n s
  · split
    · dsimp only
      split <;> exact .setPair ..
    · exact (EventOnly.setPend n t 1 s).trans (.setPair ..)

theorem EventOnly.fold {n : Nat} (f : State → Nat → State) (h : ∀ s t, EventOnly n s (f s t)) (l : List Nat) (s : State) :
    EventOnly n s (l.foldl f s) := by
  induction l generalizing s with
  | nil => exact .refl n s
  | cons t l ih => exact (h s t).trans (ih _)

theorem assertEdge_only (n : Nat) (s : State) : EventOnly n s (assertEdge n s) := by
  unfold assertEdge
  split
  · exact .fold _ (fun s t => pendEdge_only n t s) _ _
  · exact .refl n s

/-- Linked counters that hear an event. -/
theorem lcHear_only (n src sel : Nat) (takes : Nat → Bool) (s : State) : EventOnly n s (lcHear src sel takes s) := by
  refine .fold _ (fun s m => ?_) _ _
  dsimp only
  split
  · exact .setLc ..
  · exact .refl n s

theorem setLatch_only (n : Nat) (s : State) : EventOnly n s (setLatch n s) := .setSource ..

theorem takeLatch_only (n : Nat) (s : State) : EventOnly n s (takeLatch n s) := by
  unfold takeLatch
  dsimp only
  split
  · exact .setSource ..
  · split <;> exact .setSource ..

theorem sourceAssertion_only (n : Nat) (s : State) : EventOnly n s (sourceAssertion n s) := by
  unfold sourceAssertion
  split
  · split
    · exact setLatch_only n s
    · exact .refl n s
  · exact (lcHear_only n 2 n _ s).trans (assertEdge_only n _)

/-- Raising pulse source `n` touches nothing but that source's own records and word. -/
theorem pulse_only (n : Nat) (s : State) : EventOnly n s (pulse n s) := by
  unfold pulse
  split
  · exact sourceAssertion_only n s
  · exact .refl n s

theorem pendLevel_only (n t : Nat) (s : State) : EventOnly n s (pendLevel n t s) := by
  unfold pendLevel
  split
  · split
    · exact .setPair ..
    · exact (EventOnly.setPend n t 1 s).trans (.setPair ..)
  · split
    · exact .setPend n t 0 s
    · exact .refl n s

/-- Sampling level source `n` touches nothing but that source's own records and word. -/
theorem sample_only (n : Nat) (s : State) : EventOnly n s (sample n s) := by
  unfold sample
  split
  · exact .refl n s
  · have h := EventOnly.setSource n n s { s.source n with level := sourceLevel s n }
    have k (b : Bool) (u v : State) (hu : EventOnly n s u) (hv : EventOnly n s v) : EventOnly n s (if b then u else v) := by
      split
      · exact hu
      · exact hv
    dsimp only
    split
    · split
      · exact k _ _ _ (h.trans (setLatch_only n _)) h
      · exact (k _ _ _ (h.trans (lcHear_only n 2 n _ _)) h).trans (.fold _ (fun s t => pendLevel_only n t s) _ _)
    · exact k _ _ _ (h.trans (sourceAssertion_only n _)) h

theorem pulse_canon (n : Nat) (s : State) (h : s.canon = true) : (pulse n s).canon = true := (pulse_only n s).2.1 h
theorem sample_canon (n : Nat) (s : State) (h : s.canon = true) : (sample n s).canon = true := (sample_only n s).2.1 h
theorem pulse_word (n a : Nat) (s : State) (h : a ≠ (EVC_SRC1_PEND n).addr) : (pulse n s).word a = s.word a := (pulse_only n s).2.2 a h
theorem sample_word (n a : Nat) (s : State) (h : a ≠ (EVC_SRC1_PEND n).addr) : (sample n s).word a = s.word a := (sample_only n s).2.2 a h
theorem pulse_eq (n : Nat) (s : State) :
    pulse n s = { s with regs := (pulse n s).regs, pairs := (pulse n s).pairs, sources := (pulse n s).sources, lcs := (pulse n s).lcs } := (pulse_only n s).1
theorem sample_eq (n : Nat) (s : State) :
    sample n s = { s with regs := (sample n s).regs, pairs := (sample n s).pairs, sources := (sample n s).sources, lcs := (sample n s).lcs } := (sample_only n s).1
@[simp] theorem pulse_mem (n : Nat) (s : State) : (pulse n s).mem = s.mem := by rw [pulse_eq]
@[simp] theorem sample_mem (n : Nat) (s : State) : (sample n s).mem = s.mem := by rw [sample_eq]
@[simp] theorem pulse_byte (n b : Nat) (s : State) : (pulse n s).byte b = s.byte b := by unfold State.byte; rw [pulse_mem]
@[simp] theorem sample_byte (n b : Nat) (s : State) : (sample n s).byte b = s.byte b := by unfold State.byte; rw [sample_mem]

/-! ### The black box -/

theorem setMemWord_canon (s : State) (a v : Nat) (h : s.canon = true) : (s.setMemWord a v).canon = true := State.store_canon s 4 a v h

/-- A record changes BBOX.STAT or BBOX.DROPPED, the 16 bytes at WR_IDX, and nothing else. -/
theorem bbRecord_only (code arg : Nat) (s : State) :
    bbRecord code arg s = { s with regs := (bbRecord code arg s).regs, mem := (bbRecord code arg s).mem } ∧
      (s.canon = true → (bbRecord code arg s).canon = true) := by
  unfold bbRecord
  split
  · dsimp only
    split
    · exact ⟨rfl, fun h => State.set_canon _ _ _ (State.set_canon _ _ _ h)⟩
    · exact ⟨rfl, fun h => State.set_canon _ _ _ h⟩
  · dsimp only
    refine ⟨?_, fun h => ?_⟩
    · split <;> simp only [State.setMemWord, State.store, State.set, State.raise, State.setWord, State.setByte]
    · have k := fun a1 v1 a2 v2 a3 v3 a4 v4 i => State.set_canon _ BBOX_STAT_WR_IDX i (setMemWord_canon _ a4 v4 (setMemWord_canon _ a3 v3
        (setMemWord_canon _ a2 v2 (setMemWord_canon s a1 v1 h))))
      split
      · exact State.set_canon _ _ _ (k _ _ _ _ _ _ _ _ _)
      · exact k _ _ _ _ _ _ _ _ _

theorem bbRecord_canon (code arg : Nat) (s : State) (h : s.canon = true) : (bbRecord code arg s).canon = true := (bbRecord_only code arg s).2 h

/-! ### Counters, faults, draws and the commit -/

theorem inc_canon (s : State) (f : Fld) (h : s.canon = true) : (s.inc f).canon = true := State.set_canon _ _ _ h
theorem fault_canon (s : State) (p b : Nat) (h : s.canon = true) : (s.fault p b).canon = true := State.set_canon _ _ _ h
theorem draw_canon (s : State) (h : s.canon = true) : s.draw.2.canon = true := by simpa [State.canon, State.draw] using h

/-- The commit of an effect keeps the canonical form, the queue and the part. -/
theorem done_next (s u : State) (h : u.canon = true) :
    ∃ t, done s u = .next t ∧ t.canon = true ∧ t.pending = s.pending ∧ t.variant = s.variant :=
  ⟨_, rfl, by simpa [State.canon] using h, rfl, rfl⟩

end Sys2Proof.Machine
end

