-- ==== Sys2Proof/WellFormed.lean ====
section
/-!
DEFINITION. Sys2Proof/WellFormed.lean: which operands a command can carry: a page, channel, port, core or field number within
the range the manual gives it, and a data operand within its width. A command that is not well formed is no command of
the hub; nothing outside can send it.
-/
namespace Sys2Proof

/-- Every datum of a list is a 32-bit word. -/
def wordsOk (l : List Nat) : Bool := l.all (fun w => decide (w < 2 ^ 32))

/-- Every datum of a list is a byte. -/
def bytesOk (l : List Nat) : Bool := l.all (fun b => decide (b < 256))

/-- The operands lie in the ranges of the command's own row. -/
def Instr.wf : Instr → Bool
  | .coldReset straps _ => decide (straps < 16)
  | .warmReset => true
  | .warmResetGo _ => true
  | .pageRestore p => decide (p < 96)
  | .softReset _ p => decide (p < 96)
  | .commit _ p _ => decide (p < 96)
  | .commitDone bad => decide (bad ≤ 4)
  | .commitCredit => true
  | .compactionDone => true
  | .eraseAll _ _ => true
  | .compact _ _ => true
  | .pgKeyWrite _ p _ => decide (p < 96)
  | .unlockExpire _ p => decide (p < 96)
  | .registerWrite _ a n _ => decide (a < 2 ^ 32) && decide (n = 1 ∨ n = 2 ∨ n = 4)
  | .aliasWrite _ a _ => decide (0x40000000 ≤ a) && decide (a < 0x40180000) && decide (a % 4 = 0) && decide (1 ≤ a / 0x1000 % 4 ∧ a / 0x1000 % 4 ≤ 2)
  | .readClear _ a n _ => decide (a < 2 ^ 32) && decide (n = 1 ∨ n = 2 ∨ n = 4)
  | .refOk => true
  | .vcoBand => true
  | .pllLock => true
  | .dividerRelease => true
  | .pllLockLost => true
  | .refLost => true
  | .refRestored => true
  | .xtalFail => true
  | .xtalMeas => true
  | .tbSnap _ => true
  | .tbNowLoRead _ => true
  | .tbNowHiRead _ => true
  | .ppsCapture edge => decide (edge.cap < 2 ^ 64)
  | .ppsMissing => true
  | .ppsCapLoRead _ => true
  | .ppsExpCommit _ _ => true
  | .tbLoad _ => true
  | .cmpMatch n => decide (n < 64)
  | .cmpAdvanceDone n => decide (n < 64)
  | .cmpCommit _ n _ => decide (n < 64)
  | .perCommit _ n _ => decide (n < 64)
  | .phaseCommit _ n _ => decide (n < 64)
  | .cmpArm _ n _ => decide (n < 64)
  | .cmpAlignDone n => decide (n < 64)
  | .lcCountEvent n _ => decide (n < 16)
  | .lcMatch n _ => decide (n < 16)
  | .lcOverflow n _ => decide (n < 16)
  | .lcLinkAction n => decide (n < 16)
  | .lcSnap _ _ => true
  | .lcCountRead _ n => decide (n < 16)
  | .lcCapRead _ n => decide (n < 16)
  | .overload n => decide (n < 64)
  | .openInput n => decide (n < 64)
  | .refFault r => decide (r < 6)
  | .vexcOc k => decide (k < 4)
  | .iexcCmpl j => decide (j < 8)
  | .pdmStuck t => decide (t < 32)
  | .hkGo _ _ => true
  | .hkEntryDone _ => true
  | .hkStale => true
  | .thermalTrip => true
  | .smStart _ k _ => decide (k < 4)
  | .smAbort _ k _ => decide (k < 4)
  | .smStateAdvance k => decide (k < 4)
  | .smFail k => decide (k < 4)
  | .comparatorChange n _ => decide (n < 16)
  | .firstEvaluation n _ => decide (n < 16)
  | .filteredEdge n _ => decide (n < 16)
  | .checkSwap _ n => decide (n < 16)
  | .checkZero _ n => decide (n < 16)
  | .checkHalf _ n => decide (n < 16)
  | .checkFull _ n => decide (n < 16)
  | .checkDone n _ _ => decide (n < 16)
  | .pgStart _ _ => true
  | .pgPeriodStart g => decide (g < 16)
  | .pgEdge g => decide (g < 16)
  | .trip g => decide (g < 16)
  | .blankEnd g => decide (g < 16)
  | .dutyTrip g => decide (g < 16)
  | .tripClear _ _ => true
  | .channelEnable _ c _ => decide (c < 256)
  | .admission c => decide (c < 256)
  | .channelDisable _ c _ => decide (c < 256)
  | .channelStopDone c => decide (c < 256)
  | .descriptorWrite _ c j _ => decide (c < 256) && decide (j < 16)
  | .groupSync _ k => decide (k < 64)
  | .channelOutput c _ _ _ => decide (c < 256)
  | .sampleArrival c _ stamp _ _ => decide (c < 256) && decide (stamp < 2 ^ 96)
  | .deadlineMiss c => decide (c < 256)
  | .dcsumUpdate b => decide (b < 16)
  | .swap _ _ => true
  | .fadeDone c => decide (c < 256)
  | .retune _ c => decide (c < 256)
  | .retuneSwitch c => decide (c < 256)
  | .hardyUpdate lane => decide (lane < 2)
  | .slotEnable _ n _ => decide (n < 512)
  | .slotConfigWrite _ n j _ => decide (n < 512) && decide (j < 7)
  | .hardySlotRead _ n => decide (n < 512)
  | .evaluationPoint => true
  | .ruleWrite _ r j _ => decide (r < 4096) && decide (j < 4)
  | .event => true
  | .lineSet => true
  | .lineClear => true
  | .pgStartAction => true
  | .burst => true
  | .burstEnd => true
  | .retuneAction => true
  | .flagSet => true
  | .flagClear => true
  | .charReceived p _ => decide (p < 24)
  | .nmeaSentence p _ => decide (p < 24)
  | .modbusFrameEnd p => decide (p < 24)
  | .i2cStretchTo p => decide (p < 24)
  | .sdiRespWait p => decide (p < 24)
  | .sdiGap p => decide (p < 24)
  | .pumpOk => true
  | .pumpFault => true
  | .spiAutoGo _ p _ => decide (p < 24)
  | .spiAutoStop _ p _ => decide (p < 24)
  | .spiAutoWord p _ => decide (p < 24)
  | .seqStart _ _ => true
  | .seqStop _ _ => true
  | .opEnd n => decide (n < 24)
  | .opSend n => decide (n < 24)
  | .sendDone n _ _ _ => decide (n < 24)
  | .opBreak n => decide (n < 24)
  | .breakDone n => decide (n < 24)
  | .opWait n => decide (n < 24)
  | .waitDone n => decide (n < 24)
  | .opRecv n => decide (n < 24)
  | .recvDone n _ _ _ => decide (n < 24)
  | .recvTimeout n => decide (n < 24)
  | .opMatch n => decide (n < 24)
  | .opParse n => decide (n < 24)
  | .opEmit n => decide (n < 24)
  | .opRetry n => decide (n < 24)
  | .opBr n => decide (n < 24)
  | .opAddr n => decide (n < 24)
  | .opAttend n => decide (n < 24)
  | .opSetv n => decide (n < 24)
  | .opSignal n => decide (n < 24)
  | .opCur n => decide (n < 24)
  | .opRaw n => decide (n < 24)
  | .attClear _ _ => true
  | .wrOpen _ _ => true
  | .wrData _ _ => true
  | .wrClose _ _ => true
  | .rdData _ _ => true
  | .skip _ => true
  | .mark _ q lane => decide (q < 512) && decide (lane < 4)
  | .rewind _ q lane => decide (q < 512) && decide (lane < 4)
  | .release _ q => decide (q < 512)
  | .flush _ q => decide (q < 512)
  | .cellTestDone c _ => decide (c < 32768)
  | .noticeRelease q => decide (q < 512)
  | .sourceAssert n => decide (n < 640)
  | .rearmExpire n t => decide (n < 640) && decide (t < 5)
  | .recordAppend t => decide (t < 5)
  | .take _ t => decide (t.target < 5)
  | .eoi _ t level => decide (t < 5) && decide (level < 16)
  | .stackReset _ t => decide (t < 5)
  | .sourceEntryWrite _ n _ => decide (n < 640)
  | .wakeLatch n => decide (n < 640)
  | .coreReset _ n _ => decide (n < 4)
  | .fence _ n _ => decide (n < 4)
  | .coreRun _ n _ => decide (n < 4)
  | .wdogKick _ n _ => decide (n < 4)
  | .wdogWarn n => decide (n < 4)
  | .wdogExpire n => decide (n < 4)
  | .eventException n => decide (n < 4)
  | .waitWake n => decide (n < 4)
  | .halt _ _ => true
  | .step _ _ => true
  | .regData _ _ _ => true
  | .extest => true
  | .samplePreload => true
  | .idcode => true
  | .dbgacc op a _ _ => decide (op < 4) && decide (a < 2 ^ 32)
  | .bypass ir => decide (ir < 32) && !(ir = 0 ∨ ir = 1 ∨ ir = 2 ∨ ir = 8)
  | .add n rd ra rb => decide (n < 4) && decide (rd < 16) && decide (ra < 16) && decide (rb < 16)
  | .adc n rd ra rb => decide (n < 4) && decide (rd < 16) && decide (ra < 16) && decide (rb < 16)
  | .sub n rd ra rb => decide (n < 4) && decide (rd < 16) && decide (ra < 16) && decide (rb < 16)
  | .sbc n rd ra rb => decide (n < 4) && decide (rd < 16) && decide (ra < 16) && decide (rb < 16)
  | .cmp n ra rb => decide (n < 4) && decide (ra < 16) && decide (rb < 16)
  | .neg n rd ra => decide (n < 4) && decide (rd < 16) && decide (ra < 16)
  | .andR n rd ra rb => decide (n < 4) && decide (rd < 16) && decide (ra < 16) && decide (rb < 16)
  | .orR n rd ra rb => decide (n < 4) && decide (rd < 16) && decide (ra < 16) && decide (rb < 16)
  | .xorR n rd ra rb => decide (n < 4) && decide (rd < 16) && decide (ra < 16) && decide (rb < 16)
  | .andnR n rd ra rb => decide (n < 4) && decide (rd < 16) && decide (ra < 16) && decide (rb < 16)
  | .notR n rd ra => decide (n < 4) && decide (rd < 16) && decide (ra < 16)
  | .tst n ra rb => decide (n < 4) && decide (ra < 16) && decide (rb < 16)
  | .mov n rd ra => decide (n < 4) && decide (rd < 16) && decide (ra < 16)
  | .lsl n rd ra rb => decide (n < 4) && decide (rd < 16) && decide (ra < 16) && decide (rb < 16)
  | .lsr n rd ra rb => decide (n < 4) && decide (rd < 16) && decide (ra < 16) && decide (rb < 16)
  | .asr n rd ra rb => decide (n < 4) && decide (rd < 16) && decide (ra < 16) && decide (rb < 16)
  | .ror n rd ra rb => decide (n < 4) && decide (rd < 16) && decide (ra < 16) && decide (rb < 16)
  | .mul n rd ra rb => decide (n < 4) && decide (rd < 16) && decide (ra < 16) && decide (rb < 16)
  | .mulhs n rd ra rb => decide (n < 4) && decide (rd < 16) && decide (ra < 16) && decide (rb < 16)
  | .mulhu n rd ra rb => decide (n < 4) && decide (rd < 16) && decide (ra < 16) && decide (rb < 16)
  | .divs n rd rr ra rb => decide (n < 4) && decide (rd < 16) && decide (rr < 16) && decide (ra < 16) && decide (rb < 16)
  | .divu n rd rr ra rb => decide (n < 4) && decide (rd < 16) && decide (rr < 16) && decide (ra < 16) && decide (rb < 16)
  | .sextb n rd ra => decide (n < 4) && decide (rd < 16) && decide (ra < 16)
  | .sexth n rd ra => decide (n < 4) && decide (rd < 16) && decide (ra < 16)
  | .zextb n rd ra => decide (n < 4) && decide (rd < 16) && decide (ra < 16)
  | .zexth n rd ra => decide (n < 4) && decide (rd < 16) && decide (ra < 16)
  | .clz n rd ra => decide (n < 4) && decide (rd < 16) && decide (ra < 16)
  | .addi n rd ra imm => decide (n < 4) && decide (rd < 16) && decide (ra < 16) && decide (imm < 2 ^ 18)
  | .andi n rd ra imm => decide (n < 4) && decide (rd < 16) && decide (ra < 16) && decide (imm < 2 ^ 18)
  | .ori n rd ra imm => decide (n < 4) && decide (rd < 16) && decide (ra < 16) && decide (imm < 2 ^ 18)
  | .xori n rd ra imm => decide (n < 4) && decide (rd < 16) && decide (ra < 16) && decide (imm < 2 ^ 18)
  | .cmpi n ra imm => decide (n < 4) && decide (ra < 16) && decide (imm < 2 ^ 18)
  | .lsli n rd ra k => decide (n < 4) && decide (rd < 16) && decide (ra < 16) && decide (k < 32)
  | .lsri n rd ra k => decide (n < 4) && decide (rd < 16) && decide (ra < 16) && decide (k < 32)
  | .asri n rd ra k => decide (n < 4) && decide (rd < 16) && decide (ra < 16) && decide (k < 32)
  | .rori n rd ra k => decide (n < 4) && decide (rd < 16) && decide (ra < 16) && decide (k < 32)
  | .movi n rd imm => decide (n < 4) && decide (rd < 16) && decide (imm < 2 ^ 18)
  | .movh n rd imm => decide (n < 4) && decide (rd < 16) && decide (imm < 2 ^ 16)
  | .adr n rd imm => decide (n < 4) && decide (rd < 16) && decide (imm < 2 ^ 18)
  | .ldb n rd ra imm _ => decide (n < 4) && decide (rd < 16) && decide (ra < 16) && decide (imm < 2 ^ 18)
  | .ldbu n rd ra imm _ => decide (n < 4) && decide (rd < 16) && decide (ra < 16) && decide (imm < 2 ^ 18)
  | .ldh n rd ra imm _ => decide (n < 4) && decide (rd < 16) && decide (ra < 16) && decide (imm < 2 ^ 18)
  | .ldhu n rd ra imm _ => decide (n < 4) && decide (rd < 16) && decide (ra < 16) && decide (imm < 2 ^ 18)
  | .ldw n rd ra imm _ => decide (n < 4) && decide (rd < 16) && decide (ra < 16) && decide (imm < 2 ^ 18)
  | .stb n rd ra imm => decide (n < 4) && decide (rd < 16) && decide (ra < 16) && decide (imm < 2 ^ 18)
  | .sth n rd ra imm => decide (n < 4) && decide (rd < 16) && decide (ra < 16) && decide (imm < 2 ^ 18)
  | .stw n rd ra imm => decide (n < 4) && decide (rd < 16) && decide (ra < 16) && decide (imm < 2 ^ 18)
  | .push n rd => decide (n < 4) && decide (rd < 16)
  | .pop n rd _ => decide (n < 4) && decide (rd < 16)
  | .swp n rd ra _ => decide (n < 4) && decide (rd < 16) && decide (ra < 16)
  | .branch n cond off => decide (n < 4) && decide (cond < 15) && decide (off < 2 ^ 22)
  | .call n off => decide (n < 4) && decide (off < 2 ^ 26)
  | .jr n ra => decide (n < 4) && decide (ra < 16)
  | .callr n ra => decide (n < 4) && decide (ra < 16)
  | .mfc n rd cr => decide (n < 4) && decide (rd < 16) && decide (cr < 16)
  | .mtc n cr ra => decide (n < 4) && decide (cr < 16) && decide (ra < 16)
  | .stset n imm => decide (n < 4) && decide (imm < 2 ^ 16)
  | .stclr n imm => decide (n < 4) && decide (imm < 2 ^ 16)
  | .syscall n imm => decide (n < 4) && decide (imm < 2 ^ 18)
  | .breakInstr n imm => decide (n < 4) && decide (imm < 2 ^ 18)
  | .eret n => decide (n < 4)
  | .waitInstr n => decide (n < 4)
  | .nop n => decide (n < 4)
  | .illegal n => decide (n < 4)
  | .movs n size _ => decide (n < 4) && decide (size < 3)
  | .fill n size rv => decide (n < 4) && decide (size < 3) && decide (rv < 16)
  | .scan n size rv _ => decide (n < 4) && decide (size < 3) && decide (rv < 16)
  | .cmps n size _ _ => decide (n < 4) && decide (size < 3)
  | .lds n size rv _ => decide (n < 4) && decide (size < 3) && decide (rv < 16) && (!(11 ≤ rv ∧ rv ≤ 13))
  | .sts n size rv => decide (n < 4) && decide (size < 3) && decide (rv < 16) && (!(11 ≤ rv ∧ rv ≤ 13))
  | .rep n o _ _ => decide (n < 4) && (o.ok)
  | .repz n o _ _ => decide (n < 4) && (o.ok)
  | .repnz n o _ _ => decide (n < 4) && (o.ok)
  | .illegalPrefix n => decide (n < 4)
  | .rdCmd a k _ _ => decide (a < 2 ^ 32) && decide (k < 16)
  | .wrCmd a k ws => decide (a < 2 ^ 32) && decide (k < 16) && decide (ws.length ≤ k + 1)
  | .status => true
  | .qrdW q _ _ => decide (q < 512)
  | .qrdP q _ _ _ => decide (q < 512)
  | .qwr _ len bs => decide (len < 2 ^ 16) && decide (bs.length ≤ len)
  | .rrd hub a k _ => decide (hub < 256) && decide (a < 2 ^ 32) && decide (k < 16)
  | .rwr hub a k ws => decide (hub < 256) && decide (a < 2 ^ 32) && decide (k < 16) && decide (ws.length ≤ k + 1)
  | .resetWidth => true
  | .badCmd c => decide (c < 256) && decide (hostCmdOf c = .bad)
  | .aborted c => decide (0 < (hostCmdOf c).args)
  | .hostSelect => true
  | .hostSleep _ => true
  | .remoteTimeout => true
  | .attnHoldoffEnd => true
  | .signalDetect p => decide (p < 2)
  | .alignDone p => decide (p < 2)
  | .trainDone p uid peer => decide (p < 2) && decide (uid < 2 ^ 64) && decide (peer < 2)
  | .heal p => decide (p < 2)
  | .linkDown p _ => decide (p < 2)
  | .frameError p _ => decide (p < 2)
  | .dataFrame p f => decide (p < 2) && (f.ok) && decide (f.body.type = 0)
  | .beacon p f tin res => decide (p < 2) && (f.ok) && decide (f.body.type = 1) && decide (tin < 2 ^ 80) && decide (res < 2 ^ 47)
  | .pdelayReq p f t2 t3 => decide (p < 2) && (f.ok) && decide (f.body.type = 2) && decide (t2 < 2 ^ 80) && decide (t3 < 2 ^ 80)
  | .pdelayResp p f t4 => decide (p < 2) && (f.ok) && decide (f.body.type = 3) && decide (t4 < 2 ^ 80)
  | .enumJoin p f => decide (p < 2) && (f.ok) && decide (f.body.type = 4)
  | .grant p f => decide (p < 2) && (f.ok) && decide (f.body.type = 4)
  | .hello p f => decide (p < 2) && (f.ok) && decide (f.body.type = 4)
  | .refuse p f => decide (p < 2) && (f.ok) && decide (f.body.type = 4)
  | .regReq p f _ => decide (p < 2) && (f.ok) && decide (f.body.type = 5)
  | .regResp p f => decide (p < 2) && (f.ok) && decide (f.body.type = 6)
  | .ackFrame p f => decide (p < 2) && (f.ok) && decide (f.body.type = 7)
  | .ringGrantWrite _ _ => true
  | .beaconSend tE tW => decide (tE < 2 ^ 80) && decide (tW < 2 ^ 80)
  | .pdelayReqSend p t1 => decide (p < 2) && decide (t1 < 2 ^ 80)
  | .joinSend => true
  | .helloSend => true
  | .memberAbsent n => decide (n < 64)
  | .numberHoldExpire n => decide (n < 64)
  | .beaconMiss => true
  | .headTakeover => true
  | .dataFrameSend p _ => decide (p < 2)
  | .ackSend q => decide (q < 512)
  | .retryTimeout q => decide (q < 512)
  | .rxGap q => decide (q < 512)
  | .pwrReqRun _ => true
  | .pwrReqWatch _ => true
  | .pwrReqDoze _ => true
  | .pwrReqOffKeep _ => true
  | .pointOfNoReturn => true
  | .commitWait => true
  | .entryDone => true
  | .wake => true
  | .exitDone => true
  | .brownout rails vaon => decide (rails < 16) && decide (vaon < 2 ^ 16)
  | .vaonPowerOn => true
  | .imgErase _ _ => true
  | .loadData _ _ => true
  | .verify _ _ => true
  | .imgDone _ _ => true
  | .imgSwap _ _ => true
  | .confirm _ _ => true
  | .trialExpire => true
  | .bootCheck _ _ _ _ => true
  | .residue x => decide (x < 3)
  | .kat x _ => decide (x < 3)
  | .eccUncorr c => decide (c < 256)
  | .auditMismatch c _ _ _ => decide (c < 256)
  | .failoverDone _ => true
  | .sliceTest _ x _ => decide (x < 3)
  | .selfTestDone x _ => decide (x < 3)
  | .unfence _ x _ => decide (x < 3)
  | .drain _ x _ => decide (x < 3)
  | .drainDone => true
  | .freeze _ => true
  | .copyDone => true
  | .bbRelease _ => true
  | .eraseCopy _ => true
  | .eraseCopyDone => true
  | .swCode _ _ => true
  | .bboxSlotRead _ slot => decide (slot < 2048)
  | .xtalOk => true
  | .referenceReturns r => decide (r < 6)
  | .undefinedOpcode n _ => decide (n < 24)
  | .fetchError n _ => decide (n < 4)
  | .resetRises straps _ => decide (straps < 16)
  | .eraseAllDone => true
  | .loadWordProgrammed => true

end Sys2Proof
end

