-- ==== Sys2Proof/Tests/Slice0.lean ====
section
/-!
SUPPORT. Sys2Proof/Tests/Slice0.lean: small tests of the model, and a state and operands that meet the hypotheses of each statement.
-/
open Sys2Proof Sys2Proof.Machine Sys2Proof.Claims

namespace Sys2Proof.Tests

set_option Elab.async false

/-! ### Operands in and out of range -/

/-- Commands of chapter 03 with one operand out of its range, at the first value beyond it: each is refused. -/
theorem test_wf_refuses_03 : (
    [.ppsCapture ⟨false, 2 ^ 64, 0⟩] : List Instr).all (fun x => !Instr.wf x) = true := by decide

/-- Commands of chapter 03/20 with one operand out of its range, at the first value beyond it: each is refused. -/
theorem test_wf_refuses_03_20 : (
    [.coldReset 16 false, .resetRises 16 false, .brownout 16 0, .brownout 0 (2 ^ 16)] : List Instr).all (fun x => !Instr.wf x) = true := by decide

/-- Commands of chapter 04 with one operand out of its range, at the first value beyond it: each is refused. -/
theorem test_wf_refuses_04 : (
    [.lcCountEvent 16 {}, .lcMatch 16 {}, .lcOverflow 16 {}, .lcLinkAction 16, .lcCountRead .host 16, .lcCapRead .host 16, .cmpMatch 64,
     .cmpAdvanceDone 64, .cmpCommit .host 64 0, .perCommit .host 64 0, .phaseCommit .host 64 0, .cmpArm .host 64 0, .cmpAlignDone 64] : List Instr).all (fun x => !Instr.wf x) = true := by decide

/-- Commands of chapter 05 with one operand out of its range, at the first value beyond it: each is refused. -/
theorem test_wf_refuses_05 : (
    [.overload 64, .openInput 64, .refFault 6, .referenceReturns 6, .vexcOc 4, .iexcCmpl 8, .pdmStuck 32, .smStart .host 4 0, .smAbort .host 4 0,
     .smStateAdvance 4, .smFail 4] : List Instr).all (fun x => !Instr.wf x) = true := by decide

/-- Commands of chapter 06 with one operand out of its range, at the first value beyond it: each is refused. -/
theorem test_wf_refuses_06 : (
    [.comparatorChange 16 0, .firstEvaluation 16 0, .filteredEdge 16 0, .checkSwap .host 16, .checkZero .host 16, .checkHalf .host 16,
     .checkFull .host 16, .checkDone 16 ⟨false, false, false, false⟩ ⟨false, false, false, false⟩, .pgPeriodStart 16, .pgEdge 16, .trip 16,
     .blankEnd 16, .dutyTrip 16] : List Instr).all (fun x => !Instr.wf x) = true := by decide

/-- Commands of chapter 07 with one operand out of its range, at the first value beyond it: each is refused. -/
theorem test_wf_refuses_07 : (
    [.admission 256, .channelStopDone 256, .channelOutput 256 {} [] [], .sampleArrival 256 0 0 false {}, .sampleArrival 0 0 (2 ^ 96) false {},
     .deadlineMiss 256, .dcsumUpdate 16, .fadeDone 256, .retuneSwitch 256, .channelEnable .host 256 0, .channelDisable .host 256 0,
     .descriptorWrite .host 256 0 0, .descriptorWrite .host 0 16 0, .groupSync .host 64, .retune .host 256] : List Instr).all (fun x => !Instr.wf x) = true := by decide

/-- Commands of chapter 09 with one operand out of its range, at the first value beyond it: each is refused. -/
theorem test_wf_refuses_09 : (
    [.charReceived 24 ⟨0, false, true, true, false, 0⟩, .nmeaSentence 24 ⟨0, false, true, true, false, 0⟩, .modbusFrameEnd 24, .i2cStretchTo 24,
     .sdiRespWait 24, .sdiGap 24, .spiAutoGo .host 24 0, .spiAutoStop .host 24 0, .spiAutoWord 24 0] : List Instr).all (fun x => !Instr.wf x) = true := by decide

/-- Commands of chapter 10 with one operand out of its range, at the first value beyond it: each is refused. -/
theorem test_wf_refuses_10 : (
    [.opEnd 24, .opSend 24, .sendDone 24 0 .ok [], .opBreak 24, .breakDone 24, .opWait 24, .waitDone 24, .opRecv 24, .recvDone 24 0 .ok [],
     .recvTimeout 24, .opMatch 24, .opParse 24, .opEmit 24, .opRetry 24, .opBr 24, .opAddr 24, .opAttend 24, .opSetv 24, .opSignal 24, .opCur 24,
     .opRaw 24, .undefinedOpcode 24 false] : List Instr).all (fun x => !Instr.wf x) = true := by decide

/-- Commands of chapter 11 with one operand out of its range, at the first value beyond it: each is refused. -/
theorem test_wf_refuses_11 : (
    [.hardyUpdate 2, .slotEnable .host 512 0, .slotConfigWrite .host 512 0 0, .slotConfigWrite .host 0 7 0, .hardySlotRead .host 512] : List Instr).all (fun x => !Instr.wf x) = true := by decide

/-- Commands of chapter 12 with one operand out of its range, at the first value beyond it: each is refused. -/
theorem test_wf_refuses_12 : (
    [.ruleWrite .host 4096 0 0, .ruleWrite .host 0 4 0] : List Instr).all (fun x => !Instr.wf x) = true := by decide

/-- Commands of chapter 13 with one operand out of its range, at the first value beyond it: each is refused. -/
theorem test_wf_refuses_13 : (
    [.mark .host 512 0, .mark .host 0 4, .rewind .host 512 0, .rewind .host 0 4, .release .host 512, .flush .host 512, .cellTestDone 32768 false,
     .noticeRelease 512] : List Instr).all (fun x => !Instr.wf x) = true := by decide

/-- Commands of chapter 14 with one operand out of its range, at the first value beyond it: each is refused. -/
theorem test_wf_refuses_14 : (
    [.sourceAssert 640, .rearmExpire 640 0, .rearmExpire 0 5, .recordAppend 5, .take .host ⟨5, {}⟩, .eoi .host 5 0, .eoi .host 0 16, .stackReset .host 5,
     .sourceEntryWrite .host 640 0, .wakeLatch 640] : List Instr).all (fun x => !Instr.wf x) = true := by decide

/-- Commands of chapter 15 with one operand out of its range, at the first value beyond it: each is refused. -/
theorem test_wf_refuses_15 : (
    [.coreReset .host 4 0, .fence .host 4 0, .coreRun .host 4 0, .wdogKick .host 4 0, .wdogWarn 4, .wdogExpire 4, .eventException 4, .waitWake 4,
     .fetchError 4 {}] : List Instr).all (fun x => !Instr.wf x) = true := by decide

/-- Commands of chapter 16/02/TAP with one operand out of its range, at the first value beyond it: each is refused. -/
theorem test_wf_refuses_16_02_TAP_1 : (
    [.add 4 0 0 0, .add 0 16 0 0, .add 0 0 16 0, .add 0 0 0 16, .adc 4 0 0 0, .adc 0 16 0 0, .adc 0 0 16 0, .adc 0 0 0 16, .sub 4 0 0 0,
     .sub 0 16 0 0, .sub 0 0 16 0, .sub 0 0 0 16, .sbc 4 0 0 0, .sbc 0 16 0 0, .sbc 0 0 16 0, .sbc 0 0 0 16, .cmp 4 0 0, .cmp 0 16 0, .cmp 0 0 16,
     .neg 4 0 0, .neg 0 16 0, .neg 0 0 16, .andR 4 0 0 0, .andR 0 16 0 0, .andR 0 0 16 0, .andR 0 0 0 16, .orR 4 0 0 0, .orR 0 16 0 0, .orR 0 0 16 0,
     .orR 0 0 0 16, .xorR 4 0 0 0, .xorR 0 16 0 0, .xorR 0 0 16 0, .xorR 0 0 0 16, .andnR 4 0 0 0, .andnR 0 16 0 0, .andnR 0 0 16 0, .andnR 0 0 0 16,
     .notR 4 0 0, .notR 0 16 0, .notR 0 0 16, .tst 4 0 0, .tst 0 16 0, .tst 0 0 16, .mov 4 0 0, .mov 0 16 0, .mov 0 0 16, .lsl 4 0 0 0,
     .lsl 0 16 0 0, .lsl 0 0 16 0, .lsl 0 0 0 16, .lsr 4 0 0 0, .lsr 0 16 0 0, .lsr 0 0 16 0, .lsr 0 0 0 16, .asr 4 0 0 0, .asr 0 16 0 0,
     .asr 0 0 16 0, .asr 0 0 0 16, .ror 4 0 0 0] : List Instr).all (fun x => !Instr.wf x) = true := by decide

/-- Commands of chapter 16/02/TAP with one operand out of its range, at the first value beyond it: each is refused. -/
theorem test_wf_refuses_16_02_TAP_2 : (
    [.ror 0 16 0 0, .ror 0 0 16 0, .ror 0 0 0 16, .mul 4 0 0 0, .mul 0 16 0 0, .mul 0 0 16 0, .mul 0 0 0 16, .mulhs 4 0 0 0, .mulhs 0 16 0 0,
     .mulhs 0 0 16 0, .mulhs 0 0 0 16, .mulhu 4 0 0 0, .mulhu 0 16 0 0, .mulhu 0 0 16 0, .mulhu 0 0 0 16, .divs 4 0 0 0 0, .divs 0 16 0 0 0,
     .divs 0 0 16 0 0, .divs 0 0 0 16 0, .divs 0 0 0 0 16, .divu 4 0 0 0 0, .divu 0 16 0 0 0, .divu 0 0 16 0 0, .divu 0 0 0 16 0, .divu 0 0 0 0 16,
     .sextb 4 0 0, .sextb 0 16 0, .sextb 0 0 16, .sexth 4 0 0, .sexth 0 16 0, .sexth 0 0 16, .zextb 4 0 0, .zextb 0 16 0, .zextb 0 0 16,
     .zexth 4 0 0, .zexth 0 16 0, .zexth 0 0 16, .clz 4 0 0, .clz 0 16 0, .clz 0 0 16, .addi 4 0 0 0, .addi 0 16 0 0, .addi 0 0 16 0,
     .addi 0 0 0 (2 ^ 18), .andi 4 0 0 0, .andi 0 16 0 0, .andi 0 0 16 0, .andi 0 0 0 (2 ^ 18), .ori 4 0 0 0, .ori 0 16 0 0, .ori 0 0 16 0,
     .ori 0 0 0 (2 ^ 18), .xori 4 0 0 0, .xori 0 16 0 0, .xori 0 0 16 0, .xori 0 0 0 (2 ^ 18), .cmpi 4 0 0, .cmpi 0 16 0, .cmpi 0 0 (2 ^ 18),
     .lsli 4 0 0 0] : List Instr).all (fun x => !Instr.wf x) = true := by decide

/-- Commands of chapter 16/02/TAP with one operand out of its range, at the first value beyond it: each is refused. -/
theorem test_wf_refuses_16_02_TAP_3 : (
    [.lsli 0 16 0 0, .lsli 0 0 16 0, .lsli 0 0 0 32, .lsri 4 0 0 0, .lsri 0 16 0 0, .lsri 0 0 16 0, .lsri 0 0 0 32, .asri 4 0 0 0, .asri 0 16 0 0,
     .asri 0 0 16 0, .asri 0 0 0 32, .rori 4 0 0 0, .rori 0 16 0 0, .rori 0 0 16 0, .rori 0 0 0 32, .movi 4 0 0, .movi 0 16 0, .movi 0 0 (2 ^ 18),
     .movh 4 0 0, .movh 0 16 0, .movh 0 0 (2 ^ 16), .adr 4 0 0, .adr 0 16 0, .adr 0 0 (2 ^ 18), .ldb 4 0 0 0 {}, .ldb 0 16 0 0 {}, .ldb 0 0 16 0 {},
     .ldb 0 0 0 (2 ^ 18) {}, .ldbu 4 0 0 0 {}, .ldbu 0 16 0 0 {}, .ldbu 0 0 16 0 {}, .ldbu 0 0 0 (2 ^ 18) {}, .ldh 4 0 0 0 {}, .ldh 0 16 0 0 {},
     .ldh 0 0 16 0 {}, .ldh 0 0 0 (2 ^ 18) {}, .ldhu 4 0 0 0 {}, .ldhu 0 16 0 0 {}, .ldhu 0 0 16 0 {}, .ldhu 0 0 0 (2 ^ 18) {}, .ldw 4 0 0 0 {},
     .ldw 0 16 0 0 {}, .ldw 0 0 16 0 {}, .ldw 0 0 0 (2 ^ 18) {}, .stb 4 0 0 0, .stb 0 16 0 0, .stb 0 0 16 0, .stb 0 0 0 (2 ^ 18), .sth 4 0 0 0,
     .sth 0 16 0 0, .sth 0 0 16 0, .sth 0 0 0 (2 ^ 18), .stw 4 0 0 0, .stw 0 16 0 0, .stw 0 0 16 0, .stw 0 0 0 (2 ^ 18), .push 4 0, .push 0 16,
     .pop 4 0 {}, .pop 0 16 {}] : List Instr).all (fun x => !Instr.wf x) = true := by decide

/-- Commands of chapter 16/02/TAP with one operand out of its range, at the first value beyond it: each is refused. -/
theorem test_wf_refuses_16_02_TAP_4 : (
    [.swp 4 0 0 {}, .swp 0 16 0 {}, .swp 0 0 16 {}, .branch 4 0 0, .branch 0 15 0, .branch 0 0 (2 ^ 22), .call 4 0, .call 0 (2 ^ 26), .jr 4 0,
     .jr 0 16, .callr 4 0, .callr 0 16, .mfc 4 0 0, .mfc 0 16 0, .mfc 0 0 16, .mtc 4 0 0, .mtc 0 16 0, .mtc 0 0 16, .stset 4 0, .stset 0 (2 ^ 16),
     .stclr 4 0, .stclr 0 (2 ^ 16), .syscall 4 0, .syscall 0 (2 ^ 18), .breakInstr 4 0, .breakInstr 0 (2 ^ 18), .eret 4, .waitInstr 4, .nop 4,
     .illegal 4, .movs 4 0 {}, .movs 0 3 {}, .fill 4 0 0, .fill 0 3 0, .fill 0 0 16, .scan 4 0 0 {}, .scan 0 3 0 {}, .scan 0 0 16 {},
     .cmps 4 0 {} {}, .cmps 0 3 {} {}, .lds 4 0 0 {}, .lds 0 3 0 {}, .lds 0 0 16 {}, .lds 0 0 11 {}, .lds 0 0 13 {}, .sts 4 0 0, .sts 0 3 0,
     .sts 0 0 16, .sts 0 0 11, .sts 0 0 13, .rep 4 ⟨0, 0, 0⟩ {} {}, .rep 0 ⟨6, 0, 0⟩ {} {}, .rep 0 ⟨1, 3, 0⟩ {} {}, .rep 0 ⟨1, 0, 16⟩ {} {},
     .rep 0 ⟨0, 0, 1⟩ {} {}, .rep 0 ⟨3, 0, 1⟩ {} {}, .rep 0 ⟨4, 0, 11⟩ {} {}, .rep 0 ⟨5, 0, 13⟩ {} {}, .repz 4 ⟨0, 0, 0⟩ {} {},
     .repz 0 ⟨6, 0, 0⟩ {} {}] : List Instr).all (fun x => !Instr.wf x) = true := by decide

/-- Commands of chapter 16/02/TAP with one operand out of its range, at the first value beyond it: each is refused. -/
theorem test_wf_refuses_16_02_TAP_5 : (
    [.repz 0 ⟨1, 3, 0⟩ {} {}, .repz 0 ⟨1, 0, 16⟩ {} {}, .repz 0 ⟨0, 0, 1⟩ {} {}, .repz 0 ⟨3, 0, 1⟩ {} {}, .repz 0 ⟨4, 0, 11⟩ {} {},
     .repz 0 ⟨5, 0, 13⟩ {} {}, .repnz 4 ⟨0, 0, 0⟩ {} {}, .repnz 0 ⟨6, 0, 0⟩ {} {}, .repnz 0 ⟨1, 3, 0⟩ {} {}, .repnz 0 ⟨1, 0, 16⟩ {} {},
     .repnz 0 ⟨0, 0, 1⟩ {} {}, .repnz 0 ⟨3, 0, 1⟩ {} {}, .repnz 0 ⟨4, 0, 11⟩ {} {}, .repnz 0 ⟨5, 0, 13⟩ {} {}, .illegalPrefix 4, .softReset .host 96,
     .pgKeyWrite .host 96 0, .unlockExpire .host 96, .registerWrite .host (2 ^ 32) 4 0, .registerWrite .host 0 0 0, .registerWrite .host 0 3 0,
     .registerWrite .host 0 8 0, .aliasWrite .host 0x40180000 0, .aliasWrite .host 0x3FFFF040 0, .aliasWrite .host 0x40180040 0,
     .aliasWrite .host 0x40001042 0, .aliasWrite .host 0x40000040 0, .aliasWrite .host 0x40003040 0, .readClear .host (2 ^ 32) 4 {},
     .readClear .host 0 0 {}, .readClear .host 0 3 {}, .readClear .host 0 8 {}, .pageRestore 96, .dbgacc 4 0 0 {}, .dbgacc 0 (2 ^ 32) 0 {},
     .bypass 32, .bypass 0, .bypass 1, .bypass 2, .bypass 8] : List Instr).all (fun x => !Instr.wf x) = true := by decide

/-- Commands of chapter 17 with one operand out of its range, at the first value beyond it: each is refused. -/
theorem test_wf_refuses_17 : (
    [.rdCmd (2 ^ 32) 0 false [], .rdCmd 0 16 false [], .wrCmd (2 ^ 32) 0 [], .wrCmd 0 16 [], .wrCmd 0 0 [0, 0], .qrdW 512 false [],
     .qrdP 512 false [] false, .qwr 0 (2 ^ 16) [], .qwr 0 0 [0], .rrd 256 0 0 [], .rrd 0 (2 ^ 32) 0 [], .rrd 0 0 16 [], .rwr 256 0 0 [],
     .rwr 0 (2 ^ 32) 0 [], .rwr 0 0 16 [], .rwr 0 0 0 [0, 0], .badCmd 256, .badCmd 0x01, .badCmd 0xFF, .aborted 0x05, .aborted 0xFF, .aborted 0] : List Instr).all (fun x => !Instr.wf x) = true := by decide

/-- Commands of chapter 18 with one operand out of its range, at the first value beyond it: each is refused. -/
theorem test_wf_refuses_18 : (
    [.signalDetect 2, .alignDone 2, .trainDone 2 0 0, .trainDone 0 (2 ^ 64) 0, .trainDone 0 0 2, .heal 2, .linkDown 2 0, .frameError 2 false,
     .dataFrame 2 { dst := 0, src := 0, seq := 0, body := .data ⟨true, true, false, false, false, false, 0, 0, 4, [0]⟩ },
     .dataFrame 0 { dst := 0, src := 256, seq := 0, body := .data ⟨true, true, false, false, false, false, 0, 0, 4, [0]⟩ },
     .dataFrame 0 { dst := 0, src := 0, seq := 0, body := .beacon ⟨0, 0, 0, 0, 0, 0, 0, 0⟩ },
     .beacon 2 { dst := 0, src := 0, seq := 0, body := .beacon ⟨0, 0, 0, 0, 0, 0, 0, 0⟩ } 0 0,
     .beacon 0 { dst := 0, src := 256, seq := 0, body := .beacon ⟨0, 0, 0, 0, 0, 0, 0, 0⟩ } 0 0,
     .beacon 0 { dst := 0, src := 0, seq := 0, body := .pdelayReq } 0 0,
     .beacon 0 { dst := 0, src := 0, seq := 0, body := .beacon ⟨0, 0, 0, 0, 0, 0, 0, 0⟩ } (2 ^ 80) 0,
     .beacon 0 { dst := 0, src := 0, seq := 0, body := .beacon ⟨0, 0, 0, 0, 0, 0, 0, 0⟩ } 0 (2 ^ 47),
     .pdelayReq 2 { dst := 0, src := 0, seq := 0, body := .pdelayReq } 0 0, .pdelayReq 0 { dst := 0, src := 256, seq := 0, body := .pdelayReq } 0 0,
     .pdelayReq 0 { dst := 0, src := 0, seq := 0, body := .pdelayResp 0 0 } 0 0,
     .pdelayReq 0 { dst := 0, src := 0, seq := 0, body := .pdelayReq } (2 ^ 80) 0,
     .pdelayReq 0 { dst := 0, src := 0, seq := 0, body := .pdelayReq } 0 (2 ^ 80),
     .pdelayResp 2 { dst := 0, src := 0, seq := 0, body := .pdelayResp 0 0 } 0,
     .pdelayResp 0 { dst := 0, src := 256, seq := 0, body := .pdelayResp 0 0 } 0,
     .pdelayResp 0 { dst := 0, src := 0, seq := 0, body := .enum ⟨0, 0, none, 0, 0, 0⟩ } 0,
     .pdelayResp 0 { dst := 0, src := 0, seq := 0, body := .pdelayResp 0 0 } (2 ^ 80),
     .enumJoin 2 { dst := 0, src := 0, seq := 0, body := .enum ⟨0, 0, none, 0, 0, 0⟩ },
     .enumJoin 0 { dst := 0, src := 256, seq := 0, body := .enum ⟨0, 0, none, 0, 0, 0⟩ },
     .enumJoin 0 { dst := 0, src := 0, seq := 0, body := .regReq false 0 1 0 [] },
     .grant 2 { dst := 0, src := 0, seq := 0, body := .enum ⟨0, 0, none, 0, 0, 0⟩ },
     .grant 0 { dst := 0, src := 256, seq := 0, body := .enum ⟨0, 0, none, 0, 0, 0⟩ },
     .grant 0 { dst := 0, src := 0, seq := 0, body := .regReq false 0 1 0 [] },
     .hello 2 { dst := 0, src := 0, seq := 0, body := .enum ⟨0, 0, none, 0, 0, 0⟩ },
     .hello 0 { dst := 0, src := 256, seq := 0, body := .enum ⟨0, 0, none, 0, 0, 0⟩ },
     .hello 0 { dst := 0, src := 0, seq := 0, body := .regReq false 0 1 0 [] },
     .refuse 2 { dst := 0, src := 0, seq := 0, body := .enum ⟨0, 0, none, 0, 0, 0⟩ },
     .refuse 0 { dst := 0, src := 256, seq := 0, body := .enum ⟨0, 0, none, 0, 0, 0⟩ },
     .refuse 0 { dst := 0, src := 0, seq := 0, body := .regReq false 0 1 0 [] },
     .regReq 2 { dst := 0, src := 0, seq := 0, body := .regReq false 0 1 0 [] } [],
     .regReq 0 { dst := 0, src := 256, seq := 0, body := .regReq false 0 1 0 [] } [],
     .regReq 0 { dst := 0, src := 0, seq := 0, body := .regResp 0 [0, 0, 0, 0, 0, 0, 0, 0, 0, 0, 0, 0, 0, 0, 0, 0] [] } [],
     .regResp 2 { dst := 0, src := 0, seq := 0, body := .regResp 0 [0, 0, 0, 0, 0, 0, 0, 0, 0, 0, 0, 0, 0, 0, 0, 0] [] },
     .regResp 0 { dst := 0, src := 256, seq := 0, body := .regResp 0 [0, 0, 0, 0, 0, 0, 0, 0, 0, 0, 0, 0, 0, 0, 0, 0] [] },
     .regResp 0 { dst := 0, src := 0, seq := 0, body := .ack 0 }, .ackFrame 2 { dst := 0, src := 0, seq := 0, body := .ack 0 },
     .ackFrame 0 { dst := 0, src := 256, seq := 0, body := .ack 0 },
     .ackFrame 0 { dst := 0, src := 0, seq := 0, body := .data ⟨true, true, false, false, false, false, 0, 0, 4, [0]⟩ }, .beaconSend (2 ^ 80) 0,
     .beaconSend 0 (2 ^ 80), .pdelayReqSend 2 0, .pdelayReqSend 0 (2 ^ 80), .memberAbsent 64, .numberHoldExpire 64, .dataFrameSend 2 [],
     .ackSend 512, .retryTimeout 512, .rxGap 512] : List Instr).all (fun x => !Instr.wf x) = true := by decide

/-- Commands of chapter 19 with one operand out of its range, at the first value beyond it: each is refused. -/
theorem test_wf_refuses_19 : (
    [.commit .host 96 0, .commitDone 5] : List Instr).all (fun x => !Instr.wf x) = true := by decide

/-- Commands of chapter 21 with one operand out of its range, at the first value beyond it: each is refused. -/
theorem test_wf_refuses_21 : (
    [.residue 3, .kat 3 false, .eccUncorr 256, .auditMismatch 256 false false false, .sliceTest .host 3 0, .selfTestDone 3 false, .unfence .host 3 0,
     .drain .host 3 0] : List Instr).all (fun x => !Instr.wf x) = true := by decide

/-- Commands of chapter 22 with one operand out of its range, at the first value beyond it: each is refused. -/
theorem test_wf_refuses_22 : (
    [.bboxSlotRead .host 2048] : List Instr).all (fun x => !Instr.wf x) = true := by decide

/-- Ring frames with one field out of its width (R311, R313): each is refused. -/
theorem test_wf_refuses_frames : (
    [{ wraps := 4, dst := 0, src := 0, seq := 0, body := .pdelayReq }, { dst := 256, src := 0, seq := 0, body := .pdelayReq },
     { dst := 0, src := 256, seq := 0, body := .pdelayReq }, { dst := 0, src := 0, ttl := 256, seq := 0, body := .pdelayReq },
     { dst := 0, src := 0, seq := 65536, body := .pdelayReq },
     { dst := 0, src := 0, seq := 0, body := .data ⟨true, true, false, false, false, false, 4, 0, 4, [0]⟩ },
     { dst := 0, src := 0, seq := 0, body := .data ⟨true, true, false, false, false, false, 0, 512, 4, [0]⟩ },
     { dst := 0, src := 0, seq := 0, body := .data ⟨false, true, false, false, false, false, 0, 0, 1025, List.replicate 257 0⟩ },
     { dst := 0, src := 0, seq := 0, body := .data ⟨false, true, false, false, false, false, 0, 0, 5, [0]⟩ },
     { dst := 0, src := 0, seq := 0, body := .data ⟨false, true, false, false, false, false, 0, 0, 4, [2 ^ 32]⟩ },
     { dst := 0, src := 0, seq := 0, body := .data ⟨true, true, false, false, false, false, 0, 0, 3, [0]⟩ },
     { dst := 0, src := 0, seq := 0, body := .beacon ⟨2 ^ 80, 0, 0, 0, 0, 0, 0, 0⟩ },
     { dst := 0, src := 0, seq := 0, body := .beacon ⟨0, -(2 ^ 47) - 1, 0, 0, 0, 0, 0, 0⟩ },
     { dst := 0, src := 0, seq := 0, body := .beacon ⟨0, 0, 256, 0, 0, 0, 0, 0⟩ },
     { dst := 0, src := 0, seq := 0, body := .beacon ⟨0, 0, 0, 64, 0, 0, 0, 0⟩ },
     { dst := 0, src := 0, seq := 0, body := .beacon ⟨0, 0, 0, 0, 16, 0, 0, 0⟩ },
     { dst := 0, src := 0, seq := 0, body := .beacon ⟨0, 0, 0, 0, 0, 2 ^ 64, 0, 0⟩ },
     { dst := 0, src := 0, seq := 0, body := .beacon ⟨0, 0, 0, 0, 0, 0, 2 ^ 64, 0⟩ },
     { dst := 0, src := 0, seq := 0, body := .beacon ⟨0, 0, 0, 0, 0, 0, 0, 2 ^ 32⟩ },
     { dst := 0, src := 0, seq := 0, body := .beacon ⟨0, 2 ^ 47, 0, 0, 0, 0, 0, 0⟩ },
     { dst := 0, src := 0, seq := 0, body := .pdelayResp (2 ^ 80) 0 }, { dst := 0, src := 0, seq := 0, body := .pdelayResp 0 (2 ^ 80) },
     { dst := 0, src := 0, seq := 0, body := .enum ⟨4, 0, none, 0, 0, 0⟩ },
     { dst := 0, src := 0, seq := 0, body := .enum ⟨0, 2 ^ 64, none, 0, 0, 0⟩ },
     { dst := 0, src := 0, seq := 0, body := .enum ⟨0, 0, some 64, 0, 0, 0⟩ },
     { dst := 0, src := 0, seq := 0, body := .enum ⟨0, 0, none, 64, 0, 0⟩ }, { dst := 0, src := 0, seq := 0, body := .enum ⟨0, 0, none, 0, 256, 0⟩ },
     { dst := 0, src := 0, seq := 0, body := .enum ⟨0, 0, none, 0, 0, 256⟩ }, { dst := 0, src := 0, seq := 0, body := .regReq false 256 1 0 [] },
     { dst := 0, src := 0, seq := 0, body := .regReq false 0 0 0 [] }, { dst := 0, src := 0, seq := 0, body := .regReq false 0 17 0 [] },
     { dst := 0, src := 0, seq := 0, body := .regReq false 0 1 (2 ^ 32) [] }, { dst := 0, src := 0, seq := 0, body := .regReq true 0 2 0 [0] },
     { dst := 0, src := 0, seq := 0, body := .regReq true 0 1 0 [2 ^ 32] },
     { dst := 0, src := 0, seq := 0, body := .regResp 256 [0, 0, 0, 0, 0, 0, 0, 0, 0, 0, 0, 0, 0, 0, 0, 0] [] },
     { dst := 0, src := 0, seq := 0, body := .regResp 0 [0] [] },
     { dst := 0, src := 0, seq := 0, body := .regResp 0 [0, 0, 0, 0, 0, 0, 0, 0, 0, 0, 0, 0, 0, 0, 0, 0] (List.replicate 17 0) },
     { dst := 0, src := 0, seq := 0, body := .regResp 0 [0, 0, 0, 0, 0, 0, 0, 0, 0, 0, 0, 0, 0, 0, 0, 4] [] },
     { dst := 0, src := 0, seq := 0, body := .regResp 0 [0, 0, 0, 0, 0, 0, 0, 0, 0, 0, 0, 0, 0, 0, 0, 0] [2 ^ 32] },
     { dst := 0, src := 0, seq := 0, body := .ack 512 }] : List Frame).all (fun x => !Frame.ok x) = true := by decide

/-- Every command with operands in their ranges is taken. -/
theorem test_wf_takes_1 : (
    [.copyDone, .eraseCopyDone, .freeze .host, .bbRelease .host, .eraseCopy .host, .swCode .host 0, .bboxSlotRead .host 0, .wrOpen .host 0,
     .wrData .host 0, .wrClose .host 0, .rdData .host .clean, .skip .host, .mark .host 0 0, .rewind .host 0 0, .release .host 0, .flush .host 0,
     .cellTestDone 0 false, .noticeRelease 0, .sourceAssert 0, .rearmExpire 0 0, .recordAppend 0, .take .host ⟨0, {}⟩, .eoi .host 0 0, .stackReset .host 0,
     .sourceEntryWrite .host 0 0, .wakeLatch 0, .tbSnap .host, .tbNowLoRead .host, .tbNowHiRead .host, .ppsCapture ⟨false, 0, 0⟩, .ppsMissing,
     .ppsCapLoRead .host, .ppsExpCommit .host 0, .tbLoad .host, .xtalMeas, .hardyUpdate 0, .slotEnable .host 0 0, .slotConfigWrite .host 0 0 0,
     .hardySlotRead .host 0, .admission 0, .channelStopDone 0, .channelOutput 0 {} [] [], .sampleArrival 0 0 0 false {}, .deadlineMiss 0,
     .dcsumUpdate 0, .fadeDone 0, .retuneSwitch 0, .channelEnable .host 0 0, .channelDisable .host 0 0, .descriptorWrite .host 0 0 0,
     .groupSync .host 0, .swap .host 0, .retune .host 0, .comparatorChange 0 0, .firstEvaluation 0 0, .filteredEdge 0 0, .checkSwap .host 0,
     .checkZero .host 0, .checkHalf .host 0, .checkFull .host 0] : List Instr).all (fun x => Instr.wf x) = true := by decide

/-- Every command with operands in their ranges is taken. -/
theorem test_wf_takes_2 : (
    [.checkDone 0 ⟨false, false, false, false⟩ ⟨false, false, false, false⟩, .pgStart .host 0, .pgPeriodStart 0, .pgEdge 0, .trip 0, .blankEnd 0,
     .dutyTrip 0, .tripClear .host 0, .evaluationPoint, .ruleWrite .host 0 0 0, .event, .lineSet, .lineClear, .pgStartAction, .burst, .burstEnd,
     .retuneAction, .flagSet, .flagClear, .lcCountEvent 0 {}, .lcMatch 0 {}, .lcOverflow 0 {}, .lcLinkAction 0, .lcSnap .host 0, .lcCountRead .host 0,
     .lcCapRead .host 0, .charReceived 0 ⟨0, false, true, true, false, 0⟩, .nmeaSentence 0 ⟨0, false, true, true, false, 0⟩, .modbusFrameEnd 0,
     .i2cStretchTo 0, .sdiRespWait 0, .sdiGap 0, .pumpOk, .pumpFault, .spiAutoGo .host 0 0, .spiAutoStop .host 0 0, .spiAutoWord 0 0,
     .seqStart .host 0, .seqStop .host 0, .opEnd 0, .opSend 0, .sendDone 0 0 .ok [], .opBreak 0, .breakDone 0, .opWait 0, .waitDone 0, .opRecv 0,
     .recvDone 0 0 .ok [], .recvTimeout 0, .opMatch 0, .opParse 0, .opEmit 0, .opRetry 0, .opBr 0, .opAddr 0, .opAttend 0, .opSetv 0, .opSignal 0,
     .opCur 0, .opRaw 0] : List Instr).all (fun x => Instr.wf x) = true := by decide

/-- Every command with operands in their ranges is taken. -/
theorem test_wf_takes_3 : (
    [.attClear .host 0, .undefinedOpcode 0 false, .overload 0, .openInput 0, .refFault 0, .referenceReturns 0, .vexcOc 0, .iexcCmpl 0, .pdmStuck 0,
     .smStart .host 0 0, .smAbort .host 0 0, .smStateAdvance 0, .smFail 0, .hkGo .host 0, .hkEntryDone 0, .cmpMatch 0, .cmpAdvanceDone 0,
     .cmpCommit .host 0 0, .perCommit .host 0 0, .phaseCommit .host 0 0, .cmpArm .host 0 0, .cmpAlignDone 0, .commit .host 0 0, .commitDone 0,
     .commitCredit, .compactionDone, .eraseAll .host 0, .eraseAllDone, .compact .host 0, .coreReset .host 0 0, .fence .host 0 0, .coreRun .host 0 0,
     .wdogKick .host 0 0, .wdogWarn 0, .wdogExpire 0, .eventException 0, .waitWake 0, .fetchError 0 {}, .halt .host 0, .step .host ⟨0, []⟩,
     .regData .host false 0, .residue 0, .kat 0 false, .eccUncorr 0, .auditMismatch 0 false false false, .failoverDone [], .sliceTest .host 0 0,
     .selfTestDone 0 false, .unfence .host 0 0, .drain .host 0 0, .drainDone, .imgErase .host 0, .loadData .host 0, .verify .host 0,
     .imgSwap .host 0, .confirm .host 0, .loadWordProgrammed, .imgDone false false, .trialExpire, .bootCheck false false false false] : List Instr).all (fun x => Instr.wf x) = true := by decide

/-- Every command with operands in their ranges is taken. -/
theorem test_wf_takes_4 : (
    [.signalDetect 0, .alignDone 0, .trainDone 0 0 0, .heal 0, .linkDown 0 0, .frameError 0 false,
     .dataFrame 0 { dst := 0, src := 0, seq := 0, body := .data ⟨true, true, false, false, false, false, 0, 0, 4, [0]⟩ },
     .beacon 0 { dst := 0, src := 0, seq := 0, body := .beacon ⟨0, 0, 0, 0, 0, 0, 0, 0⟩ } 0 0,
     .pdelayReq 0 { dst := 0, src := 0, seq := 0, body := .pdelayReq } 0 0,
     .pdelayResp 0 { dst := 0, src := 0, seq := 0, body := .pdelayResp 0 0 } 0,
     .enumJoin 0 { dst := 0, src := 0, seq := 0, body := .enum ⟨0, 0, none, 0, 0, 0⟩ },
     .grant 0 { dst := 0, src := 0, seq := 0, body := .enum ⟨0, 0, none, 0, 0, 0⟩ },
     .hello 0 { dst := 0, src := 0, seq := 0, body := .enum ⟨0, 0, none, 0, 0, 0⟩ },
     .refuse 0 { dst := 0, src := 0, seq := 0, body := .enum ⟨0, 0, none, 0, 0, 0⟩ },
     .regReq 0 { dst := 0, src := 0, seq := 0, body := .regReq false 0 1 0 [] } [],
     .regResp 0 { dst := 0, src := 0, seq := 0, body := .regResp 0 [0, 0, 0, 0, 0, 0, 0, 0, 0, 0, 0, 0, 0, 0, 0, 0] [] },
     .ackFrame 0 { dst := 0, src := 0, seq := 0, body := .ack 0 }, .ringGrantWrite .host 0, .beaconSend 0 0, .pdelayReqSend 0 0, .joinSend,
     .helloSend, .memberAbsent 0, .numberHoldExpire 0, .beaconMiss, .headTakeover, .dataFrameSend 0 [], .ackSend 0, .retryTimeout 0, .rxGap 0,
     .refOk, .vcoBand, .pllLock, .dividerRelease, .pllLockLost, .refLost, .refRestored, .xtalFail, .xtalOk, .pointOfNoReturn, .commitWait,
     .entryDone, .wake, .exitDone, .pwrReqRun .host, .pwrReqWatch .host, .pwrReqDoze .host, .pwrReqOffKeep .host, .hkStale, .thermalTrip,
     .coldReset 0 false, .warmReset, .resetRises 0 false, .brownout 0 0, .vaonPowerOn, .add 0 0 0 0, .adc 0 0 0 0, .sub 0 0 0 0, .sbc 0 0 0 0,
     .cmp 0 0 0] : List Instr).all (fun x => Instr.wf x) = true := by decide

/-- Every command with operands in their ranges is taken. -/
theorem test_wf_takes_5 : (
    [.neg 0 0 0, .andR 0 0 0 0, .orR 0 0 0 0, .xorR 0 0 0 0, .andnR 0 0 0 0, .notR 0 0 0, .tst 0 0 0, .mov 0 0 0, .lsl 0 0 0 0, .lsr 0 0 0 0,
     .asr 0 0 0 0, .ror 0 0 0 0, .mul 0 0 0 0, .mulhs 0 0 0 0, .mulhu 0 0 0 0, .divs 0 0 0 0 0, .divu 0 0 0 0 0, .sextb 0 0 0, .sexth 0 0 0,
     .zextb 0 0 0, .zexth 0 0 0, .clz 0 0 0, .addi 0 0 0 0, .andi 0 0 0 0, .ori 0 0 0 0, .xori 0 0 0 0, .cmpi 0 0 0, .lsli 0 0 0 0, .lsri 0 0 0 0,
     .asri 0 0 0 0, .rori 0 0 0 0, .movi 0 0 0, .movh 0 0 0, .adr 0 0 0, .ldb 0 0 0 0 {}, .ldbu 0 0 0 0 {}, .ldh 0 0 0 0 {}, .ldhu 0 0 0 0 {},
     .ldw 0 0 0 0 {}, .stb 0 0 0 0, .sth 0 0 0 0, .stw 0 0 0 0, .push 0 0, .pop 0 0 {}, .swp 0 0 0 {}, .branch 0 0 0, .call 0 0, .jr 0 0, .callr 0 0,
     .mfc 0 0 0, .mtc 0 0 0, .stset 0 0, .stclr 0 0, .syscall 0 0, .breakInstr 0 0, .eret 0, .waitInstr 0, .nop 0, .illegal 0, .movs 0 0 {}] : List Instr).all (fun x => Instr.wf x) = true := by decide

/-- Every command with operands in their ranges is taken. -/
theorem test_wf_takes_6 : (
    [.fill 0 0 0, .scan 0 0 0 {}, .cmps 0 0 {} {}, .lds 0 0 0 {}, .sts 0 0 0, .rep 0 ⟨0, 0, 0⟩ {} {}, .repz 0 ⟨0, 0, 0⟩ {} {},
     .repnz 0 ⟨0, 0, 0⟩ {} {}, .illegalPrefix 0, .warmResetGo .host, .softReset .host 0, .pgKeyWrite .host 0 0, .unlockExpire .host 0,
     .registerWrite .host 0 4 0, .aliasWrite .host 0x40001040 0, .readClear .host 0 4 {}, .pageRestore 0, .extest, .samplePreload, .idcode,
     .dbgacc 0 0 0 {}, .bypass 3, .rdCmd 0 0 false [], .wrCmd 0 0 [], .status, .qrdW 0 false [], .qrdP 0 false [] false, .qwr 0 0 [], .rrd 0 0 0 [],
     .rwr 0 0 0 [], .resetWidth, .badCmd 3, .aborted 0x10, .hostSelect, .hostSleep false, .remoteTimeout, .attnHoldoffEnd] : List Instr).all (fun x => Instr.wf x) = true := by decide

/-! ### States for the witnesses -/

/-- The hub after bring-up as far as the bus shows it: reset with every page READY. -/
def live : State :=
  { State.reset with
    regs := ((List.range 96).map (fun p => (0x40000008 + p * 0x4000, (1 : Word)))).insertIdx 90 (0x40164040, 1)
    boot := {} }

/-- `live` as another variant. -/
def liveOf (v : Variant) : State := { live with variant := v }

theorem test_live_canon : live.canon = true := by decide +kernel
theorem test_live_ready : (List.range 96).all (fun p => live.ready p) = true := by decide +kernel
theorem test_reset_is_cold : coldReset 0 false {} = State.reset := by decide +kernel
theorem test_no_table_word (n w : Nat) : decodeTableWord n w = none := rfl
theorem test_no_fetch_word (s : State) (n w : Nat) : s.withFetchWord n w = s := rfl

/-! ### The queue, the bus and the page header -/

theorem witness_StepRunsTheFrontCommand : ({ live with pending := [.refOk, .event] } : State).pending = .refOk :: [.event] := rfl
theorem witness_InvariantIsKept : Claims.Inv State.reset ∧ ∃ t, step State.reset = .next t := ⟨by unfold Claims.Inv; decide +kernel, _, rfl⟩

/-- What BusErrors asks beside the kind of error. -/
theorem witness_BusErrors : busLive live = true ∧ live.steps = [] := by decide +kernel
theorem witness_BusErrors_0 : ErrorKind live 4 0x8000 4 false 0 ∧ ErrorKind live 4 0x08000000 1 true 0 ∧ ErrorKind (liveOf .l) 4 0x30020000 1 true 0 ∧
    ErrorKind live 4 0x40014000 4 false 0 ∧ ErrorKind live 4 0x40180000 4 false 0 ∧ ErrorKind live 4 0x50500000 4 false 0 := by
  simp [ErrorKind, Unmapped, live, liveOf, State.reset, cores, listedPages]
theorem witness_BusErrors_1 : ErrorKind live 4 0x7FFE 4 false 1 ∧ ErrorKind live 4 0x40000041 1 false 1 ∧ ErrorKind live 0 0x0800FFFF 2 true 1 := by
  simp [ErrorKind, Unmapped, WordsOnly, live, State.reset, cores, listedPages]
theorem witness_BusErrors_2 : ErrorKind live 4 0x7FFF 1 true 2 ∧ ErrorKind live 4 0x28007FFC 4 true 2 ∧ ErrorKind live 4 0x1103FFFC 4 true 2 := by
  simp [ErrorKind, Unmapped, WordsOnly, NoWrites, live, State.reset, cores, listedPages]
theorem witness_BusErrors_3_4 : ErrorKind live 4 0x40003000 4 false 3 ∧ ErrorKind live 4 0x55A00000 4 false 4 ∧ ErrorKind live 4 0x54402800 4 true 4 := by
  simp [ErrorKind, Unmapped, WordsOnly, absentPage, tableBytes, live, State.reset, cores, listedPages]

theorem witness_MemoryAccesses : busLive live = true ∧ live.steps = [] ∧ cores live.variant = 4 ∧ 0x30000000 ≤ 0x3003FFFF ∧ 0x3003FFFF % 1 = 0 := by
  decide +kernel
theorem witness_MemoryAccesses_pool : (live.raise DBG_CTRL_POOL_WR).on DBG_CTRL_POOL_WR = true ∧ busLive (live.raise DBG_CTRL_POOL_WR) = true := by
  decide +kernel

theorem witness_RegisterAccesses : Serves .host 0 live ∧ Serves .c0 0x01 live ∧ Serves .ring 0x1C live := by
  simp only [Serves]; decide +kernel

theorem witness_NotReadyAndAbsentPages : busLive State.reset = true ∧ State.reset.steps = [] ∧ 0x5F ∈ listedPages ∧ ¬ absentPage .f 0x5F ∧
    State.reset.variant = .f ∧ State.reset.ready 0x5F = false ∧ (State.reset.key 0x5F 4).waits = false ∧ 0x3C ∈ listedPages ∧ absentPage .l 0x3C ∧
    busLive (liveOf .l) = true ∧ (liveOf .l).variant = .l := by
  simp only [absentPage]; decide +kernel

theorem witness_UnlockSequence : busLive live = true ∧ live.steps = [] ∧ 0x44 ∈ listedPages ∧ ¬ absentPage live.variant 0x44 ∧ live.ready 0x44 = true ∧
    Serves .host 0 live ∧ (live.key 0 4).opens = false := by
  simp only [absentPage, live, State.reset, Serves]; decide +kernel
theorem witness_UnlockSequence_keys : ((live.setKey 0x44 4 .first).key 0x44 4).waits = true ∧ (live.setKey 0x44 4 .first).ready 0x44 = true ∧
    busLive (live.setKey 0x44 4 .first) = true ∧ ((live.setKey 0x44 4 .unlockedFirst).key 0x44 4).opens = true := by decide +kernel
theorem witness_UnlockSequence_other : busLive { live with pwr := { held := true } } = false ∧ absentPage .l 0x3C ∧ busLive (liveOf .l) = true ∧
    (liveOf .l).variant = .l ∧ busLive State.reset = true ∧ State.reset.ready 0x44 = false ∧ (0 : Word) ≠ w32 (0x4B450000 + 0x44) := by
  simp only [absentPage]; decide +kernel

theorem witness_TapInstructions : live.ready 0x5F = true ∧ live.on DBG_CTRL_LOCKED = false ∧ busLive live = true ∧ live.steps = [] ∧
    State.reset.ready 0x5F = false ∧ busLive { live with pwr := { held := true } } = false := by decide +kernel

/-- `live` with some fields set. -/
def liveWith (l : List (Fld × Nat)) : State := l.foldl (fun s p => s.set p.1 p.2) live

/-! ### The time base -/

theorem witness_TimeBaseReads : Serves .c0 2 live ∧ Serves .c0 2 (live.setTbShadow 0 { nowFresh := true }) ∧
    ((live.setTbShadow 0 { nowFresh := true }).tbShadow (masterIdx .c0)).nowFresh = true ∧ (live.tbShadow (masterIdx .c0)).nowFresh = false := by
  simp only [Serves]; decide +kernel
theorem witness_TimeBaseWrites : Serves .host 2 live ∧ live.timeBase.expLo = 0 := by simp only [Serves]; decide +kernel
/-- An unlocked TB page: the load admitted, and the load refused because the ring steers. -/
theorem witness_TimeBaseWrites_load : Serves .host 2 (live.setKey 2 4 .unlocked) ∧ ((live.setKey 2 4 .unlocked).key 2 4).opens = true ∧
    live.get TB_DISC_CTRL_SRC ≠ 2 ∧ Serves .host 2 ((liveWith [(TB_DISC_CTRL_SRC, 2)]).setKey 2 4 .unlocked) ∧
    (liveWith [(TB_DISC_CTRL_SRC, 2)]).get TB_DISC_CTRL_SRC = 2 ∧ live.variant ≠ .l ∧ (liveWith [(TB_DISC_CTRL_SRC, 2)]).on SYS_HUB_HEAD = false ∧
    live.timeBase.loadPending = false ∧ live.timeBase.ringStep = none := by simp only [Serves]; decide +kernel

/-- A hub locked to the PPS whose EXP is one second after 0. -/
def ppsLocked : State := liveWith [(TB_PPS_STAT_EXP_VALID, 1), (TB_STAT_LOCKED, 1), (TB_PPS_EXP_LO_TB, 131072000), (TB_DISC_CTRL_SRC, 1), (TB_DISC_CTRL_SERVO_EN, 1)]

theorem witness_PpsAndCrystal_captures : false = live.on TB_DISC_CTRL_PPS_EDGE ∧ max 1 (live.get TB_PPS_CFG_MIN_WIDTH) ≤ 1000000 ∧ 0 ≤ live.tb ∧
    false = ppsLocked.on TB_DISC_CTRL_PPS_EDGE ∧ live.busStopped = false ∧ live.on TB_PPS_STAT_EXP_VALID = false ∧ ppsLocked.busStopped = false ∧
    ppsLocked.on TB_PPS_STAT_EXP_VALID = true ∧ expected ppsLocked = second := by decide +kernel
/-- The outlier beyond WINDOW = 1,311, the steering capture at it, and the clamp at 858,993 (KP = 100). -/
theorem witness_PpsAndCrystal_servo : ppsLocked.on TB_STAT_LOCKED = true ∧ ppsLocked.timeBase.afterCoast = false ∧
    ppsLocked.get TB_PPS_CFG_WINDOW < (1312 : Int).natAbs ∧ ¬ ppsLocked.get TB_PPS_CFG_WINDOW < (1311 : Int).natAbs ∧
    ppsLocked.get TB_DISC_CTRL_SRC = 1 ∧ ppsLocked.on TB_DISC_CTRL_SERVO_EN = true ∧
    (-((4 : Int) * 1311 + sat 32 (0 + 1 * 1311))).natAbs ≤ 858993 ∧ 858993 < (-((255 : Int) * 65536000 + sat 32 (0 + 255 * 65536000))).natAbs := by
  decide +kernel
/-- EXP + WINDOW has passed, one miss before HOLDOVER. -/
theorem witness_PpsAndCrystal_misses :
    let s : State := { (ppsLocked.set TB_PPS_STAT_MISSES 3) with tbf := (131072000 + 1311) * 2 ^ 32 }
    s.busStopped = false ∧ s.on TB_PPS_STAT_EXP_VALID = true ∧ expected s + s.get TB_PPS_CFG_WINDOW ≤ s.tb ∧
    max 1 (s.get TB_PPS_CFG_MISS_LIMIT) ≤ min (s.get TB_PPS_STAT_MISSES + 1) 0xFFFF ∧ s.on TB_STAT_HOLDOVER = false ∧ s.get TB_DISC_CTRL_SRC = 1 := by
  decide +kernel
/-- A window of 32,000,000 ticks of TB: COAST_INC in its range. -/
theorem witness_PpsAndCrystal_crystal :
    let s : State := { live with tbf := 1048576000 * 2 ^ 32 }
    s.clk.winBad = false ∧ s.clk.winStart < 2 ^ 64 ∧
    (let inc : Int := ((((s.tb : Int) - s.clk.winStart) % (2 ^ 32 : Nat)).toNat : Int) * 2 ^ (17 - min 5 (s.get BELLOWS_COAST_CFG_MEAS_LOG2)) - 4000 * 2 ^ 32
     inc < 2 ^ 31 ∧ -(2 ^ 31) ≤ inc) ∧
    ({ live with clk := { live.clk with winBad := true } } : State).clk.winBad = true := by decide +kernel

theorem witness_ClockStates : live.clk.refPresent = true ∧ live.pwr.off = false ∧ live.pwr.held = false ∧ live.get BELLOWS_PWR_STAT_STATE = 0 ∧
    live.on BELLOWS_CLK_STAT_REF_OK = false ∧ live.clksrc = 1 ∧ live.timeBase.loadPending = false ∧ live.timeBase.ringStep = none := by decide +kernel
theorem witness_ClockStates_steps : (liveWith [(BELLOWS_CLK_STAT_REF_OK, 1)]).on BELLOWS_CLK_STAT_REF_OK = true ∧
    (liveWith [(BELLOWS_CLK_STAT_REF_OK, 1)]).clksrc = 1 ∧ ({ live with clk := { live.clk with band := true } } : State).clksrc = 1 ∧
    (liveWith [(BELLOWS_CLK_STAT_PLL_LOCK, 1)]).on BELLOWS_CLK_STAT_PLL_LOCK = true ∧ (liveWith [(BELLOWS_CLK_STAT_PLL_LOCK, 1)]).clksrc = 1 ∧
    (liveWith [(BELLOWS_CLK_STAT_CLKSRC, 0)]).clksrc = 0 ∧ (liveWith [(BELLOWS_CLK_STAT_CLKSRC, 2)]).clksrc = 2 ∧
    (liveWith [(BELLOWS_CLK_STAT_CLKSRC, 3)]).clksrc = 3 ∧ (liveWith [(BELLOWS_CLK_STAT_XTAL32_OK, 1)]).on BELLOWS_CLK_STAT_XTAL32_OK = true ∧
    (liveWith [(BELLOWS_CLK_STAT_CLKSRC, 2)]).on BELLOWS_CLK_STAT_REF_OK = false := by decide +kernel
theorem witness_ClockStates_lost : let s : State := { liveWith [(BELLOWS_CLK_STAT_CLKSRC, 2)] with clk := { live.clk with refPresent := false } }
    s.clk.refPresent = false ∧ s.pwr.off = false ∧ s.pwr.held = false ∧ s.pwr.phase ≠ 2 := by decide +kernel

/-! ### Compare channels and linked counters -/

/-- Channel 63 armed, periodic, with CMP = 8 and PERIOD = 8, at TB = 23. -/
def cmpArmed : State :=
  { liveWith [(CMP_CTRL_ARM 63, 1), (CMP_CTRL_PERIODIC 63, 1), (CMP_CMP_LO_CMP 63, 8), (CMP_PER_LO_PER 63, 8)] with tbf := 23 * 2 ^ 32 }

theorem witness_CompareUnits_match : cmpArmed.ready 3 = true ∧ cmpArmed.on (CMP_CTRL_ARM 63) = true ∧ (cmpArmed.cmp 63).adv = none ∧
    (cmpArmed.cmp 63).align = none ∧ cmpValue cmpArmed 63 ≤ cmpArmed.tb ∧ cmpArmed.on (CMP_CTRL_PERIODIC 63) = true ∧ cmpPeriod cmpArmed 63 ≠ 0 := by
  decide +kernel
theorem witness_CompareUnits_oneShot : (cmpArmed.clear (CMP_CTRL_PERIODIC 63)).on (CMP_CTRL_PERIODIC 63) = false ∧
    (cmpArmed.clear (CMP_CTRL_PERIODIC 63)).on (CMP_CTRL_ARM 63) = true := by decide +kernel
theorem witness_CompareUnits_done : ((live.setCmp 0 { adv := some (2 ^ 64 - 1) }).cmp 0).adv = some (2 ^ 64 - 1) ∧
    ((live.setCmp 0 { align := some 0 }).cmp 0).align = some 0 := by decide +kernel
theorem witness_CompareUnits_writes : Serves .c3 3 live ∧ live.on (CMP_CTRL_ARM 63) = false ∧ (6#32).getLsbD 2 = true ∧
    Serves .c3 3 (cmpArmed.clear (CMP_CTRL_ARM 63)) ∧ cmpPeriod (cmpArmed.clear (CMP_CTRL_ARM 63)) 63 ≠ 0 ∧
    cmpArmed.tb + 257 + 2 ^ 48 ≤ 2 ^ 64 := by simp only [Serves]; decide +kernel

/-- Counter 15 counts TB ticks, with MATCH = 5, at COUNT = 3. -/
def lcCounting : State :=
  liveWith [(lcRunBit 15, 1), (LC_CFG_SRC 15, 1), (LC_MATCH_MATCH 15, 5), (LC_COUNT_COUNT 15, 3)]

theorem witness_Counters_count : lcBase lcCounting 15 = 15 ∧ lcCounting.busStopped = false ∧ NoLoad lcCounting ∧
    (List.range 16).all (fun c => (lcCounting.lc c).inbox.isEmpty) = true ∧ lcRunning lcCounting 15 = true ∧
    lcSelPresent lcCounting 15 = true ∧ lcMode lcCounting 15 ≠ 3 ∧ lcWidth lcCounting 15 = 32 ∧ givenBy lcCounting 15 0 0 = 3 ∧
    advanceOf lcCounting 15 3 = 3 ∧ lcValue lcCounting 15 LC_COUNT_COUNT = 3 ∧ lcValue lcCounting 15 LC_MATCH_MATCH = 5 ∧ Still lcCounting := by
  simp only [NoLoad, Still]; decide +kernel
/-- One match at j = 2 for an advance of 3, none for MATCH = 7, and a wrap at the top. -/
theorem witness_Counters_hit : (5 ≠ 0 ∧ 1 ≤ 2 ∧ 2 ≤ 3 ∧ (3 + 2) % 2 ^ 32 = 5 ∧ ∀ i, 1 ≤ i → i < 2 → (3 + i) % 2 ^ 32 ≠ 5) ∧
    (∀ j, ¬ (7 ≠ 0 ∧ 1 ≤ j ∧ j ≤ 3 ∧ (3 + j) % 2 ^ 32 = 7)) ∧ 3 + 3 < 2 ^ 32 ∧
    2 ^ 32 ≤ lcValue (lcCounting.set (LC_COUNT_COUNT 15) (2 ^ 32 - 3)) 15 LC_COUNT_COUNT + 3 := by
  refine ⟨⟨by decide, by decide, by decide, by decide, fun i _ _ => by omega⟩, fun j h => by omega, by decide, by decide +kernel⟩
/-- Pin edges: EDGE = 2 takes both directions. -/
theorem witness_Counters_pin : let s := liveWith [(lcRunBit 0, 1), (LC_CFG_SRC 0, 3), (LC_CFG_EDGE 0, 2)]
    givenBy s 0 1 1 = 2 ∧ advanceOf s 0 2 = 1 ∧ lcRunning s 0 = true ∧ lcSelPresent s 0 = true ∧ lcMode s 0 ≠ 3 := by decide +kernel
theorem witness_Counters_inbox : let s := live.setLc 0 { inbox := [.stop, .resetCapture, .capture none] }
    (s.lc 0).inbox ≠ [] ∧ s.busStopped = false ∧ NoLoad s ∧ lcBase s 0 = 0 ∧ lcMode s 0 ≠ 3 ∧ s.get (LC_CFG_SRC 0) ≠ 1 ∧ (s.lc 0).edges = 0 ∧
    (List.range 16).all (fun c => c == 0 || (s.lc c).inbox.isEmpty && !s.on (lcRunBit c)) = true := by
  simp only [NoLoad]; decide +kernel
/-- Counter 1 in CLOCK mode under counter 0, with two clocks waiting. -/
theorem witness_Counters_clock : let s := (liveWith [(lcRunBit 1, 1), (LC_CFG_MODE 1, 3)]).setLc 1 { inbox := [.clock, .clock] }
    lcBase s 1 = 1 ∧ lcMode s 1 = 3 ∧ lcRunning s 1 = true ∧ lcValue s 1 LC_COUNT_COUNT + 2 < 2 ^ 32 ∧
    lcValue s 1 LC_MATCH_MATCH ≤ lcValue s 1 LC_COUNT_COUNT := by decide +kernel
theorem witness_Counters_reads : Serves .c0 4 live ∧ lcChained live 15 = false ∧ (2 ^ 31 + 15 : Nat) = (w32 (2 ^ 31 + 15)).toNat := by
  simp only [Serves]; decide +kernel
/-- A chained pair 14 and 15, whose low word its master has read. -/
theorem witness_Counters_pair : let s := (liveWith [(LC_CFG_CHAIN 14, 1)]).setLcShadow 0 { of := some (true, 14), hi := 7 }
    Serves .c0 4 s ∧ lcChained s 14 = true ∧ lcChained s 15 = true ∧ (s.lcShadow (masterIdx .c0)).of = some (true, 15 - 1) ∧
    (s.lcShadow (masterIdx .c0)).of ≠ some (false, 15 - 1) ∧ lcBase s 15 = 14 := by simp only [Serves]; decide +kernel

/-! ### The analog front end -/

/-- Channel 0 runs on input 63 of TSZ-256F, whose modulator is on and referred to the internal reference. -/
def sampling : State :=
  (liveWith [(SCHED_CH0_EN 0, 1), (SCHED_CH0_SRC_TYPE 0, 1), (SCHED_CH0_SRC_NUM 0, 63), (SCHED_CH8_STATE 0, 2), (AFE_IN_CFG_ENABLE 7 7, 1),
    (AFE_IN_CFG_BURNOUT 7 7, 1), (AFE_COM_REF_CTRL_INT_EN, 1)]).setChan 0 { live := true }

theorem witness_FrontEndFaults_inv : Claims.Inv sampling := by unfold Claims.Inv; decide +kernel
theorem witness_FrontEndFaults : inputRuns sampling 63 = true ∧ refGone sampling 1 63 = false ∧ boundChans sampling 1 63 = [0] ∧
    sampling.on (AFE_IN_CFG_BURNOUT (63 / 8) (63 % 8)) = true ∧ live.runs 0x10 = true := by decide +kernel
theorem witness_FrontEndFaults_refs : let s := sampling.set (AFE_IN_CFG_REF_SEL 7 7) 5
    inputRuns s 63 = true ∧ refGone { s with badRefs := [5] } 1 63 = true ∧ refGone sampling 1 63 = false := by decide +kernel
/-- VEXC 3 driving and off, IEXC 7 on and off. -/
theorem witness_FrontEndFaults_excitation : let s := liveWith [(vexcField 3 7 1, 1), (⟨AFE_COM_IEXC_CTRL_EN0.addr, 31, 1⟩, 1)]
    s.runs 0x10 = true ∧ s.busStopped = false ∧ vexcDrives s 3 = true ∧ s.on ⟨AFE_COM_IEXC_CTRL_EN0.addr, 4 * 7 + 3, 1⟩ = true ∧
    vexcDrives live 3 = false ∧ live.on ⟨AFE_COM_IEXC_CTRL_EN0.addr, 31, 1⟩ = false := by decide +kernel
theorem witness_FrontEndFaults_standby : standbyOn ((sampling.setWord (standbyAddr 0 0) (sampling.word (descAddr 0 0))).setChan 0 { live := true, retune := some { flt := {}, normE := 0, normM := 1, settle := 0, hold := 0, withHold := false } }) 0 1 63 = true := by
  decide +kernel
theorem witness_FrontEndFaults_stream : let s := liveWith [(PDM_STREAM_EN_EN, 2 ^ 31), (PDM_STUCK_CFG_LEN, 1)]
    s.get PDM_STUCK_CFG_LEN ≠ 0 ∧ streamWatched s 31 = true := by decide +kernel

theorem witness_Recalibration_refused : 3 < nSpares sampling.variant ∧ Serves .c0 0x10 sampling ∧ (w32 0x01000000).getLsbD 25 = false ∧
    runningOn sampling 1 63 = [0] ∧ ¬ (nInputs sampling.variant ≤ 63 ∨ sampling.on (AFE_IN_CFG_ENABLE (63 / 8) (63 % 8)) = false ∨
      runningOn sampling 1 63 = []) ∧ sampling.get (AFE_COM_SM_STAT_STATE 3) = 0 ∧
    fits sampling (sampling.get (SCHED_CH8_ON_SLICE 0)) (sampling.get (SCHED_CH9_LOAD 0)) = true ∧
    fits (sampling.set (SCHED_CH9_LOAD 0) 120586241) 0 120586241 = false ∧ runningOn live 1 63 = [] ∧
    1 < (runningOn ((sampling.setChan 1 { live := true }).setWord (SCHED_CH0_EN 1).addr (sampling.word (SCHED_CH0_EN 0).addr)
      |>.set (SCHED_CH8_STATE 1) 2) 1 63).length := by simp only [Serves]; decide +kernel

/-- A recalibration of input 0 by spare 0 in state `st`, with its count and sum. -/
def recalAt (st count : Nat) (sum mZ : Int) : State :=
  (liveWith [(AFE_COM_SM_STAT_STATE 0, st)]).setRecal 0 { count := count, sum := sum, mZ := mZ }

theorem witness_Recalibration_states : (List.range 8).all (fun st => (recalAt st 200 0 0).get (AFE_COM_SM_STAT_STATE 0) == st) = true ∧
    recalK (recalAt 1 0 0 0) 0 ≤ 0 ∧ (recalAt 1 0 0 0).get (AFE_COM_SM_CTRL_OVERLAP 0) ≤ 200 ∧
    recalK (recalAt 4 200 0 0) 0 + (recalAt 4 200 0 0).get (AFE_COM_SM_CTRL_CAL_OUTPUTS 0) ≤ ((recalAt 4 200 0 0).recal 0).count ∧
    ((recalAt 4 200 0 0).recal 0).input < 64 ∧ ((recalAt 4 200 0 0).recal 0).chan < 256 ∧ 0 < nSpares live.variant := by decide +kernel
/-- m_Z = 0 and m_P = 2²⁴ − 1 in CAL_POS: a gain within the limits, and one at m_P = 2²² outside them. -/
theorem witness_Recalibration_gain : let cal := max 1 (live.get (AFE_COM_SM_CTRL_CAL_OUTPUTS 0))
    ((recalAt 4 200 (4194304 * (256 * cal)) 0).recal 0).sum = 4194304 * (256 * cal) ∧
    0x380000 ≤ ((2 ^ 45 + 4194304) / (2 * 4194304) : Int) ∧ ((2 ^ 45 + 4194304) / (2 * 4194304) : Int) ≤ 0x480000 ∧
    ¬ 0x380000 ≤ ((2 ^ 45 + 8388607) / (2 * 8388607) : Int) := by decide +kernel

theorem witness_Housekeeping : live.runs 0x10 = true ∧ live.busStopped = false ∧ Serves .c0 0x10 live ∧ live.hk.busy = false ∧
    live.ready 0x5A = true := by simp only [Serves]; decide +kernel
/-- A scan at entry 1 of three, and at its last entry. -/
theorem witness_Housekeeping_entries : let s : State := { liveWith [(AFE_COM_HK_STAT_ENTRY, 2)] with hk := { busy := true, word := 2 } }
    s.runs 0x10 = true ∧ s.busStopped = false ∧ s.hk.busy = true ∧ s.hk.word.testBit 16 = false ∧
    max 2 (s.get AFE_COM_HK_CTRL_SCAN_LEN_M1) ≤ s.get AFE_COM_HK_STAT_ENTRY ∧
    live.get AFE_COM_HK_STAT_ENTRY < max 2 (live.get AFE_COM_HK_CTRL_SCAN_LEN_M1) ∧ s.on AFE_COM_HK_CTRL_SCAN_EVT = false ∧ s.hk.stale = none ∧
    (s.set AFE_COM_HK_CTRL_SCAN_EVT 1).on AFE_COM_HK_CTRL_SCAN_EVT = true := by decide +kernel

/-! ### Window monitors and pulse generators -/

/-- Monitor 15 with its upper comparator on at threshold 512. -/
def watching : State := liveWith [(WM_ENABLE_EN, 2 ^ 15), (WM_THR_HI_THR 15, 512), ((compHi 15).en, 1), (AFE_COM_REF_CTRL_INT_EN, 1)]

theorem witness_Monitors_settled : wmLive watching 15 = true ∧ watching.on (compHi 15).en = true ∧ (watching.wm 15).checked true = false ∧
    (watching.wm 15).due true = false := by decide +kernel
/-- With no hysteresis code 512 lies at 600,000,000 nV: one above asserts, one below releases, and just there nothing changes. -/
theorem witness_Monitors_levels : levelsOfComp watching 15 true = (600000000, 600000000, 600000000) ∧ past true 600000001 600000000 ∧
    past false 599999999 600000000 ∧ ¬ past true 600000000 600000000 ∧ ¬ past false 600000000 600000000 := by
  simp only [past]; decide +kernel
theorem witness_Monitors_due : ((watching.setWm 15 { dueHi := true }).wm 15).due true = true ∧ wmLive (watching.setWm 15 { dueHi := true }) 15 = true ∧
    ((watching.setWm 15 { dueHi := true }).wm 15).checked true = false := by decide +kernel
/-- Three of five samples move the output; two do not. -/
theorem witness_Monitors_filter : let s (h : List Bool) := (watching.set (compHi 15).raw 1).setWm 15 { histHi := h }
    (vote watching 15).1 ≤ ((((s [true, true]).on (compHi 15).raw :: ((s [true, true]).wm 15).hist true).take 9).take (vote watching 15).2).countP
      (fun b => b != (s []).on (compHi 15).filt) ∧
    ((((s [true]).on (compHi 15).raw :: ((s [true]).wm 15).hist true).take 9).take (vote watching 15).2).countP
      (fun b => b != (s []).on (compHi 15).filt) < (vote watching 15).1 := by decide +kernel
theorem witness_Monitors_check : 15 < nMonitors watching.variant ∧ Serves .c0 0x14 watching ∧ watching.on (WM_STAT_CHECKING 15) = false ∧
    bit (watching.get WM_ENABLE_EN) 15 = true ∧ armedComp watching 15 true = false ∧ watching.on AFE_COM_REF_CTRL_INT_EN = true ∧
    (live.clear AFE_COM_REF_CTRL_INT_EN).on AFE_COM_REF_CTRL_INT_EN = false := by simp only [Serves]; decide +kernel
theorem witness_Monitors_done : let s := (watching.set (WM_STAT_CHECKING 15) 1).setWm 15 { check := 4, checkHi := true }
    s.on (WM_STAT_CHECKING 15) = true ∧ (s.wm 15).check = 4 ∧ s.ready 0x14 = true ∧ (s.wm 15).checkHi = true ∧ (s.wm 15).checkLo = false := by
  decide +kernel

/-- Generator 15 with RUN, PERIOD 100, DELAY 10, WIDTH 20. -/
def pulsing : State := liveWith [(pgBit PG_RUN_RUN 15, 1), (PG_PERIOD_TICKS 15, 100), (PG_DELAY_TICKS 15, 10), (PG_WIDTH_TICKS 15, 20)]
/-- The same in its first period. -/
def inPeriod : State :=
  pulsing.setPg 15 { running := true, start := 0, period := 100, delay := 10, width := 20, left := some 1, edges := [(18, true), (38, false)] }

theorem witness_PulseGenerators_start : pgLive pulsing 15 = true ∧ Serves .c0 0x15 pulsing ∧ pgRun pulsing 15 = true ∧ (pulsing.pg 15).running = false ∧
    (pulsing.pg 15).edges = [] := by simp only [Serves]; decide +kernel
theorem witness_PulseGenerators_running : pgLive inPeriod 15 = true ∧ Serves .c0 0x15 inPeriod ∧ pgRun inPeriod 15 = true ∧
    (inPeriod.pg 15).running = true ∧ inPeriod.on (PG_CFG_RESTART 15) = true ∧
    (inPeriod.clear (PG_CFG_RESTART 15)).on (PG_CFG_RESTART 15) = false ∧ (inPeriod.pg 15).edges.length ≤ 8 := by simp only [Serves]; decide +kernel
theorem witness_PulseGenerators_next : let s : State := { inPeriod with tbf := 100 * 2 ^ 32 }
    pgLive s 15 = true ∧ (s.pg 15).start + (s.pg 15).period ≤ s.tb ∧ pgRun s 15 = true ∧ (s.pg 15).left ≠ some 0 ∧
    pgRun (s.set (pgBit PG_RUN_RUN 15) 0) 15 = false := by decide +kernel

theorem witness_PulseGenerators_quiet : pgTripped pulsing 15 = false ∧ blanked pulsing 15 = false ∧ tripLine pulsing 15 = false ∧
    ¬ dutyCeiling pulsing 15 < dutySum pulsing 15 := by decide +kernel

/-- Generator 15 whose trip line, monitor 15's upper comparator, is asserted, at its retry limit of 1. -/
def tripping : State :=
  liveWith [(PG_TRIP_TRIP_EN 15, 1), (PG_TRIP_WM 15, 15), (WM_ENABLE_EN, 2 ^ 15), (WM_CFG_HI_EN 15, 1), (WM_STAT_HI_RAW 15, 1), (PG_CFG_RETRY_LIMIT 15, 1),
    (PG_STAT_RETRIES 15, 1)]

theorem witness_PulseGenerators_trip : pgLive tripping 15 = true ∧ pgTripped tripping 15 = false ∧ tripLine tripping 15 = true ∧
    blanked tripping 15 = false ∧ tripping.get (PG_CFG_RETRY_LIMIT 15) ≠ 0 ∧
    tripping.get (PG_STAT_RETRIES 15) = tripping.get (PG_CFG_RETRY_LIMIT 15) ∧ pulsing.get (PG_CFG_RETRY_LIMIT 15) = 0 := by decide +kernel
theorem witness_PulseGenerators_duty : let s := (pulsing.set (PG_TRIP_DUTY_MAX 15) 0).setPg 15 { duty := [1] }
    pgLive s 15 = true ∧ pgTripped s 15 = false ∧ tripLine s 15 = false ∧ dutyCeiling s 15 < dutySum s 15 := by decide +kernel
theorem witness_PulseGenerators_clear : let s := pulsing.set (pgBit PG_TRIPPED_TRIP 15) 1
    Serves .c0 0x15 s ∧ pgLive s 15 = true ∧ pgTripped s 15 = true ∧ tripLine s 15 = false ∧ ¬ dutyCeiling s 15 < dutySum s 15 := by
  simp only [Serves]; decide +kernel

/-! ### Channels of Anvil -/

/-- Channel 0 in STATE `st`, bound to input 63, third order with ratio 32, one tap of 1/2 in banks 0 and 1, with working state `x`. -/
def oneBit (st : Nat) (x : Chan) : State :=
  (liveWith [(SCHED_CH0_EN 0, 1), (SCHED_CH0_SRC_TYPE 0, 1), (SCHED_CH0_SRC_NUM 0, 63), (SCHED_CH8_STATE 0, st), (AFE_IN_CFG_ENABLE 7 7, 1),
    (SCHED_CH1_CIC_EN 0, 1), (SCHED_CH1_ORDER 0, 3), (SCHED_CH1_RATIO_M1 0, 31), (SCHED_CH4_FIR_EN 0, 1), (SCHED_CH4_FIR_DEC 0, 0),
    (COEF_TAPS_TAPS 0, 1), (COEF_TAPS_TAPS 1, 1), (COEF_COEF_COEF 0, 0x400000), (COEF_COEF_COEF 128, 0x400000)]).setChan 0 x
/-- Channel 0 in STATE `st`, bound to port 0, unfiltered, with working state `x`. -/
def multiBit (st : Nat) (x : Chan) : State :=
  (liveWith [(SCHED_CH0_EN 0, 1), (SCHED_CH0_SRC_TYPE 0, 3), (SCHED_CH8_STATE 0, st), (SCHED_CH7_MIN_INTERVAL 0, 8)]).setChan 0 x

theorem witness_ChannelCommands : Serves .c0 0x1B live ∧ 255 < nChannels live.variant ∧ chState live 255 = 0 ∧ live.on (SCHED_CH0_EN 255) = false ∧
    (live.key 0x1B (masterIdx .c0)).opens = false := by simp only [Serves]; decide +kernel
theorem witness_ChannelCommands_states : Serves .c0 0x1B (oneBit 2 {}) ∧ chState (oneBit 1 {}) 0 = 1 ∧ chState (oneBit 2 {}) 0 = 2 ∧
    (oneBit 2 {}).on (SCHED_CH0_EN 0) = true ∧ chState ((oneBit 3 {}).clear (SCHED_CH0_EN 0)) 0 = 3 ∧
    ((oneBit 3 {}).clear (SCHED_CH0_EN 0)).on (SCHED_CH0_EN 0) = false ∧ (0 : Word) &&& descBits 1 ≠ (oneBit 2 {}).word (descAddr 0 1) &&& descBits 1 ∧
    ((oneBit 2 {}).key 0x1B (masterIdx .c0)).opens = false := by simp only [Serves]; decide +kernel
/-- A swap to bank 1, to the bank in force, without room, and during a fade with one queued. -/
theorem witness_ChannelCommands_swap : (chCfg (oneBit 2 {}) 0).firEn = true ∧ badBank (oneBit 2 {}) (chCfg (oneBit 2 {}) 0) 0 1 = false ∧
    badBank (oneBit 2 {}) (chCfg (oneBit 2 {}) 0) 0 0 = true ∧ (chCfg (oneBit 2 {}) 0).bank = 0 ∧
    fits (oneBit 2 { live := true }) 0 (firLoad (oneBit 2 {}) (chCfg (oneBit 2 {}) 0) 1) = true ∧
    fits ((oneBit 2 { live := true }).set (SCHED_CH9_LOAD 0) 241172480) 0 (firLoad (oneBit 2 {}) (chCfg (oneBit 2 {}) 0) 1) = false ∧
    ((oneBit 2 { fade := some ⟨1, 8, 0, 0, 0⟩, queued := some (0, 8) }).chan 0).fade ≠ none ∧ (w32 0x01070000).toNat % 256 = 0 := by decide +kernel
/-- A retune to a standby descriptor that is good, that names no source, without room, and while one runs. -/
theorem witness_ChannelCommands_retune :
    let s := (List.range 8).foldl (fun s i => s.setWord (standbyAddr 0 i) ((oneBit 2 {}).word (descAddr 0 i))) (oneBit 2 {})
    descReason s (standbyCfg s 0) = 0 ∧ fits s (s.get (SCHED_CH8_ON_SLICE 0)) (chanLoad s (standbyCfg s 0)) = true ∧
    fits ((s.setChan 0 { live := true }).set (SCHED_CH9_LOAD 0) 241172480) 0 (chanLoad s (standbyCfg s 0)) = false ∧ (s.chan 0).retune = none ∧
    descReason (oneBit 2 {}) (standbyCfg (oneBit 2 {}) 0) ≠ 0 := by decide +kernel

theorem witness_ChannelEvents_admission : let s := oneBit 0 { admitting := true }
    (s.chan 0).admitting = true ∧ descReason s (chCfg s 0) = 0 ∧ place s (chCfg s 0) (chanLoad s (chCfg s 0)) = some 0 ∧
    (chCfg s 0).watch = false ∧ chanLoad s (chCfg s 0) < 2 ^ 32 ∧ descReason live (chCfg live 0) ≠ 0 ∧
    place s (chCfg s 0) 241172481 = none ∧ watchFits s 37683201 = false ∧ s.on SCHED_LAST_REFUSAL_VALID = false := by decide +kernel
theorem witness_ChannelCommands_off : (live.chan 255).flt = {} ∧ (live.chan 255).lineLen = 0 := by decide +kernel
/-- A switch without a recalibration, and one whose shadow delivers. -/
theorem witness_ChannelEvents_recal : recalOf (oneBit 2 {}) 0 = none ∧
    (let s := ((oneBit 2 {}).set (AFE_COM_SM_STAT_STATE 1) 4).setRecal 1 { chan := 0, delivering := true }
     recalOf s 0 = some 1 ∧ (s.recal 1).delivering = true) := by decide +kernel
theorem witness_ChannelEvents_ends : chState (oneBit 3 {}) 0 = 3 ∧ ((oneBit 3 {}).chan 0).fifo = [] ∧ chState (oneBit 2 {}) 0 = 2 ∧
    (chCfg (oneBit 2 {}) 0).oneBit = true ∧ 15 < 16 := by decide +kernel
theorem witness_ChannelEvents_fade : ((oneBit 2 { fade := some ⟨1, 8, 8, 0, 0⟩ }).chan 0).fade = some ⟨1, 8, 8, 0, 0⟩ ∧
    ((oneBit 2 { fade := some ⟨1, 8, 8, 0, 0⟩ }).chan 0).queued = none := by decide +kernel
/-- A retune whose old filter has stopped, with one output held. -/
def switching : Retune :=
  { flt := {}, normE := 0, normM := 0, oldStopped := true, settle := 4, held := [⟨0, 0, 0, false, false, false⟩], hold := 8, withHold := true }
theorem witness_ChannelEvents_switch : ((oneBit 2 { retune := some switching }).chan 0).retune = some switching ∧ switching.oldStopped = true ∧
    switching.held ≠ [] := by decide +kernel

theorem witness_ChannelInputs_bit : let s := oneBit 2 {}
    let g := chCfg s 0
    chState s 0 = 2 ∧ g.oneBit = true ∧ g.cicEn = true ∧ g.delay = 0 ∧ g.lockin = false ∧ g.order = 3 ∧ g.shifts.take g.order = [0, 0, 0] ∧
    (s.chan 0).flt.y.length = 5 ∧ (s.chan 0).flt.nIn + 1 < g.ratio ∧ (s.chan 0).gone = false ∧ (s.chan 0).clearAt = none ∧ refGone s g.srcType g.srcNum = false ∧ g.srcType = 1 ∧
    s.on (AFE_IN_CFG_CHOP (g.srcNum / 8) (g.srcNum % 8)) = false := by decide +kernel
theorem witness_ChannelInputs_sample : let s := multiBit 2 { fifo := [⟨5, 7, {}, 100, (3, 0)⟩] }
    let g := chCfg s 0
    chState s 0 = 2 ∧ g.oneBit = false ∧ g.cicEn = false ∧ g.firEn = false ∧ g.delay = 0 ∧ g.lockin = false ∧ g.hcount = 0 ∧
    (s.chan 0).fifo = [⟨5, 7, {}, 100, (3, 0)⟩] ∧ g.src = (3, 0) ∧ (s.chan 0).clearAt = none ∧ s.tb < 100 := by decide +kernel
theorem witness_ChannelInputs_full : let i : InSample := ⟨5, 7, {}, 100, (3, 0)⟩
    ((multiBit 1 { fifo := [i, i, i, i] }).chan 0).fifo.length = 4 ∧ (multiBit 1 {}).tb < i.deadline ∧ chState (multiBit 1 {}) 0 = 1 ∧
    (chCfg (multiBit 1 {}) 0).oneBit = false ∧ (multiBit 1 {}).get (SCHED_CH8_ON_SLICE 0) < 3 := by decide +kernel

/-! ### Sensor ports -/

/-- Port `p` in a mode, with some hidden state and an operation that waits. -/
def onPort (p mode : Nat) (x : PortX) (op : CtxOp) : State :=
  ((liveWith [(PORT_MODE_MODE p, mode), (PORT_I2C_STRETCH_TO p, 1)]).setPort p x).setCtx p { op := op }
/-- A character with the given data bits. -/
def char (d : Nat) : RxChar := { data := d, par := false, start := true, stop := true, noise := false, cap := 9 }

theorem witness_PortEvents_uart : let s := onPort 23 1 {} .none
    portLive s 23 = true ∧ portMode s 23 = 1 ∧ portTakes s 23 (charCycles s 23) = true ∧ underDrive s 23 = false ∧ allSpacing s 23 (char 65) = false ∧
    rxLevel s 23 < 32 ∧ rxLevel (onPort 23 1 { rx := List.replicate 32 (.char 0 false 0) } .none) 23 = 32 ∧
    allSpacing s 23 { char 0 with stop := false } = true ∧ charMode 1 = true ∧ portLive State.reset 23 = false := by decide +kernel
/-- "$*00" and LF has a good sum, "$*01" a bad one, "$" none. -/
theorem witness_PortEvents_nmea : let s := onPort 0 5 { chars := [36, 42, 48, 48] } .none
    portLive s 0 = true ∧ portMode s 0 = 5 ∧ (char 10).data % 2 ^ dataBits s 0 = 10 ∧ parityBad s 0 (char 10) = false ∧ portTakes s 0 (charCycles s 0) = true ∧
    underDrive s 0 = false ∧ allSpacing s 0 (char 10) = false ∧ nmeaCheck [36, 42, 48, 48, 10] = some true ∧
    nmeaCheck [36, 42, 48, 49, 10] = some false ∧ nmeaCheck [36, 10] = none := by decide +kernel
/-- A port that drives RS-485 and compares its echo. -/
theorem witness_PortEvents_echo : let s := (onPort 23 1 { sending := true, started := true, echo := [65] } (.send false false false)).set (PORT_MODE_PHY 23) 1
    let u := s.set (PORT_MODE_ECHO 23) 1
    portTakes u 23 (charCycles u 23) = true ∧ underDrive u 23 = true ∧ u.on (PORT_MODE_ECHO 23) = true ∧ (u.port 23).echo = [65] ∧
    65 % 2 ^ dataBits u 23 = 65 ∧ charMode (portMode u 23) = true ∧ portLive u 23 = true := by decide +kernel
theorem witness_PortEvents_modbus : let s := onPort 0 6 { chars := [0xFF, 0xFF] } .none
    portLive s 0 = true ∧ portMode s 0 = 6 ∧ lineIdle s 0 (t35 s 0) = true ∧ lineIdle (s.setPort 0 { lastAct := some 0 }) 0 (t35 s 0) = false ∧ crc16 0xFFFF [0xFF, 0xFF] = 0 ∧ crc16 0xFFFF [0] ≠ 0 ∧ (s.ctx 0).op = .none ∧
    (List.replicate 257 0 : List Nat).length = 257 := by decide +kernel
theorem witness_PortEvents_timers : let r : Recv := { ends := 0, term := 0, count := 1, stamp := false, crc := false, left := some 0, resp := true }
    let s := onPort 0 3 {} (.send false false false)
    portLive s 0 = true ∧ portMode s 0 = 3 ∧ s.pget 0 (PORT_I2C_STRETCH_TO 0) ≠ 0 ∧ portMode (onPort 0 2 {} (.recv r)) 0 = 2 ∧
    ((onPort 0 2 {} (.recv r)).ctx 0).flags = {} ∧ portLive (onPort 0 2 {} (.recv r)) 0 = true ∧ r.got = 0 ∧ respWaited (onPort 0 2 {} (.recv r)) 0 = true ∧ lineIdle (onPort 0 2 {} (.recv r)) 0 (usCycles 1660 + 1) = true ∧ ({ r with got := 1 } : Recv).got = 1 := by
  decide +kernel
theorem witness_PortEvents_pump : pumpRuns live = false ∧ pumpRuns (liveWith [(PORT_MODE_MODE 7, 2), (PORT_MODE_PHY 7, 2)]) = true := by decide +kernel
theorem witness_PortEvents_spi : let s := onPort 23 4 {} .none
    Serves .c0 (0x20 + 23) s ∧ portLive s 23 = true ∧ portMode s 23 = 4 ∧ (s.port 23).auto = none ∧ csValid s 23 = true ∧
    csValid (s.set (PORT_SPI_WIRES 23) 1) 23 = false ∧ portMode (onPort 23 1 {} .none) 23 ≠ 4 ∧
    ((onPort 23 4 { auto := some { s := 0 } } .none).port 23).auto = some { s := 0 } ∧ boundTo s 0 23 = false ∧ portHeld s 23 = false ∧
    boundTo ((s.set (SCHED_CH0_SRC_TYPE 0) 3).set (SCHED_CH0_SRC_NUM 0) 23 |>.set (SCHED_CH8_STATE 0) 2) 0 23 = true := by simp only [Serves]; decide +kernel

/-! ### Poll programs and attendance -/

/-- Context 23 has a turn at word 0 of its region 0 to 100, which holds `w`, on a UART, with working state `x`. -/
def turn (w : Nat) (x : Ctx) : State :=
  (liveWith [(SEQ_CTX_STAT_STATE 23, 1), (SEQ_PROG_WORD 0, w), (PORT_MODE_MODE 23, 1)]).setCtx 23 { x with limit := 100 }

/-- Every opcode is fetched from some state; one of each group is written out as the hypothesis has it. -/
theorem witness_ProgramOperations : (List.range 16).all (fun op => let s := turn (op * 2 ^ 26) {}
    seqLive s 23 && decide (ctxState s 23 = 1) && decide (s.get (SEQ_CTX_STAT_PC 23) = 0) && inRegion s 23 0 && decide (progWord s 0 = op * 2 ^ 26)) = true := by
  decide +kernel
theorem witness_ProgramOperations_fetch : Fetches (turn (0x09 * 2 ^ 26 + 100) {}) 23 0x09 (0x09 * 2 ^ 26 + 100) 0 ∧
    inRegion (turn 0 {}) 23 100 = true ∧ inRegion (turn 0 {}) 23 101 = false := by simp only [Fetches]; decide +kernel
/-- MATCH of one byte found at offset 1 with search, and not found without. -/
theorem witness_ProgramOperations_match : findLit false [66] [65, 66] 0 = some 1 ∧ matchAt false [66] [65, 66] = false := by decide
/-- PARSE of a decimal that is found, and of none; the stage full and not full. -/
theorem witness_ProgramOperations_parse : (parseField 0 [52, 50] (turn 0 {})).1.found = true ∧ (parseField 0 [65] (turn 0 {})).1.found = false ∧
    ((turn 0 { stage := List.replicate 16 (0, 0, false) }).ctx 23).stage.length = 16 ∧ boundTo (turn 0 {}) 0 23 = false := by decide +kernel
/-- ADDR NEXT finds address 5 present, and finds none when all are wanted present and none is. -/
theorem witness_ProgramOperations_addr : let s := (turn 0 {}).set (ATT_ENT0_PRESENT (attEntry 23 5)) 1
    s.on (ATT_ENT0_PRESENT (attEntry 23 5)) = true ∧ (List.range 64).all (fun b => b == 5 || !s.on (ATT_ENT0_PRESENT (attEntry 23 b))) = true ∧
    portMode s 23 ≠ 2 ∧ (List.range 64).all (fun b => !(turn 0 {}).on (ATT_ENT0_PRESENT (attEntry 23 b))) = true := by decide +kernel
theorem witness_ProgramOperations_attend : live.on SEQ_QUEUES_ATT_EN = false ∧ live.on SEQ_QUEUES_RAW_EN = false ∧
    (liveWith [(SEQ_QUEUES_RAW_EN, 1)]).on SEQ_QUEUES_RAW_EN = true ∧ Serves .host 0x39 live ∧ 23 < nPorts live.variant ∧ nPorts live.variant ≤ 24 := by
  simp only [Serves]; decide +kernel

theorem witness_ProgramsStartWaitAndEnd : Serves .host 0x38 live ∧ 23 < nPorts live.variant ∧ bit (w32 (2 ^ 23)).toNat 23 = true ∧ live.isUp 0x38 = true ∧
    ctxState live 23 = 0 ∧ ctxState (turn 0 {}) 23 = 1 ∧ Serves .host 0x38 (turn 0 {}) := by simp only [Serves]; decide +kernel
theorem witness_ProgramsStartWaitAndEnd_line : lineBar (turn 0 {}) 23 = none ∧ lineBar ((turn 0 {}).set (PORT_MODE_MODE 23) 0) 23 = some 10 ∧
    portMode (turn 0 {}) 23 = 1 ∧ portMode ((turn 0 {}).set (PORT_MODE_MODE 23) 7) 23 = 7 ∧ ((turn 0 {}).port 23).rx = [] ∧ lineTaken (turn 0 {}) 23 = false ∧
    lineTaken ((turn 0 {}).setPort 23 { sending := true }) 23 = true ∧ csClash (turn 0 {}) = [] := by decide +kernel
theorem witness_ProgramsStartWaitAndEnd_waits : let s (op : CtxOp) (mode : Nat) := ((turn 0 { op := op }).setPort 23 { sending := true, started := true }).set (PORT_MODE_MODE 23) mode
    portLive (s .brk 1) 23 = true ∧ sdiDirect (s .brk 1) 23 = false ∧ ((s .brk 1).port 23).sending = true ∧ portTakes (s .brk 1) 23 (sendUnit (s .brk 1) 23) = true ∧ portTakes (s .brk 1) 23 (sendLead (s .brk 1) 23) = true ∧
    ((s (.send true false true) 3).ctx 23).op = .send true false true ∧ portMode (s .brk 3) 23 = 3 ∧ ((s (.wait 0) 1).ctx 23).op = .wait 0 ∧ ((s (.wait 1) 1).ctx 23).op = .wait 1 ∧
    ((s .brk 1).ctx 23).flags = {} ∧ seqLive (s (.wait 0) 1) 23 = true := by decide +kernel
theorem witness_ProgramsStartWaitAndEnd_recv :
    let r : Recv := { ends := 2, term := 0, count := 1, stamp := true, crc := false, got := 1, first := some 7, left := some 0, resp := true, met := true }
    let s := turn 0 { op := .recv r }
    (s.ctx 23).op = .recv r ∧ seqLive s 23 = true ∧ portLive s 23 = true ∧ charMode (portMode s 23) = true ∧ ({ r with met := false } : Recv).met = false := by
  decide +kernel
/-- A fetch outside the region, with a parity error, and of the first opcode that is not defined. -/
theorem witness_ProgramsStartWaitAndEnd_undefined : inRegion ((turn 0 {}).set (SEQ_CTX_STAT_PC 23) 101) 23 101 = false ∧
    inRegion (turn (0x10 * 2 ^ 26) {}) 23 0 = true ∧ 0x10 ≤ progWord (turn (0x10 * 2 ^ 26) {}) 0 / 2 ^ 26 := by decide +kernel

/-! ### Hardy -/

/-- Slot 511 enabled and attached to channel 0, MIN as its first feature, windows of `len` updates, with an update of 5 waiting in lane 0. -/
def hardyWaiting (len : Nat) (x : Slot) : State :=
  { (liveWith [(HARDYF_SLOT0_EN 511, 1), (HARDYF_SLOT12_ATTACHED 511, 1), (HARDYF_SLOT0_LEN_M1 511, len - 1), (HARDYF_SLOT2_FEAT0 511, 1)]).setSlot 511 x with
    lane0 := [{ slot := 511, chan := 0, v := 5, stamp := 9, flags := 0 }] }
/-- That update. -/
def upd : Update := { slot := 511, chan := 0, v := 5, stamp := 9, flags := 0 }

theorem witness_HardySlots_dropped : ({ live with lane1 := [upd] } : State).lane1 = upd :: [] ∧ live.busStopped = false ∧ live.on (HARDYF_SLOT0_EN 511) = false := by decide +kernel
theorem witness_HardySlots_conflict : let s := ((hardyWaiting 2 {}).set (HARDYF_SLOT12_CHANNEL 511) 7).set (SCHED_CH5_HCOUNT 7) 1 |>.set (SCHED_CH5_HSLOT 7) 511
    s.runs 0x3C = true ∧ s.on (HARDYF_SLOT0_EN 511) = true ∧ s.on (HARDYF_SLOT12_ATTACHED 511) = true ∧ s.get (HARDYF_SLOT12_CHANNEL 511) ≠ upd.chan ∧
    stillNames s (s.get (HARDYF_SLOT12_CHANNEL 511)) 511 = true := by decide +kernel
/-- An update in the middle of a window of two, and the last one of a window of one. -/
theorem witness_HardySlots_takes : Takes (hardyWaiting 2 { cur := some ({}, 9) }) upd {} 9 ∧
    ({} : SubWin).n + 1 < slotQ (hardyWaiting 2 { cur := some ({}, 9) }) 511 ∧ Takes (hardyWaiting 1 { cur := some ({}, 9) }) upd {} 9 ∧
    slotQ (hardyWaiting 1 { cur := some ({}, 9) }) 511 ≤ ({} : SubWin).n + 1 ∧ (hardyWaiting 1 {}).get (HARDYF_SLOT0_NSUB_LOG2 511) = 0 ∧
    featCode (hardyWaiting 1 {}) 511 0 = 1 ∧ (hardyWaiting 1 {}).enabled 0x3D = true := by simp only [Takes]; decide +kernel
theorem witness_HardySlots_config : Serves .c0 0x3C live ∧ live.on (HARDYF_SLOT0_EN 511) = false ∧ slotConfigOk 0x80000000 0 0 = true ∧
    slotConfigOk 0xC0000000 0 0 = false ∧ Serves .c0 0x3C (hardyWaiting 1 {}) ∧ (hardyWaiting 1 {}).on (HARDYF_SLOT0_EN 511) = true := by
  simp only [Serves]; decide +kernel

/-- Rule 4095 fires when the first result of slot 511 is above 4; its action 255 is of kind `kind`; a point of slot 511 waits. -/
def ruleReady (v kind : Nat) : State :=
  { (liveWith [(HARDYK_RULE0_EN 4095, 1), (HARDYK_RULE0_SLOT_A 4095, 511), (HARDYK_RULE1_K_A 4095, 4), (HARDYK_RULE3_ACT 4095, 255),
      (resultFld 511 0, v), (HARDYK_ACT_W0_KIND 255, kind)]).setSlot 511 { published := true } with points := [{ slot := 511, kind := .publication, te := 3 }] }
/-- That point. -/
def point : Point := { slot := 511, kind := .publication, te := 3 }

theorem witness_HardyRulesAndActions_off : ({ State.reset with points := [point] } : State).points = point :: [] ∧ State.reset.runs 0x3D = false := by
  decide +kernel
theorem witness_HardyRulesAndActions_rule : let s := ruleReady 5 1
    s.points = point :: [] ∧ s.runs 0x3D = true ∧ concernedRules { s with points := [] } point = [4095] ∧ s.get (HARDYK_RULE0_OP 4095) = 0 ∧
    s.get (HARDYK_RULE3_SMODE 4095) = 0 ∧ (s.rule 4095).lastT ≤ 3 ∧ termTrue s 4095 point (termA s 4095) = true ∧ (s.rule 4095).holdEnd ≤ 3 ∧
    fifoKind (s.get (HARDYK_ACT_W0_KIND 255)) = true ∧ s.on (HARDYK_ACT_W0_NEXT_EN 255) = false ∧ s.firings = [] ∧ s.busStopped = false ∧
    termTrue (ruleReady 4 1) 4095 point (termA (ruleReady 4 1) 4095) = false ∧ concernedRules { ruleReady 4 1 with points := [] } point = [4095] := by
  decide +kernel
theorem witness_HardyRulesAndActions_write : Serves .c0 0x3D live := by simp only [Serves]; decide +kernel
/-- Each kind of action in front. -/
theorem witness_HardyRulesAndActions_kinds : (List.range 9).all (fun k => let s : State := { ruleReady 5 k with firings := [{ rule := 4095, te := 3, slot := 511, resultA := 5, next := 255, left := 1 }] }
    decide (s.get (HARDYK_ACT_W0_KIND 255) = k) && !s.on (HARDYK_ACT_W0_NEXT_EN 255)) = true := by decide +kernel
theorem witness_HardyRulesAndActions_generator : pgLive live 15 = true ∧ pgRun live 15 = false ∧
    pgRun (liveWith [(pgBit PG_RUN_RUN 15, 1)]) 15 = true ∧ (live.pg 15).running = false := by decide +kernel
/-- A burst with POST of 1 on a queue without a mark, and 32 bursts in progress. -/
theorem witness_HardyRulesAndActions_burst : let b : Burst := ⟨0, 0, 0, 0, 1, 0, 0, 0, 0, false, false⟩
    (live.queue 511).mark.isSome = false ∧ (live.bursts.filter (fun b => !burstOver b)).length < 32 ∧ (2 ^ 16 / 2 ^ 16 % 256 : Nat) ≠ 0 ∧
    ((List.replicate 32 b).filter (fun b => !burstOver b)).length = 32 ∧ live.bursts.find? burstOver = none ∧
    [{ b with counted := 1 }].find? burstOver = some { b with counted := 1 } := by decide +kernel

/-! ### Tongs -/

/-- Queue 511 enabled, owned by C0 (which reads it), with contents `x`, C0's write port in `w`. -/
def queued (x : Queue) (w : WritePort) : State :=
  ((liveWith [(TONGSQ_Q0_EN 511, 1), (TONGSQ_Q0_OWNER 511, 0), (TONGS_RD_SEL_QUEUE 0, 511), (TONGSQ_Q1_LIMIT 511, 1)]).putQueue 511 x).setWport 0 w
/-- An open packet of C0 of two words in cell 3, and the same closed and readable. -/
def openPkt : Packet := { id := 4, lane := 0, writer := .software 0, cells := [3], words := 2 }
def donePkt : Packet := { openPkt with opened := false, readable := true }

theorem witness_QueueWrites : Serves .c0 0x40 (queued {} .idle) ∧ Serves .dbg 0x40 live := by simp only [Serves]; decide +kernel
theorem witness_QueueWrites_ports : hasPort live .c3 ∧ hasPort live .host ∧ ¬ hasPort live .dbg ∧ ¬ hasPort (liveOf .l) .c2 := by
  simp only [hasPort]; decide +kernel
theorem witness_QueueWrites_open : let s := queued {} .idle
    bit (w32 0x800501FF).toNat 31 = true ∧ (∀ j, s.wport 0 ≠ .opened j) ∧ (w32 0x800501FF).toNat % 512 = 511 ∧
    (w32 0x800501FF).toNat / 2 ^ 16 % 16 = 5 ∧ s.on (TONGSQ_Q0_EN 511) = true ∧ live.on (TONGSQ_Q0_EN 511) = false := by
  refine ⟨by decide, fun j => ?_, by decide, by decide, by decide +kernel, by decide +kernel⟩
  have h : (queued {} .idle).wport 0 = .idle := by decide +kernel
  simp [h]
theorem witness_QueueWrites_room : hasRoom 511 (queued {} .idle) = true ∧ hasRoom 511 ((queued {} .idle).set (TONGSQ_Q4_LEVEL 511) 1) = false ∧
    (queued {} .idle).on (TONGSQ_Q0_FULL_POLICY 511) = false := by decide +kernel
theorem witness_QueueWrites_words : let s := queued { pkts := [openPkt] } (.opened 511)
    s.wport 0 = .opened 511 ∧ (s.queue 511).openOf (.software 0) = some openPkt ∧ (s.queue 511).pkts = [openPkt] ∧ openPkt.offed = false ∧
    openPkt.words < 16384 ∧ openPkt.words % 16 ≠ 0 ∧ openPkt.done = false ∧ (queued {} .refused).wport 0 = .refused ∧ (queued {} .idle).wport 0 = .idle := by
  decide +kernel
theorem witness_QueueWrites_ids : distinctIds { pkts := [openPkt] } := by simp [distinctIds]

theorem witness_QueueReadsAndMarks : let s := queued { pkts := [donePkt] } .idle
    ownerOf s 511 = 0 ∧ s.get (TONGS_RD_SEL_QUEUE 0) = 511 ∧ (s.queue 511).reader = none ∧ (s.queue 511).head = some donePkt ∧
    (s.queue 511).find 4 = some donePkt ∧ donePkt.opened = false ∧ donePkt.bad = [] ∧ 2 ≤ donePkt.words ∧ ((queued { pkts := [{ donePkt with words := 1 }] } .idle).queue 511).head = some { donePkt with words := 1 } ∧ (queued {} .idle).queue 511 = {} ∧
    ((queued {} .idle).queue 511).head = none ∧ ownerOf (s.set (TONGSQ_Q0_OWNER 511) 4) 511 ≠ 0 := by decide +kernel
theorem witness_QueueReadsAndMarks_last : let s := queued { pkts := [donePkt], reader := some { id := 4, next := 1 } } .idle
    (s.queue 511).reader = some { id := 4, next := 1 } ∧ 1 + 1 = donePkt.words ∧ (s.queue 511).held donePkt = false ∧
    1 + 1 < ({ donePkt with words := 3 } : Packet).words := by decide +kernel
theorem witness_QueueReadsAndMarks_marks : ((queued { mark := some ⟨3, some 4⟩ } .idle).queue 511).mark = some ⟨3, some 4⟩ ∧
    ((queued {} .idle).queue 511).mark = none ∧ Serves .c0 0x40 (queued { mark := some ⟨3, some 4⟩ } .idle) := by simp only [Serves]; decide +kernel
theorem witness_QueueReadsAndMarks_notice : let s := liveWith [(TONGSQ_Q5_NOTICE 511, 1), (TONGSQ_Q4_PKTS 511, 255), (TONGSQ_Q3_MAX_HOLD 511, 255)]
    releasable s 511 = true ∧ s.on (TONGSQ_Q5_NOTICE 511) = true ∧ releasable (s.set (TONGSQ_Q4_PKTS 511) 0) 511 = false := by decide +kernel
theorem witness_QueueReadsAndMarks_cells : 32767 ∈ ({ live with tongs := { withdrawn := [32767] } } : State).tongs.withdrawn ∧
    32767 ∉ live.tongs.withdrawn ∧ live.on (TONGS_RETIRE_VALID 0) = false ∧ (liveWith [(TONGS_RETIRE_VALID 0, 1)]).on (TONGS_RETIRE_VALID 0) = true := by
  decide +kernel

theorem witness_ReadsThatFindNoWord : let s := queued { pkts := [openPkt], reader := some { id := 4, next := 0, cutThrough := true } } .idle
    Serves .c0 0x40 s ∧ ownerOf s 511 = 0 ∧ (s.queue 511).reader = some { id := 4, next := 0, cutThrough := true } ∧
    (s.queue 511).find 4 = some openPkt ∧ openPkt.published ≤ 0 ∧ openPkt.opened = true := by simp only [Serves]; decide +kernel

/-! ### The event controller -/

/-- Source `n` enabled at level 1 for every target. -/
def listening (n : Nat) : State := liveWith [(EVC_SRC0_LVL n, 1), (EVC_SRC0_TGT n, 31)]

theorem witness_SourcesPendAndAppend_pulse : let s := listening 63
    isPulse 63 = true ∧ s.busStopped = false ∧ sourcePresent s.variant 63 = true ∧ canPend s 63 = true ∧ targeted s 63 4 = true ∧
    s.on (pendBit 63 4) = false ∧ (s.raise (pendBit 63 4)).on (pendBit 63 4) = true ∧ canPend live 63 = false ∧ targeted live 63 4 = false := by decide +kernel
theorem witness_SourcesPendAndAppend_level : isPulse 95 = false ∧ sourcePresent live.variant 95 = true ∧ levelSensed (listening 95) 95 = true ∧
    (listening 95).busStopped = false ∧ assertedNow ((listening 95).set (EVC_SRC0_SENSE 95) 1) 95 = true ∧
    levelSensed ((listening 95).set (EVC_SRC0_SENSE 95) 1) 95 = true ∧ assertedNow (listening 95) 95 = false ∧
    ((listening 95).pair 95 0).stays = false ∧ (listening 95).on (outBit 95 0) = false := by decide +kernel
theorem witness_SourcesPendAndAppend_rearm : let s : State := { (live.setPair 639 4 { last := some 0 }).set (EVC_SRC0_REARM 639) 1 with tbf := 128 * 2 ^ 32 }
    rearmPassed s 639 4 = true ∧ rearmPassed { s with tbf := 127 * 2 ^ 32 } 639 4 = false := by decide +kernel
theorem witness_SourcesPendAndAppend_append : let s := ((listening 63).raise (pendBit 63 0)).raise (pendBit 63 4) |>.set (CORE_STAT_STATE 0) 1
    appendOpen s 0 = true ∧ winner s 0 = some 63 ∧ appendOpen s 4 = true ∧ winner s 4 = some 63 := by decide +kernel
theorem witness_SourcesPendAndAppend_wake : let s : State := { liveWith [(EVC_SRC0_WAKE 63, 1), (BELLOWS_CLK_STAT_CLKSRC, 2)] with clk := { live.clk with refPresent := false } }
    s.busStopped = true ∧ s.on (EVC_SRC0_WAKE 63) = true ∧ sourcePresent s.variant 63 = true := by decide +kernel

/-- Core 3's ring holds one record and its stack is `st`. -/
def taking (st : List (Nat × Nat)) : State := (liveWith [(EVC_RQ_IDX_COUNT 3, 1)]).putTarget 3 { stack := st }

theorem witness_TakesAndCompletions : Serves .c3 0x44 (taking []) ∧ Serves .dbg 0x44 live ∧ (taking []).get (EVC_RQ_IDX_COUNT 3) ≠ 0 ∧
    live.get (EVC_RQ_IDX_COUNT 3) = 0 ∧ 3 < cores live.variant ∧ masterIdx .c3 = 3 ∧ cores (liveOf .l).variant ≤ 2 ∧ Serves .dbg 0x44 (liveOf .l) := by
  simp only [Serves]; decide +kernel
theorem witness_TakesAndCompletions_stack : ((taking [(1, 639)]).target 3).stack = (1, 639) :: [] ∧ (taking []).on (EVC_STACK_FROZEN 3) = false ∧
    ((taking (List.replicate 15 (1, 0))).target 3).stack.length = 15 ∧ ((taking []).raise (EVC_STACK_FROZEN 3)).on (EVC_STACK_FROZEN 3) = true ∧
    presentMask live.variant (EVC_SRC0_LVL 0).addr ≠ 0 := by decide +kernel

/-! ### Glemi-32 -/

/-- In the PLL state core 3 runs at the start of the boot ROM with registers zero, but w15 = 0x08000100 and w1 = `r1`, and the given STATUS. -/
def running (st r1 : Word) : State :=
  (liveWith [(BELLOWS_CLK_STAT_CLKSRC, 0), (CORE_STAT_STATE 3, 1)]).setCore 3 { w := ((Vector.replicate 16 0).set 15 0x08000100).set 1 r1, status := st }

theorem witness_Executes : Executes 3 2 (running 1 0) ∧ (running 1 0).reg 3 15 = 0x08000100 ∧ ((running 1 0).core 3).supervisor = true := by
  simp only [Executes]; decide +kernel
/-- User code runs from its own TCM. -/
theorem witness_Executes_user : Executes 3 2 ((running 0 0).setCore 3 { (running 0 0).core 3 with pc := 0x08000000 }) ∧
    ((running 0 0).core 3).supervisor = false := by simp only [Executes]; decide +kernel
theorem witness_IntegerOperationsComplete : Executes 3 1 (running 1 32) ∧ (running 1 32).reg 3 1 = 32 := by simp only [Executes]; decide +kernel
theorem witness_MultiplyDivideComplete : Executes 3 1 (running 0x81 0) ∧ (running 0x81 0).reg 3 1 = 0 ∧ stWas (running 0x81 0) 3 7 = true ∧
    stWas (running 1 0) 3 7 = false ∧ fetchable (running 0x81 0) 3 (((running 0x81 0).core 3).vbase + 0x70).toNat = true := by
  simp only [Executes]; decide +kernel
theorem witness_MovesComplete : Executes 3 1 (running 1 0x80) := by simp only [Executes]; decide +kernel
/-- A word at the top of the own TCM, and one in the retained scratch; a page that is not READY. -/
theorem witness_LoadsAndStoresComplete : let s := running 1 0x0800FFFC
    dataAddr s 3 1 0 = 0x0800FFFC ∧ ownTcm 3 0x0800FFFC = true ∧ (busRead 3 0x0800FFFC 4 {} (fetchState 3 s)).1.resp = .ok ∧
    (busRead 3 0x0800FFFC 4 {} (fetchState 3 s)).2.steps = [] ∧
    (busRead 3 0x40008040 4 {} (fetchState 3 (s.clear (PG_STAT_READY 2)))).1.resp = .notReady ∧
    (busWrite 3 0x0800FFFC 4 7 (fetchState 3 s)).1.resp = .ok ∧ (busWrite 3 0x40008040 4 7 (fetchState 3 (s.clear (PG_STAT_READY 2)))).1.resp = .notReady ∧
    (s.reg 3 1).toNat % 4 = 0 := by decide +kernel
theorem witness_MayAccess : MayAccess 3 [(false, 0x0800FFFC), (true, 0x0800FFFC)] (running 1 0x0800FFFC) ∧
    MayAccess 3 [(true, 0x080000FC)] (running 1 0) ∧ MayAccess 3 [(false, 0x08000100)] (running 1 0) := by simp only [MayAccess]; decide +kernel
theorem witness_TransfersComplete : condTrue (running 0x40000001 0) 3 0 ∧ ¬ condTrue (running 1 0) 3 0 := by
  refine ⟨?_, ?_⟩
  · show stWas (running 0x40000001 0) 3 30 = true
    decide +kernel
  · show ¬ stWas (running 1 0) 3 30 = true
    decide +kernel
theorem witness_TransfersComplete_registers : ((running 1 4).reg 3 1).toNat % 4 = 0 ∧ ((running 1 5).reg 3 1).toNat % 4 ≠ 0 ∧
    VectorOk 3 1 (running 1 5) ∧ ((running 1 0).core 3).epc.toNat % 4 = 0 := by simp only [VectorOk]; decide +kernel
/-- The event line of core 3 high, and low. -/
theorem witness_SystemCompletes : Executes 3 1 ((running 1 0).set (EVC_RQ_IDX_COUNT 3) 1) ∧ eventLine ((running 1 0).set (EVC_RQ_IDX_COUNT 3) 1) 3 = true ∧
    eventLine (running 1 0) 3 = false ∧ ((running 1 0).core 3).haltDue = false ∧ ((running 1 0).core 3).cycleHi = none := by simp only [Executes]; decide +kernel
theorem witness_ExceptionsAreTaken : Executes 3 2 (running 1 0) ∧ VectorOk 3 8 (running 1 0) ∧ VectorOk 3 9 (running 1 0) ∧ VectorOk 3 2 (running 1 0) ∧
    VectorOk 3 3 (running 1 0) ∧ (running 1 0).on DBG_CTRL_ATTACHED = false ∧ Executes 3 1 ((running 1 0).raise DBG_CTRL_ATTACHED) ∧
    ((running 1 0).core 3).vec = none ∧ coreRuns (running 1 0) 3 = true := by simp only [Executes, VectorOk]; decide +kernel
/-- The vector of an exception is awaited outside the fetchable addresses; a fetch from the own TCM, and from that of core 0. -/
theorem witness_ExceptionsAreTaken_lockup : let at' (a v : Word) : State := (running 1 0).setCore 3 { (running 1 0).core 3 with pc := a, vbase := v, vec := some 8 }
    ¬ VectorOk 3 8 (at' 0 0x28000000) ∧ Executes 3 1 (at' 0 0x28000000) ∧ ((at' 0 0).core 3).vec = some 8 ∧
    ownTcm 3 0x0800FFFC = true ∧ Executes 3 1 (at' 0x0800FFFC 0) ∧ Executes 3 1 (at' 0x3000FFFC 0) ∧ ownTcm 3 0x3000FFFC = false := by
  simp only [Executes, VectorOk]; decide +kernel
theorem witness_ExceptionsAreTaken_event : let s := (running 0x11 0).set (EVC_RQ_IDX_COUNT 3) 1
    coreRuns s 3 = true ∧ eventDue s 3 = true ∧ fetchable s 3 ((s.core 3).vbase + w32 (16 * 10)).toNat = true := by decide +kernel
theorem witness_ExceptionsAreTaken_data : let s := (running 0 0x40000000).setCore 3 { (running 0 0x40000000).core 3 with pc := 0x08000000 }
    (s.core 3).supervisor = false ∧ userData s 3 false (dataAddr s 3 1 0) = false ∧ userData s 3 true (dataAddr s 3 1 0) = false ∧
    regionOf s.variant 3 0x8000 = .unmapped ∧ fetchable s 3 ((s.core 3).vbase + w32 (16 * 4)).toNat = true := by decide +kernel

/-- Core 3 with w11 = `cnt`, w12 and w13 at the ends of its own TCM. -/
def stringing (cnt : Word) (st : Word) : State :=
  (running st 0).setCore 3 { (running st 0).core 3 with
    w := ((((running st 0).core 3).w.set 11 cnt).set 12 0x0800FFFF).set 13 0x08000000 }

/-- Every form is one of R284's at the ends of its ranges: byte MOVS, word STS into w15, and one REP with cnt = 0 and with cnt = 1. -/
theorem witness_StringsComplete : StrOp.ok ⟨0, 0, 0⟩ = true ∧ StrOp.ok ⟨5, 2, 15⟩ = true ∧ Executes 3 1 (stringing 0 1) ∧ Executes 3 2 (stringing 1 1) ∧
    (stringing 0 1).reg 3 11 = 0 ∧ (stringing 1 1).reg 3 11 = 1 ∧ IterCmd 3 0 ⟨0, 0, 0⟩ {} {} (.movs 3 0 {}) ∧
    IterCmd 3 3 ⟨3, 0, 0⟩ {} {} (.repnz 3 ⟨3, 0, 0⟩ {} {}) := by simp only [Executes, IterCmd]; decide +kernel
theorem witness_StringsComplete_accesses : let s := stringing 1 0x02000001
    MayAccess 3 [(false, 0x0800FFFF), (true, 0x08000000)] s ∧ MayAccess 3 [(false, 0x0800FFFF), (false, 0x08000000)] s ∧
    (∀ rep, rep < 4 → (busRead 3 0x0800FFFF 1 {} (iterState 3 rep s)).1.resp = .ok ∧
      (busRead 3 0x0800FFFF 1 {} (iterState 3 rep s)).2.steps = [] ∧
      (busWrite 3 0x08000000 1 0xA5 (iterState 3 rep s)).1.resp = .ok ∧ (busWrite 3 0x08000000 1 0xA5 (iterState 3 rep s)).2.steps = []) := by
  simp only [MayAccess]; decide +kernel

theorem witness_GlemiDecodesItsEncoding : (15 : Nat) < 16 ∧ 0x3FFFF < 2 ^ 18 ∧ 0x3FFFFF < 2 ^ 22 ∧ StrOp.ok ⟨2, 1, 15⟩ = true ∧ decodeString 0 = none := by
  decide

/-! Words that spec/15 writes out, and some spelt by hand from R272. -/
theorem test_decode_add : decodeGlemi 0 0x04D14000 {} {} = some (addBody 0 3 4 5) := rfl
theorem test_decode_divs : decodeGlemi 0 0x04914C1C {} {} = some (divsBody 0 2 3 4 5) := rfl
theorem test_decode_beq : decodeGlemi 0 0x803FFFFD {} {} = some (branchBody 0 0 0x3FFFFD) := rfl
theorem test_decode_jr : decodeGlemi 0 0x88380000 {} {} = some (jrBody 0 14) := rfl
theorem test_decode_stset : decodeGlemi 0 0xA8000010 {} {} = some (stsetBody 0 0x10) := rfl
theorem test_decode_stclr : decodeGlemi 0 0xAC000010 {} {} = some (stclrBody 0 0x10) := rfl
theorem test_decode_rep_movs : decodePair 0 0xF0000001 0xE0000002 {} {} = (2, repIter 0 1 ⟨0, 2, 0⟩ {} {}) := rfl
theorem test_decode_movi : decodeGlemi 0 0x2F002000 {} {} = some (moviBody 0 12 0x2000) := rfl
theorem test_decode_movh : decodeGlemi 0 0x33001000 {} {} = some (movhBody 0 12 0x1000) := rfl
theorem test_decode_movi_count : decodeGlemi 0 0x2EC00064 {} {} = some (moviBody 0 11 100) := rfl
theorem test_decode_undefined : decodeGlemi 0 0 {} {} = none := rfl

theorem witness_CoreControlAndWatchdogs : 3 < cores live.variant ∧ Serves .host (0x48 + 3) live ∧ coreState live 3 = 0 ∧
    runState live 3 = 1 ∧ live.on (CORE_CTRL_FENCE 3) = false ∧ live.on (CORE_CTRL_RUN 3) = false ∧ coreState (running 1 0) 3 = 1 := by simp only [Serves]; decide +kernel
/-- Watchdog 3 at the end of stage 1, and of stage 2 with each action. -/
def barking (stage2 action : Nat) : State :=
  let s := liveWith [(BELLOWS_CLK_STAT_CLKSRC, 0), (CORE_STAT_STATE 3, 1), (CORE_WDOG_CFG_EN 3, 1), (CORE_WDOG_COUNT_STAGE2 3, stage2), (CORE_WDOG_CFG_ACTION 3, action)]
  { s with tbf := 131072000 * 2 ^ 32 }
theorem witness_CoreControlAndWatchdogs_expiry : wdogCounts (barking 0 0) 3 = true ∧ wdogLeft (barking 0 0) 3 = 0 ∧
    (∀ a, a < 4 → wdogCounts (barking 1 a) 3 = true ∧ wdogLeft (barking 1 a) 3 = 0 ∧ (barking 1 a).on (CORE_WDOG_COUNT_STAGE2 3) = true ∧
      (barking 1 a).get (CORE_WDOG_CFG_ACTION 3) = a) := by decide +kernel
theorem witness_HaltStepAndWait : let s := (running 1 0).set (EVC_RQ_IDX_COUNT 3) 1
    corePowered (s.set (CORE_STAT_STATE 3) 2) 3 = true ∧ eventLine (s.set (CORE_STAT_STATE 3) 2) 3 = true ∧ Serves .dbg 0x5F s ∧
    s.on DBG_CTRL_LOCKED = false ∧ (s.raise DBG_CTRL_LOCKED).on DBG_CTRL_LOCKED = true := by simp only [Serves]; decide +kernel
/-- Core 3 halted at a NOP in its own TCM. -/
def halted : State := ((running 1 0).set (CORE_STAT_STATE 3) 3).setCore 3 { (running 1 0).core 3 with pc := 0x08000000 }
theorem witness_HaltStepAndWait_step : let s := halted.store (physOf halted 3 0x08000000) 4 0xC0000000
    corePowered s 3 = true ∧ coreState s 3 = 3 ∧ fetchable s 3 (s.core 3).pc.toNat = true ∧ fetchWord s 3 (s.core 3).pc = 0xC0000000 ∧
    decodePrefix 0xC0000000 = none ∧ (nopBody 3 (fetchState 3 s)).steps = [] := by decide +kernel
theorem test_decode_nop : decodeGlemi 3 0xC0000000 {} {} = some (nopBody 3) := rfl
theorem witness_HaltStepAndWait_registers : let s := halted.set DBG_REG_SEL_CORE 3
    s.get DBG_REG_SEL_CORE = 3 ∧ coreState s 3 = 3 ∧ Serves .dbg 0x5F s ∧ coreState (running 1 0) 0 ≠ 3 ∧ (running 1 0).get DBG_REG_SEL_CORE = 0 := by
  simp only [Serves]; decide +kernel

theorem witness_MultiplyFlags : Executes 3 1 (running 1 0x80000000) ∧ (running 1 0x80000000).reg 3 1 = 0x80000000 := by simp only [Executes]; decide +kernel
theorem witness_TransferTargets : Executes 3 1 (running 1 2) ∧ (running 1 2).reg 3 1 = 2 ∧ VectorOk 3 1 (running 1 2) ∧
    ((running 1 0).core 3).supervisor = true ∧ Executes 3 1 (running 1 0x40000000) ∧ (running 1 0x40000000).reg 3 1 = 0x40000000 ∧
    fetchable (running 1 0x40000000) 3 0x40000000 = false ∧ breakpoint (running 1 0x40000000) 3 0x40000000 [1] = false := by simp only [Executes, VectorOk]; decide +kernel
theorem witness_TransferTargets_eret : let s := (running 1 0).setCore 3 { (running 1 0).core 3 with epc := 2 }
    Executes 3 1 s ∧ (s.core 3).epc.toNat % 4 ≠ 0 ∧ (s.core 3).supervisor = true ∧ VectorOk 3 1 s := by simp only [Executes, VectorOk]; decide +kernel

/-! ### The host port -/

theorem witness_HostTransfers : live.steps = [] ∧ busLive live = true ∧ busLive { live with pwr := { held := true } } = false ∧
    0x28008000 ≤ 0x2800FFC0 ∧ 0x2800FFC0 + 4 * 16 ≤ 0x28010000 ∧ 0x7FC0 + 4 * (15 + 1) ≤ 0x8000 ∧ 0x7FC0 % 4 = 0 ∧
    live.on HOST_LAST_INFO_VALID = false ∧ live.ready 0x40 = true ∧ live.ready 0x41 = true ∧ State.reset.ready 0x40 = false ∧ ownerOf (live.set (TONGSQ_Q0_OWNER 511) 0) 511 ≠ 4 ∧
    State.reset.key 0x40 4 ≠ .first := by decide +kernel
theorem witness_HostTransfers_unmapped : Unmapped live 4 0x40180000 ∧ Unmapped live 4 0x8000 := by
  simp [Unmapped, live, State.reset, cores, listedPages]
/-- The host's queue 511 with a packet of two words to read, and with room for one to write. -/
def hostQueue (x : Queue) : State := (queued x .idle).set (TONGSQ_Q0_OWNER 511) 4
theorem witness_HostTransfers_reads : let s := hostQueue { pkts := [donePkt] }
    ownerOf s 511 = 4 ∧ (s.queue 511).reader = none ∧ (s.queue 511).head = some donePkt ∧ (s.queue 511).find 4 = some donePkt ∧
    aheadWord s 511 = none ∧ (s.queue 511).place = some { id := 4, next := 0 } ∧ 0 < donePkt.published ∧
    donePkt.opened = false ∧ donePkt.bad = [] ∧ 2 ≤ donePkt.words ∧ s.ready 0x40 = true ∧ s.ready 0x41 = true ∧ busLive s = true := by decide +kernel
/-- The same with the first word in the lookahead. -/
theorem witness_HostTransfers_ahead : let s := hostQueue { pkts := [donePkt] }
    let h : Ahead := { queue := 511, pkt := 4, at' := 0, word := 8, up := .clean }
    aheadWord { s with host := { s.host with ahead := [h] } } 511 = some h ∧ h.up = .clean ∧ h.word % 2 ^ 16 ≠ 0xFFFF := by decide +kernel
/-- Bytes that are commands, with and without arguments, and one that is none. -/
theorem witness_HostTransfers_bytes : 0xFF ∈ hostBytes ∧ 0xFF ∉ hostArgBytes ∧ 0x31 ∈ hostArgBytes ∧ 0x00 ∉ hostBytes := by decide
theorem witness_HostTransfers_writes : let s := hostQueue {}
    Serves .host 0x40 s ∧ bit (w32 0x800801FF).toNat 31 = true ∧ (w32 0x800801FF).toNat % 512 = 511 ∧ (w32 0x800801FF).toNat / 2 ^ 16 % 16 = 8 ∧
    s.wport 4 = .idle ∧ s.on (TONGSQ_Q0_EN 511) = true ∧ hasRoom 511 s = true ∧ (s.queue 511).openOf (.software 4) = none ∧ (s.queue 511).pkts = [] ∧
    bit (w32 0x000801FF).toNat 31 = false := by simp only [Serves]; decide +kernel

/-- A hub on the ring holding number 63. -/
def ringed (l : List (Fld × Nat)) : State :=
  l.foldl (fun s p => s.set p.1 p.2) (liveWith [(BELLOWS_CLK_STAT_CLKSRC, 0), (RINGP_PORT_STAT_STATE 0, 5), (RINGP_PORT_STAT_STATE 1, 5),
    (RING_STAT_NUM_VALID, 1), (SYS_HUB_NUM_VALID, 1), (SYS_HUB_NUMBER, 63)])
theorem witness_HostRemoteAndSignals : (ringed []).steps = [] ∧ busLive (ringed []) = true ∧ (ringed []).host.remote = none ∧ (ringed []).variant ≠ .l ∧
    (ringed []).on RING_STAT_NUM_VALID = true ∧ (ringed []).get SYS_HUB_NUMBER = 63 ∧ live.on RING_STAT_NUM_VALID = false ∧
    (ringed []).ready 0x53 = true ∧ portUp (ringed []) 1 = true ∧ heldNumber (ringed []) 0 = false ∧ (liveOf .l).variant = .l ∧
    ({ live with host := { live.host with remote := some ⟨0, 0⟩ } } : State).host.remote ≠ none := by decide +kernel
/-- The 1,000 µs of REMOTE_CFG's reset value are over at 2,621,440 PLL cycles, and not one before. -/
theorem witness_HostRemoteAndSignals_timeout : let s (t : Nat) : State := { live with clk := { live.clk with age := t }, host := { live.host with remote := some ⟨0, 0⟩ } }
    let due (s : State) := max 1 (s.get HOST_REMOTE_CFG_TIMEOUT) * msAge ≤ (s.clk.age - 0) * 1000
    due (s 2621440) ∧ ¬ due (s 2621439) := by decide +kernel
/-- HOST_ATTN low and held, its 16 BUS cycles over, and not over. -/
theorem witness_HostRemoteAndSignals_hold : let s (t : Nat) : State := { live with clk := { live.clk with age := t }, host := { live.host with hold := true } }
    live.clksrc = 1 ∧ (s 1024).host.hold = true ∧ (s 1024).host.holdAt + 16 * 64 ≤ (s 1024).clk.age ∧ (s 1023).clk.age < (s 1023).host.holdAt + 16 * 64 ∧
    (s 1024).on HOST_ATTN_LEVEL = false ∧ (s 1024).busStopped = false := by decide +kernel
theorem witness_HostRemoteAndSignals_sleep : live.pwr.held = false ∧ live.pwr.off = false ∧ live.busStopped = false ∧ live.ready 0x50 = true ∧
    live.on HOST_ATTN_LEVEL = false ∧ ((true != live.on HOST_CFG_SLEEP_POL) ≠ live.on HOST_STAT_SLEEP ∨
      (false != live.on HOST_CFG_SLEEP_POL) ≠ live.on HOST_STAT_SLEEP) := by decide +kernel

/-! ### The ring -/

theorem test_another_uid : ∃ u, u < 2 ^ 64 ∧ u ≠ ownUid := by
  by_cases h : ownUid = 0
  · exact ⟨1, by decide, by omega⟩
  · exact ⟨0, by decide, by omega⟩
theorem test_own_uid : ownUid < 2 ^ 64 := Config.uid.isLt

/-- A port in each of its states. -/
theorem witness_RingLinks : (∀ n, n < 6 → (ringed [(RINGP_PORT_STAT_STATE 1, n)]).get (RINGP_PORT_STAT_STATE 1) = n) ∧ (ringed []).ready 0x52 = true ∧
    (ringed []).clksrc = 0 ∧ ringHere (ringed []) = true ∧ portUp (ringed []) 1 = true ∧ portUp live 1 = false ∧ ownNumber (ringed []) = some 63 := by
  decide +kernel
/-- HOLD has lasted HEAL_CFG.MS, and not. -/
theorem witness_RingLinks_heals : let s (t : Nat) : State := { ringed [(RINGP_PORT_STAT_STATE 1, 4), (RING_HEAL_CFG_MS, 0)] with clk := { live.clk with age := t } }
    ((s msAge).ringPort 1).heldAt + max 1 ((s msAge).get RING_HEAL_CFG_MS) * msAge ≤ (s msAge).clk.age ∧ (s 0).clk.age < msAge := by decide +kernel
/-- A frame of the hub come back, and the same wrapped. -/
theorem witness_RingLinks_returned : let f : Frame := { dst := 62, src := 63, seq := 0, body := .ack 0 }
    Returned (ringed []) f ∧ ¬ Returned (ringed []) { f with wraps := 1 } := by simp only [Returned]; decide +kernel
/-- A DATA frame of this hub waits for one that is forwarded. -/
theorem witness_RingLinks_order : let d : Sending := { transit := false, frame := { dst := 1, src := 0, seq := 0, body := .regReq false 0 1 0 [] } }
    let t : Sending := { transit := true, frame := d.frame }
    d.rank = 3 ∧ t.rank = 2 ∧ nextFrame [d, t] = some t ∧ linkFree (ringed []) 1 = true := by decide +kernel
theorem witness_RingLinks_forwards : let f : Frame := { dst := 62, src := 0, ttl := 1, seq := 65535, body := .ack 511 }
    ringHere (ringed []) = true ∧ portUp (ringed []) 1 = true ∧ f.dst < 64 ∧ ownNumber (ringed []) ≠ some f.dst ∧ ¬ Returned (ringed []) f ∧
    f.ttl = 1 ∧ ({ f with ttl := 128 } : Frame).ttl ≠ 1 := by simp only [Returned]; decide +kernel

/-- An ENUM frame for hub 63 and the payload of kind `k`, asking for number 62. -/
def enumOf (k uid : Nat) : Enum := { kind := k, uid := uid, want := some 62, number := 62, hopsE := 0, hopsW := 0 }
def enumFrame (k uid : Nat) : Frame := { dst := 63, src := 62, seq := 0, body := .enum (enumOf k uid) }
theorem witness_RingNumbering : (∀ k, k < 4 → Hears (ringed []) 1 (enumFrame k ownUid)) ∧ (ringed [(RING_STAT_ROLE, 1)]).get RING_STAT_ROLE = 1 := by
  have h1 : ringHere (ringed []) = true := by decide +kernel
  have h2 : portUp (ringed []) 1 = true := by decide +kernel
  have h3 : ownNumber (ringed []) = some 63 := by decide +kernel
  refine ⟨fun k _ => ⟨h1, h2, Or.inr ⟨?_, Or.inl ?_⟩⟩, by decide +kernel⟩ <;> simp [Returned, h3, enumFrame]
theorem witness_RingNumbering_joins : let s := ringed [(RING_STAT_NUM_VALID, 0), (RING_STAT_BEACON_OK, 1)]
    ringHere s = true ∧ s.on RING_STAT_NUM_VALID = false ∧ s.on RING_STAT_BEACON_OK = true ∧ s.get RING_STAT_ROLE ≠ 1 ∧ s.ring.joinAt = none ∧ s.ring.helloAt = none ∧
    (ringed []).on RING_STAT_NUM_VALID = true ∧ (ringed []).get RING_STAT_ROLE ≠ 1 := by decide +kernel
/-- The active head without AUTO and with it, its map empty and full, and with a JOIN queued. -/
theorem witness_RingNumbering_head : let s := ringed [(RING_STAT_ROLE, 1)]
    let full := ringed [(RING_STAT_ROLE, 1), (RING_MAP_LO_HELD, 0xFFFFFFFF), (RING_MAP_HI_HELD, 0xFFFFFFFF)]
    (∀ u, numberOf s u = none) ∧ heldNumber s 62 = false ∧ (∀ j, j < 64 → heldNumber full j = true) ∧
    s.on RING_HEAD_CFG_AUTO = (!(s.set RING_HEAD_CFG_AUTO (1 - s.get RING_HEAD_CFG_AUTO)).on RING_HEAD_CFG_AUTO) ∧ s.on RING_JOIN_Q_VALID = false ∧
    (s.raise RING_JOIN_Q_VALID).on RING_JOIN_Q_VALID = true ∧ s.ring.joinPort = 0 ∧ Serves .host 0x53 s := by
  refine ⟨fun u => rfl, ?_⟩
  simp only [Serves]; decide +kernel
theorem witness_RingNumbering_granted : let s := ringed [(RING_ID_WANT_VALID, 1), (RING_ID_WANT, 62)]
    s.on RING_ID_WANT_VALID = true ∧ s.get RING_ID_WANT = 62 ∧ s.on RING_STAT_NUM_VALID = true ∧ live.on RING_ID_WANT_VALID = false := by decide +kernel
/-- Number 0 held, silent for three HELLO periods, and absent for HOLD. -/
theorem witness_RingNumbering_members : let s : State := { ringed [(RING_STAT_ROLE, 1), (RING_MAP_LO_HELD, 1)] with clk := { live.clk with age := (2 ^ 16) * 1000 * msAge } }
    s.get RING_STAT_ROLE = 1 ∧ heldNumber s 0 = true ∧ ownNumber s ≠ some 0 ∧ (s.member 0).absent = none ∧ max (s.member 0).last s.ring.activeAt + 300 * msAge ≤ s.clk.age ∧
    0 + s.get RING_HEAD_CFG_HOLD * 1000 * msAge ≤ s.clk.age ∧
    ((s.setMember 0 { uid := 1, absent := some 0 }).member 0).absent = some 0 ∧ heldNumber (s.setMember 0 { uid := 1, absent := some 0 }) 0 = true ∧
    (s.setMember 0 { uid := 1 }).member 0 ≠ {} := by decide +kernel

/-- A beacon of hub 0, UID 0, with PRIO 1. -/
def beaconOf : Beacon := { origin := 0, corr := -1, hops := 63, head := 0, prio := 1, uid := 0, map := 2 ^ 64 - 1, gen := 2 ^ 32 - 1 }
theorem witness_RingTime : Hears (ringed []) 0 { dst := 0xFF, src := 0, seq := 1, body := .beacon beaconOf } ∧
    beaconOf.map < 2 ^ 64 ∧ beaconOf.gen < 2 ^ 32 ∧ beaconOf.head < 64 ∧ beaconOf.hops < 64 ∧ (ringed []).ring.head = none ∧
    ((ringed []).ringPort 1).beats = [] ∧ betterHead (2, 5) (1, 0) = true ∧ (ringed []).ring.other = none := by
  simp only [Hears, Returned]; decide +kernel
/-- The servo started with KP = 1 on RING time. -/
theorem witness_RingTime_servo : let s := ringed [(TB_DISC_CTRL_SRC, 2), (RING_STEP_THR_TICKS, 0)]
    let t : State := { s with ring := { s.ring with servo := true } }
    t.get TB_DISC_CTRL_SRC = 2 ∧ t.get RING_STAT_ROLE ≠ 1 ∧ t.get RING_STEP_THR_TICKS = 0 ∧ t.ring.servo = true ∧ t.ring.other = none := by decide +kernel
theorem witness_RingTime_roles : let s := ringed [(RING_STAT_ROLE, 1)]
    let t := ringed [(SYS_HUB_HEAD, 1), (RING_STAT_ROLE, 2)]
    s.get RING_STAT_ROLE = 1 ∧ (∀ q, q < 2 → portUp s q = true) ∧ ringHere s = true ∧ t.on SYS_HUB_HEAD = true ∧ t.get RING_STAT_ROLE ≠ 1 ∧
    s.ring.beaconMs ≠ some (s.tb / 131072) ∧ t.ring.missMs ≠ some (t.tb / 131072) ∧ t.ring.heardAt = none ∧
    (s.tb / 131072 * 2 ^ 33 + (2 ^ 33 - 1)) / 2 ^ 33 = s.tb / 131072 ∧ (s.tb / 131072 + 1) * 2 ^ 33 / 2 ^ 33 ≠ s.tb / 131072 ∧ portUp s 0 = true ∧
    3 ≤ ({ t with ring := { t.ring with misses := 3 } } : State).ring.misses ∧ ({ t with ring := { t.ring with misses := 2 } } : State).ring.misses = 2 := by
  decide +kernel
theorem witness_RingTime_pdelay : ((ringed []).ringPort 1).t1 = none ∧ ((ringed []).ringPort 1).reqAt = none ∧ ((ringed []).ringPort 1).unanswered = 0 ∧
    (((ringed []).setRingPort 1 { t1 := some 5, unanswered := 2 }).ringPort 1).unanswered = 2 ∧
    (((ringed []).setRingPort 1 { t1 := some 5, hasD := true }).ringPort 1).t1 = some 5 ∧
    (let twice : Int := ((25 : Int) - 5) - ((15 : Int) - 11) + (ringed []).getS (RINGP_ASYM_ASYM 1)
     twice % 2 = 0 ∧ twice / 2 < 2 ^ 31 ∧ (twice / 2 - (ringed []).getS (RINGP_PDELAY_D 1)).natAbs * 10 ≤ 851968) ∧
    851968 < ((85197 : Int) - (ringed []).getS (RINGP_PDELAY_D 1)).natAbs * 10 := by decide +kernel

/-- One word that starts a packet for queue 511, from hub 0. -/
def frag : DataFrag := { first := true, last := false, poison := false, ack := false, pktTrunc := false, pktPoison := false, lane := 3, queue := 511, bytes := 4, words := [7] }
def dataOf : Frame := { dst := 63, src := 0, seq := 65535, body := .data frag }
theorem witness_RingTraffic : let s := ringed [(TONGSQ_Q0_EN 511, 1), (TONGSQ_Q1_LIMIT 511, 1)]
    ownNumber s = some dataOf.dst ∧ dataOf.src ≠ dataOf.dst ∧ s.steps = [] ∧ ringHere s = true ∧ portUp s 1 = true ∧ (s.ringRx 511).opened = false ∧
    (s.ringRx 511).src = 0 ∧ (s.ringRx 511).next = none ∧ s.on (TONGSQ_Q0_EN 511) = true ∧ hasRoom 511 s = true := by decide +kernel
theorem witness_RingTraffic_receives : let s := (ringed []).setRingRx 511 { opened := true, src := 5, next := some 0, unacked := 1 }
    (s.ringRx 511).opened = true ∧ (s.ringRx 511).src ≠ dataOf.src ∧ ringHere s = true ∧ (s.ringRx 511).unacked ≠ 0 ∧ (s.ringRx 511).from' = 0 ∧
    32768 ≤ (dataOf.seq + 65536 - 0) % 65536 ∧ (s.ringRx 511).last + msAge ≤ ({ s with clk := { s.clk with age := msAge } } : State).clk.age ∧
    s.clk.age < (s.ringRx 511).last + msAge := by decide +kernel
/-- A frame that comes 32,767 past the one expected, with no packet open. -/
theorem witness_RingTraffic_gap : let s := (ringed []).setRingRx 511 { src := 0, next := some 32768 }
    (s.ringRx 511).src = dataOf.src ∧ (dataOf.seq + 65536 - 32768) % 65536 = 32767 ∧ (s.ringRx 511).opened = false := by decide +kernel
/-- Queue 511 with the last word of its packet read, to hub 62 by port E. -/
theorem witness_RingTraffic_sends : let s := ((ringed [(RING_BW_RATE, 0)]).setRingTx 511 { active := true, ended := true, route := 0x903E0000, buf := [(7, false)], lane := 2 })
    let x := (noRoute s).ringTx 511
    linkFree s 0 = true ∧ txOrder (noRoute s) 0 = [511] ∧ x = s.ringTx 511 ∧ x.active = true ∧ x.ended = true ∧ x.buf.length ≤ 256 ∧ 0 < x.buf.length ∧
    (∀ w, w ∈ x.buf → w.2 = false) ∧ s.get RING_BW_RATE = 0 ∧ bit x.route 30 = false := by decide +kernel
/-- A frame in the retry store, its timer run out, before the ninth resend and at it. -/
theorem witness_RingTraffic_retries : let k : Kept := ⟨511, 1, dataOf⟩
    let s (n : Nat) : State := { ((ringed []).setRingTx 511 { tries := n }) with clk := { live.clk with age := 1000 * msAge }, ring := { ((ringed []).setRingTx 511 { tries := n }).ring with retry := [k] } }
    (∀ n, n = 7 ∨ n = 8 → ((s n).ringTx 511).tries = n ∧ ringHere (s n) = true ∧ (s n).ring.retry.filter (fun y => y.queue == 511) ≠ [] ∧
      max 1 ((s n).get RING_RETRY_CFG_TO) * msAge ≤ ((s n).clk.age - ((s n).ringTx 511).timer) * 1000 ∧ portUp (s n) k.port = true) := by
  intro k s n h
  rcases h with rfl | rfl <;> decide +kernel
theorem witness_RingTraffic_remote : let s : State := { ringed [] with host := { live.host with remote := some ⟨9, 0⟩ } }
    s.host.remote = some ⟨9, 0⟩ ∧ s.on HOST_REMOTE_STAT_WRITE = false ∧ (List.replicate 16 0).length = 16 ∧
    [5].length = s.get HOST_REMOTE_STAT_N_M1 + 1 ∧ 0x7FC0 + 4 * 16 ≤ 0x8000 ∧ 0x2800FFC0 + 4 * 16 ≤ 0x28010000 := by decide +kernel

/-- A fragment of one word and two bytes, and a command of the host with one word of two. -/
theorem witness_WireFormats : let f : Frame := { dst := 63, src := 0, seq := 65535, body := .data { frag with first := false, bytes := 6, words := [2 ^ 32 - 1, 0xFFFF] } }
    f.ok = true ∧ Filled f ∧ (1 : Nat) ≤ 15 + 1 ∧ 0x00 ∉ hostBytes ∧ (0x31, 6) ∈ [((0x01 : Nat), (5 : Nat)), (0x31, 6)] := by
  refine ⟨by decide, fun d w h hw => ?_, by decide, by decide, by decide⟩
  cases h
  simp at hw
  subst hw
  exact Or.inr (by decide)

/-! ### Hearth and the black box -/

/-- `live` with Hearth as given. -/
def hearthed (h : Hearth) (l : List (Fld × Nat)) : State := { liveWith l with hearth := h }
theorem witness_CommitsAndTheJournal : Serves .host 0x1B live ∧ Serves .host 0x5A live ∧ Serves .host 0x58 live ∧ live.on (PG_STAT_BUSY 0x1B) = false ∧
    (liveWith [(PG_STAT_BUSY 0x1B, 1)]).on (PG_STAT_BUSY 0x1B) = true ∧ live.on HEARTH_FLAGS_NO_RESTORE = false ∧
    (liveWith [(HEARTH_FLAGS_NO_RESTORE, 1)]).on HEARTH_FLAGS_NO_RESTORE = true ∧ hearthBusy live = false ∧ live.hearth.eraseWaits = false ∧
    live.hearth.queue = [] ∧ hearthBusy (hearthed { target := some 55 } []) = true := by simp only [Serves]; decide +kernel
/-- The first commit of page 0x50 in progress, with credits and without. -/
theorem witness_CommitsAndTheJournal_done : let c : Commit := ⟨0x50, [7]⟩
    let s := hearthed { running := some c } []
    let new := recordWords 0x50 1 0 true false [(0, [7])]
    s.hearth.running = some c ∧ s.hearth.target = none ∧ s.hearth.eraseWaits = false ∧ s.get (PG_GEN_GEN 0x50) = 0 ∧
    SMap.get (fun _ => 8) s.hearth.credits 0x50 ≠ 0 ∧ journalRoom s new.length = true ∧ activeSeg s = none ∧ journalRoom s (4 * new.length) = true ∧
    SMap.get (fun _ => 8) (hearthed { running := some c, credits := [(0x50, 0)] } []).hearth.credits 0x50 = 0 ∧ oldestFull s = none := by decide +kernel
/-- Segment 0 ACTIVE with its last word free, and no segment erased beside it. -/
theorem witness_CommitsAndTheJournal_segments : let s := (hearthed { pos := 1016 } []).setMemWord 0x11000000 0xA5C37000
    activeSeg s = some 0 ∧ s.hearth.pos + (recordWords 0x50 1 0 true false [(0, [7])]).length ≤ 1024 ∧
    (let full := (List.range 56).foldl (fun t k => t.setMemWord (0x11000000 + 0x1000 * k) 0xA5C31000) (hearthed {} [])
     journalRoom full 1 = false ∧ oldestFull full = none) := by decide +kernel
/-- An unchanged page: generation 1 of page 0x50 holds the image that is committed. -/
theorem witness_CommitsAndTheJournal_unchanged :
    let img := resetImage 0x50
    let ws := recordWords 0x50 1 0 true false [(0, img)]
    let s := (List.range ws.length).foldl (fun t i => t.setMemWord (0x11000010 + 4 * i) (ws.getD i 0))
      ((hearthed { running := some ⟨0x50, img⟩, pos := 4 + ws.length } [(PG_GEN_GEN 0x50, 1)]).setMemWord 0x11000000 0xA5C37000)
    s.get (PG_GEN_GEN 0x50) ≠ 0 ∧ (rebuild ((journal s).filter (fun r => r.page == 0x50)) img ((journal s).length + 1) 1).map (fun r => r.1) = some img := by
  decide +kernel
theorem witness_CommitsAndTheJournal_compaction : live.tb / 131072000 = live.hearth.second ∧
    ({ live with tbf := 131072000 * 2 ^ 32 } : State).tb / 131072000 ≠ live.hearth.second ∧ SMap.wf (fun _ => 8) ([] : List (Nat × Nat)) = true ∧ (hearthed { target := some 55 } []).hearth.target = some 55 ∧
    (let s := (hearthed {} []).setMemWord 0x11037000 0xA5C33000
     hearthBusy s = false ∧ oldestFull s = some 55 ∧ Serves .host 0x58 s) ∧
    (live.setKey 0x58 4 .unlocked).key 0x58 4 = .unlocked ∧ Serves .host 0x58 (live.setKey 0x58 4 .unlocked) ∧ live.on HEARTH_FLAGS_ERASING = false ∧
    (liveWith [(HEARTH_FLAGS_ERASING, 1)]).on HEARTH_FLAGS_ERASING = true := by simp only [Serves]; decide +kernel
theorem witness_CommitsAndTheJournal_movable : ∀ n, n < 96 → pageGen (hearthed { target := some 55, queue := [0x50] } []) n = none := by decide +kernel

theorem witness_BlackBoxCommands : Serves .c0 0x59 live ∧ live.on BBOX_STAT_FROZEN = false ∧ (liveWith [(BBOX_STAT_FROZEN, 1)]).on BBOX_STAT_FROZEN = true ∧
    copyAllowed live = true ∧ copyAllowed { live with vaon := 1749 } = false ∧ live.bbox.erasing = false ∧
    (let s : State := { liveWith [(BBOX_STAT_COPY, 3)] with bbox := { live.bbox with erasing := true } }
     s.get BBOX_STAT_COPY = 3 ∧ s.bbox.erasing = true ∧ copyAllowed s = true ∧ s.hearth.eraseWaits = false) ∧
    (live.setKey 0x59 0 .unlocked).key 0x59 0 = .unlocked ∧ Serves .c0 0x59 (live.setKey 0x59 0 .unlocked) := by simp only [Serves]; decide +kernel

/-! ### Power states and resets -/

theorem witness_PowerStates_requests : Serves .c0 1 live ∧ wakePending live = false ∧ live.on BELLOWS_PWR_STAT_BUSY = false ∧ powerState live = 0 ∧
    live.on BELLOWS_CLK_STAT_XTAL32_OK = false ∧ (liveWith [(BELLOWS_CLK_STAT_XTAL32_OK, 1)]).on BELLOWS_CLK_STAT_XTAL32_OK = true ∧
    (liveWith [(BELLOWS_PWR_STAT_STATE, 1)]).get BELLOWS_PWR_STAT_STATE = 1 ∧ (liveWith [(BELLOWS_PWR_STAT_BUSY, 1)]).on BELLOWS_PWR_STAT_BUSY = true ∧
    (let s := liveWith [(CORE_CTRL_RUN 3, 1), (CORE_STAT_STATE 3, 1)]
     s.on (CORE_CTRL_RUN 3) = true ∧ coreState s 3 = 1) := by simp only [Serves]; decide +kernel
/-- A source held pending with WAKE set: source 625 for the host. -/
def woken (p : Pwr) : State := { (liveWith [(EVC_SRC0_WAKE 625, 1), (BELLOWS_PWR_STAT_STATE, 1)]).setSource 625 { live.source 625 with latch := some ⟨0, 1, false⟩ } with pwr := p }
theorem witness_PowerStates_transitions : ({ live with pwr := { phase := 1 } } : State).pwr.phase = 1 ∧ live.busStopped = false ∧ hearthIdle live = true ∧
    hearthIdle (hearthed { queue := [0x50] } []) = false ∧ 0 + max 1 (live.get BELLOWS_PWR_CFG_COMMIT_WAIT) * msAge ≤ 2 ^ 63 ∧
    live.hk.tempAt + 50 * msAge ≤ 131072000 ∧ live.clk.age < live.hk.tempAt + 50 * msAge ∧
    (∀ k, k < 4 → ({ live with pwr := { phase := 2, target := k } } : State).pwr.target = k) ∧ live.pwr.refBack = false ∧
    ({ liveWith [(BELLOWS_CLK_STAT_CLKSRC, 0)] with pwr := { phase := 3 } } : State).clksrc = 0 ∧ live.ready 0x5A = true ∧ live.pwr.off = false ∧
    live.pwr.held = false ∧ live.pwr.phase ≠ 2 ∧ ({ live with pwr := { phase := 2 } } : State).busStopped = false := by decide +kernel
theorem witness_PowerStates_wake : wakePending (woken {}) = true ∧ powerState (woken {}) = 1 ∧ wakePending (woken { phase := 1 }) = true := by decide +kernel

theorem witness_Resets : live.canon = true ∧ 0x5F ∈ listedPages ∧ live.pwr.off = false ∧ live.pwr.brown = false ∧ live.pwr.held = false ∧
    ({ live with pwr := { held := true } } : State).pwr.held = true ∧ Serves .c0 0 (live.setKey 0 0 .unlocked) ∧
    (live.setKey 0 0 .unlocked).key 0 0 = .unlocked ∧ Serves .c0 0x11 live ∧ Serves .c0 0x5F live := by simp only [Serves]; decide +kernel
/-- BELLOWS restores first; with the safe-mode strap low and nothing in the journal it is defaulted. -/
theorem witness_Resets_restore : let s : State := (liveWith [(BELLOWS_CLK_STAT_CLKSRC, 0)])
    let t : State := { s with boot := { todo := [0x01] } }
    restoreDue t 0x01 = true ∧ bit (t.get SYS_STRAPS_LEVEL) 0 = false ∧ pageGen t 0x01 = none := by decide +kernel
theorem witness_Resets_restored :
    let ws := recordWords 0x50 9 0 true false [(0, [7, 0, 0, 0])]
    let s := (List.range ws.length).foldl (fun t i => t.setMemWord (0x11000010 + 4 * i) (ws.getD i 0)) (live.setMemWord 0x11000000 0xA5C37000)
    (imageWords 0x50).length = 4 ∧ (pageGen s 0x50).map (fun g => g.1) = some 9 := by decide +kernel

/-! ### Repair and images -/

/-- Slices 0 and 1 active, 2 the spare, channel 0 running on slice 0. -/
def sliced (l : List (Fld × Nat)) : State :=
  l.foldl (fun s p => s.set p.1 p.2) (liveWith [(ANV_SL_STAT_ROLE 0, 0), (ANV_SL_STAT_ROLE 1, 0), (ANV_SL_STAT_ROLE 2, 1), (SCHED_CH8_STATE 0, 2),
    (SCHED_CH8_ON_SLICE 0, 0), (SCHED_AUDIT_CFG_EN, 1), (BELLOWS_PWR_STAT_STATE, 0)])
theorem witness_SliceRepair : let s := sliced []
    sliceHere s 0 = true ∧ s.get (ANV_SL_STAT_ROLE 0) = 0 ∧ s.get BELLOWS_PWR_STAT_STATE = 0 ∧ s.repair.target = none ∧ spareSlice s = some 2 ∧
    s.get (ANV_SL_STAT_ROLE 2) = 1 ∧ chActive s 0 = true ∧ s.get (SCHED_CH8_ON_SLICE 0) < 3 ∧ auditRuns s = true ∧ chState s 0 = 2 ∧ sliceUp s 0 = true ∧
    (s.chan 0).fade = none ∧ (s.chan 0).retune = none ∧ recalOf s 0 = none ∧ s.repair.drain = none ∧ chActive s 255 = false := by decide +kernel
theorem witness_SliceRepair_ends : let s : State := { sliced [(SCHED_CH8_STATE 0, 6)] with repair := { target := some 2 } }
    s.repair.target ≠ none ∧ chState s 0 = 6 ∧ (s.chan 0).former < 6 ∧ (s.chan 0).syncLater = none ∧
    ({ sliced [] with repair := { drain := some 0 } } : State).repair.drain = some 0 ∧ spareSlice (sliced []) = some 2 := by decide +kernel
/-- A fenced slice whose self-test has passed, and one whose test runs. -/
theorem witness_SliceRepair_tests : let s := (sliced [(ANV_SL_STAT_ROLE 0, 2), (ANV_SL_STAT_TEST 0, 2)]).setKey 0x18 4 .unlocked
    Serves .host 0x18 s ∧ s.key 0x18 4 = .unlocked ∧ s.get (ANV_SL_STAT_ROLE 0) = 2 ∧ s.get (ANV_SL_STAT_TEST 0) = 2 ∧
    (sliced [(ANV_SL_STAT_TEST 0, 1)]).get (ANV_SL_STAT_TEST 0) = 1 := by simp only [Serves]; decide +kernel

/-- An image of one block in bank `b`, its entry at its start, version `n`, key 0. -/
def imaged (b n : Nat) (s : State) : State :=
  ((((s.setMemWord (0x10000000 + b * 0x80000) 0x31474C4D).setMemWord (0x10000004 + b * 0x80000) n).setMemWord (0x10000008 + b * 0x80000) 16).setMemWord
    (0x1000000C + b * 0x80000) 128).setMemWord (0x10000010 + b * 0x80000) 0
theorem witness_Images : Serves .host 0x4C live ∧ live.get IMG_STAT_BUSY = 0 ∧ live.img.staged.length < 64 ∧
    64 ≤ ({ live with img := { staged := List.replicate 64 0 } } : State).img.staged.length ∧
    (let s : State := { liveWith [(IMG_STAT_BUSY, 2), (IMG_LOAD_ADDR_OFFSET, 2 ^ 17 - 1)] with img := { staged := [5] } }
     s.img.staged = 5 :: [] ∧ s.get IMG_STAT_BUSY = 2 ∧ s.memWord (0x10080000 + 4 * s.get IMG_LOAD_ADDR_OFFSET) = 0xFFFFFFFF) ∧
    (∀ b, b < 4 → (liveWith [(IMG_STAT_BUSY, b)]).get IMG_STAT_BUSY = b) := by simp only [Serves]; decide +kernel
/-- An image in the load bank has a sound header; without it the magic fails. -/
theorem witness_Images_check : let s := imaged 1 3 (liveWith [(IMG_STAT_BUSY, 3)])
    let head (i : Nat) := s.memWord (0x10080000 + 4 * i)
    head 0 = 0x31474C4D ∧ head 2 % 16 = 0 ∧ head 2 ≤ 524096 ∧ head 3 % 4 = 0 ∧ head 3 < 128 + head 2 ∧
    live.memWord 0x10080000 ≠ 0x31474C4D ∧ s.get IMG_MIN_VERSION_VERSION ≤ head 1 := by decide +kernel
/-- 32 bytes of a number, most significant first, stored at `a`. -/
def putBig (a n : Nat) (s : State) : State :=
  (List.range 8).foldl (fun s i => s.setMemWord (a + 4 * i) (leNat (beBytes 4 (n / 2 ^ (32 * (7 - i)))))) s
/-- Such an image with its reserved bytes 0, the base point of P-256 as its public key, and a signature whose r is the base point's abscissa; the key's
hash is in slot 0, sealed. -/
def signedImage (b n sig : Nat) (s : State) : State :=
  let a := 0x10000000 + b * 0x80000
  let u := (List.range 11).foldl (fun s i => s.setMemWord (a + 20 + 4 * i) 0) (imaged b n s)
  let v := putBig (a + 176) sig (putBig (a + 144) p256X (putBig (a + 96) p256Y (putBig (a + 64) p256X u)))
  let h := sha256 (imgBytes v b 64 64)
  ((List.range 8).foldl (fun s i => s.set (IMG_KEY_HASH_WORD i) (leNat ((h.drop (4 * i)).take 4))) v).set IMG_KEY_SEAL_SEALED 1
/-- The boot ROM finds a VALID image in the bank PREF. -/
theorem witness_Images_valid : let s := signedImage 0 3 108540494909204577129537795828551333971141994448831242640052775065701883939318 (liveWith [(CORE_STAT_STATE 0, 1)])
    s.get IMG_BOOT_PREF = 0 ∧ keyKnown s 0 = true ∧ bit (s.get IMG_KEY_SEAL_SEALED) (s.memWord 0x10000010 % 4) = true ∧ sigVerifies s 0 = true := by decide +kernel
theorem witness_Images_swap : let s := (liveWith [(IMG_MAP_LOAD_VALID, 1)]).setKey 0x4C 4 .unlocked
    Serves .host 0x4C s ∧ s.key 0x4C 4 = .unlocked ∧ s.on IMG_MAP_LOAD_VALID = true ∧ coreInImage s = false ∧ s.on BELLOWS_PWR_STAT_BUSY = false ∧
    s.on IMG_MAP_TRIAL = false ∧ (liveWith [(IMG_MAP_TRIAL, 1)]).on IMG_MAP_TRIAL = true ∧ trialLeft (liveWith [(IMG_MAP_TRIAL, 1)]) = 0 ∧
    (let u := (liveWith [(CORE_STAT_STATE 3, 1)]).setCore 3 { pc := 0x100FFFFC }
     coreInImage u = true) := by simp only [Serves]; decide +kernel
/-- Core 0 in the boot ROM. -/
theorem witness_Images_boot : let s := liveWith [(CORE_STAT_STATE 0, 1)]
    coreState s 0 = 1 ∧ (s.core 0).pc.toNat < 0x8000 ∧ s.ready 0x4C = true ∧ bit (s.get SYS_STRAPS_LEVEL) 1 = false ∧
    bit ((liveWith [(CORE_STAT_STATE 0, 1), (SYS_STRAPS_LEVEL, 2)]).get SYS_STRAPS_LEVEL) 1 = true := by decide +kernel

/-! ### Worked examples of the spec -/

/-- The next state of a command (these have no other outcome). -/
def after (i : Instr) (s : State) : State := match exec i s with | .next t => t | _ => s
/-- Core 3 with w1 = a and w2 = b. -/
def withTwo (a b : Word) : State := (running 1 a).setReg 3 2 b
/-- Result w3, C and V of an instruction on two operands. -/
def result (i : Instr) (a b : Word) : Word × Bool × Bool := let t := after i (withTwo a b); (t.reg 3 3, stWas t 3 29, stWas t 3 28)

/-! R275's table. -/
theorem test_lsl_32 : result (.lsl 3 3 1 2) 1 32 = (0, true, false) := by decide +kernel
theorem test_lsl_33 : result (.lsl 3 3 1 2) 1 33 = (0, false, false) := by decide +kernel
theorem test_lsr_32 : result (.lsr 3 3 1 2) 0x80000000 32 = (0, true, false) := by decide +kernel
theorem test_asr_40 : result (.asr 3 3 1 2) 0x80000000 40 = (0xFFFFFFFF, true, false) := by decide +kernel
theorem test_asr_all : result (.asr 3 3 1 2) 0x7FFFFFFF 0xFFFFFFFF = (0, false, false) := by decide +kernel
theorem test_ror_33 : result (.ror 3 3 1 2) 1 33 = (0x80000000, true, false) := by decide +kernel
theorem test_ror_32 : result (.ror 3 3 1 2) 0x12345678 32 = (0x12345678, false, false) := by decide +kernel

/-! R277's table: quotient, remainder, V and DZ. -/
def quotient (i : Instr) (a b : Word) : Word × Word × Bool × Bool :=
  let t := after i (withTwo a b); (t.reg 3 3, t.reg 3 4, stWas t 3 28, stWas t 3 27)
theorem test_divs_signs : quotient (.divs 3 3 4 1 2) 7 0xFFFFFFFE = (0xFFFFFFFD, 1, false, false) ∧
    quotient (.divs 3 3 4 1 2) 0xFFFFFFF9 2 = (0xFFFFFFFD, 0xFFFFFFFF, false, false) := by decide +kernel
theorem test_divs_overflow : quotient (.divs 3 3 4 1 2) 0x80000000 0xFFFFFFFF = (0x80000000, 0, true, false) := by decide +kernel
theorem test_divs_by_zero : quotient (.divs 3 3 4 1 2) 5 0 = (0x7FFFFFFF, 5, false, true) ∧
    quotient (.divs 3 3 4 1 2) 0xFFFFFFFB 0 = (0x80000000, 0xFFFFFFFB, false, true) := by decide +kernel
theorem test_divu_by_zero : quotient (.divu 3 3 4 1 2) 5 0 = (0xFFFFFFFF, 5, false, true) := by decide +kernel
theorem test_neg_edge : result (.neg 3 3 1) 0x80000000 0 = (0x80000000, false, true) := by decide +kernel

/-- spec/18, one beacon at hub 2: the offset, the integrator and TRIM after the first beacon. -/
theorem test_beacon_example :
    let s : State := ((ringed [(TB_DISC_CTRL_SRC, 2), (RINGP_PDELAY_D 1, 100 * 65536)]).setS RING_TSERVO_INT_INT (-307200)).setS TB_TRIM_TRIM 1200
    let t := after (.beacon 1 { dst := 0xFF, src := 0, seq := 1, body := .beacon { beaconOf with origin := 655360131072 * 65536, corr := 3719168 } }
      (655360131229 * 65536) 0) { s with ring := { s.ring with servo := true } }
    t.getS RING_OFFSET_O = 16384 ∧ t.getS RING_TSERVO_INT_INT = -290816 ∧ t.trim = 880 := by decide +kernel

/-- spec/03, the buoy hub's crystal: a window of 2^3 s that 1,048,562,894 ticks of TB pass in. -/
theorem test_crystal_example :
    let t := after .xtalMeas { liveWith [(BELLOWS_COAST_CFG_MEAS_LOG2, 3)] with tbf := 1048562894 * 2 ^ 32 }
    t.get BELLOWS_XTAL_MEAS_MEAS = 1048562894 ∧ t.getS BELLOWS_COAST_INC_FRAC = -214728704 := by decide +kernel

end Sys2Proof.Tests
end

section
/-!
PROOFS. A master's read of its port's RD_DATA word, and what it leaves where the queue has no word for it
(spec/13_tongs_queues.md, R227 to R229, R240). Settles O32.
-/
namespace Sys2Proof.Proofs
open Sys2Proof Sys2Proof.Machine Sys2Proof.Claims

/-! ### A bit of TONGS' PG_FAULT -/

@[simp] theorem sample_tongs (n : Nat) (s : State) : (sample n s).tongs = s.tongs := by rw [sample_eq]
@[simp] theorem sample_steps (n : Nat) (s : State) : (sample n s).steps = s.steps := by rw [sample_eq]

theorem tongsFault_eq (b : Nat) (s : State) : tongsFault b s = sample 511 (s.raise (PG_FAULT_bit 0x40 b)) := by rfl

@[simp] theorem tongsFault_tongs (b : Nat) (s : State) : (tongsFault b s).tongs = s.tongs := by simp [tongsFault_eq, State.raise]
@[simp] theorem tongsFault_steps (b : Nat) (s : State) : (tongsFault b s).steps = s.steps := by simp [tongsFault_eq, State.raise]

/-! ### Where RD_DATA of a software port stands -/

/-- The masters with a software port are those of numbers 0 to 4. -/
theorem masterIdx_lt_of_hasPort {s : State} {m : Master} (h : hasPort s m) : masterIdx m < 5 := by
  rcases h with h | rfl
  · have hc : cores s.variant ≤ 4 := by cases s.variant <;> decide
    omega
  · decide

theorem addr_rdData (k : Nat) : (TONGS_RD_DATA_WORD k).addr = 0x40100104 + k * 0x20 := by rfl

theorem pageOf_rdData {k : Nat} (h : k < 5) : pageOf (TONGS_RD_DATA_WORD k).addr = 0x40 := by
  rw [addr_rdData, pageOf]
  omega

theorem offset_rdData {k : Nat} (h : k < 5) : ((TONGS_RD_DATA_WORD k).addr - 0x40000000) % 0x4000 = 0x104 + k * 0x20 := by
  rw [addr_rdData]
  omega

theorem inPages_rdData {k : Nat} (h : k < 5) : inPages (TONGS_RD_DATA_WORD k).addr = true := by
  rw [addr_rdData, inPages, decide_eq_true_eq]
  omega

theorem regionOf_rdData (v : Variant) (m : Nat) {k : Nat} (h : k < 5) : regionOf v m (TONGS_RD_DATA_WORD k).addr = .page := by
  have hv : nCores v ≤ 4 := by cases v <;> decide
  have hl : pageListed 0x40 = true := by decide
  have hp := inPages_rdData h
  have hq := pageOf_rdData h
  rw [addr_rdData] at *
  unfold regionOf
  simp (disch := omega) only [if_neg, hp, hq, hl, if_true]

theorem headerWord_rdData {k : Nat} (h : k < 5) : headerWord (TONGS_RD_DATA_WORD k).addr = false := by
  rw [headerWord, offset_rdData h, Bool.and_eq_false_iff, decide_eq_false_iff_not]
  omega

theorem rowAt_rdData_isNone {k : Nat} (h : k < 5) : (rowAt (TONGS_RD_DATA_WORD k).addr).isNone = false := by
  match k, h with
  | 0, _ | 1, _ | 2, _ | 3, _ | 4, _ => rfl

theorem isUtil_rdData {k : Nat} (h : k < 5) : isUtil (TONGS_RD_DATA_WORD k).addr = false := by
  simp [isUtil, pageOf_rdData h]

/-! ### The access (R26, R240) -/

/-- A direct read of a port's RD_DATA by its own master is a read of the queue that RD_SEL names. -/
theorem regRead_rdData {k : Nat} (h : k < 5) (x : Sense) (s : State) :
    regRead k (TONGS_RD_DATA_WORD k).addr x s = portTake k (portRead k x.up s) := by
  have hi : (0x104 + k * 0x20 - 0x100) / 0x20 = k := by omega
  have hw : (0x104 + k * 0x20) % 0x20 = 4 := by omega
  have hr : 0x100 ≤ 0x104 + k * 0x20 ∧ 0x104 + k * 0x20 < 0x1A0 := by omega
  simp [regRead, rowAt_rdData_isNone h, isUtil_rdData h, pageOf_rdData h, offset_rdData h, hi, hw, hr]

/-- A direct view of a word at or above 0x040 of a page that serves the master: the read of that register. -/
theorem pageRead_of_serves {m : Master} {p a : Nat} {s : State} (h : Serves m p s) (hp : pageOf a = p)
    (hv : (a - 0x40000000) % 0x4000 / 0x1000 = 0) (hh : headerWord a = false) (x : Sense) :
    pageRead (masterIdx m) a x s = answer .ok (regRead (masterIdx m) a x s).1 (regRead (masterIdx m) a x s).2 := by
  obtain ⟨-, hpresent, hready, hkey, -⟩ := h
  simp [pageRead, hv, hp, hh, hpresent, hready, hkey, keyAccess]

theorem busRead_rdData {m : Master} {s : State} (h : Serves m 0x40 s) (hm : hasPort s m) (x : Sense) :
    busRead (masterIdx m) (TONGS_RD_DATA_WORD (masterIdx m)).addr 4 x s =
      answer .ok (portTake (masterIdx m) (portRead (masterIdx m) x.up s)).1 (portTake (masterIdx m) (portRead (masterIdx m) x.up s)).2 := by
  have hk := masterIdx_lt_of_hasPort hm
  have ha : (TONGS_RD_DATA_WORD (masterIdx m)).addr % 4 = 0 := by rw [addr_rdData]; omega
  have hv : ((TONGS_RD_DATA_WORD (masterIdx m)).addr - 0x40000000) % 0x4000 / 0x1000 = 0 := by rw [offset_rdData hk]; omega
  simp [busRead, regionOf_rdData _ _ hk, ha, pageRead_of_serves h (pageOf_rdData hk) hv (headerWord_rdData hk), regRead_rdData hk]

theorem get_set_rdTag (k v : Nat) (s : State) : (s.set (TONGS_RD_TAG_TAG k) v).get (TONGS_RD_TAG_TAG k) = v % 2 ^ 8 :=
  s.get_set_self (TONGS_RD_TAG_TAG k) v (by simp [TONGS_RD_TAG_TAG])

theorem reply_setReply (m : Master) (r : Reply) (s : State) : reply m (s.setReply (masterIdx m) r) = r := SMap.get_put_self ..

/-- `RD_DATA` of a master whose port reads `o` and leaves `u`, where `o` ends no record of the event controller: its word is the
reply, its tag stands in RD_TAG. -/
theorem exec_rdData {m : Master} {s u : State} {o : ReadOut} {x : Upset} (h : Serves m 0x40 s) (hm : hasPort s m)
    (hr : readAs (masterIdx m) (s.get (TONGS_RD_SEL_QUEUE (masterIdx m))) x s = (o, u)) (ho : o.evc = none) (hs : u.steps = []) :
    ∃ t, exec (.rdData m x) s = .next t ∧ reply m t = { resp := .ok, data := w32 o.word } ∧
      t.get (TONGS_RD_TAG_TAG (masterIdx m)) = o.tag % 2 ^ 8 ∧ t.tongs = u.tongs := by
  have hb := busRead_rdData h hm { up := x }
  obtain ⟨hlive, -⟩ := h
  have he : exec (.rdData m x) s =
      done s ((u.set (TONGS_RD_TAG_TAG (masterIdx m)) o.tag).setReply (masterIdx m) { resp := .ok, data := w32 o.word }) := by
    show execRdData m x s = _
    simp [execRdData, accRead, hlive, hb, portRead, hr, portTake, ho, answer, settle, settleWith, hs]
  exact ⟨_, he, reply_setReply .., get_set_rdTag .., rfl⟩

/-! ### Reads that find no word (R227 to R229) -/

/-- A read of a queue by a master that does not own it raises NOT_OWNER and delivers nothing. -/
theorem readAs_of_not_owner {s : State} {k q : Nat} (h : ownerOf s q ≠ k) (x : Upset) : readAs k q x s = ({}, tongsFault 2 s) := by
  simp [readAs, h]

/-- The owner's read where its queue has no readable packet. -/
theorem readAs_of_no_packet {s : State} {k q : Nat} (h : ownerOf s q = k) (hr : (s.queue q).reader = none) (hh : (s.queue q).head = none)
    (x : Upset) : readAs k q x s = ({}, s) := by
  simp [readAs, h, readWord, Queue.place, hr, hh]

/-- The owner's read meets WAIT: no word is published at the reader's place, and the packet, if it was read as OPEN, has not ended there. -/
theorem readAs_of_wait {s : State} {k q : Nat} {r : Reader} {p : Packet} (h : ownerOf s q = k) (hr : (s.queue q).reader = some r)
    (hp : (s.queue q).find r.id = some p) (hw : p.published ≤ r.next) (ho : r.cutThrough = true → p.opened = true ∨ r.next < p.words)
    (x : Upset) : readAs k q x s = ({ tag := 2 }, s) := by
  have hend : (r.cutThrough && !p.opened && decide (p.words ≤ r.next)) = false := by
    cases hc : r.cutThrough with
    | false => rfl
    | true => rcases ho hc with hopen | hmore <;> simp [*]
  simp [readAs, h, readWord, Queue.place, hr, hp, hend, hw]

/-- `RD_DATA` answers data 0 with VALID = 0 and WAIT as `waits` says, and the reader of queue `q` stands where it stood. -/
def FindsNoWord (m : Master) (x : Upset) (q : Nat) (waits : Bool) (s : State) : Prop :=
  ∃ t, exec (.rdData m x) s = .next t ∧ reply m t = { resp := .ok, data := 0 } ∧
    bit (t.get (TONGS_RD_TAG_TAG (masterIdx m))) 7 = false ∧ bit (t.get (TONGS_RD_TAG_TAG (masterIdx m))) 1 = waits ∧
    (t.queue q).reader = (s.queue q).reader

/-- A port read that takes nothing from the queues, with a tag of WAIT alone or of nothing, finds no word. -/
theorem findsNoWord_of_readAs {m : Master} {s u : State} {x : Upset} {waits : Bool} (h : Serves m 0x40 s) (hm : hasPort s m)
    (hr : readAs (masterIdx m) (s.get (TONGS_RD_SEL_QUEUE (masterIdx m))) x s = ({ tag := 2 * b2n waits }, u))
    (hs : u.steps = s.steps) (ht : u.tongs = s.tongs) (q : Nat) : FindsNoWord m x q waits s := by
  have ⟨_, _, _, _, hsteps⟩ := h
  obtain ⟨t, ht', hreply, htag, htongs⟩ := exec_rdData h hm hr rfl (hs.trans hsteps)
  refine ⟨t, ht', hreply, ?_, ?_, ?_⟩
  · rw [htag]
    cases waits <;> rfl
  · rw [htag]
    cases waits <;> rfl
  · simp [State.queue, htongs, ht]

/-- Settles O32: each of the three reads leaves the queues alone and gives a tag without VALID, with WAIT in the last only. -/
theorem readsThatFindNoWord : Obligations.ReadsThatFindNoWord := by
  rintro s m _ x r p hserves hport - rfl
  have finds (waits : Bool) {u : State} := findsNoWord_of_readAs (u := u) (x := x.up) (waits := waits) hserves hport
  refine ⟨fun hown => ?notOwner, fun hown hr hh => ?noPacket, fun hown hr hp hw ho => ?wait⟩
  case notOwner => exact finds false (readAs_of_not_owner hown x.up) (tongsFault_steps 2 s) (tongsFault_tongs 2 s) _
  case noPacket => exact finds false (readAs_of_no_packet hown hr hh x.up) rfl rfl _
  case wait => exact finds true (readAs_of_wait hown hr hp hw ho x.up) rfl rfl _

end Sys2Proof.Proofs
end

section
/-!
PROOFS. What a Glemi-32 instruction of one word leaves on a core that executes it: the flags of the multiplications and the targets of
the transfers through a register (spec/16_glemi_instruction_set.md, R276, R282; entry to an exception: spec/15, R263, R264).
Settles O46 and O47.
-/
namespace Sys2Proof.Proofs
open Sys2Proof Sys2Proof.Machine Sys2Proof.Claims

/-! ### The state in which an instruction acts -/

@[simp] theorem fetchable_setCore (s : State) (n : Nat) (x : Core) (k a : Nat) : fetchable (s.setCore n x) k a = fetchable s k a := by rfl
@[simp] theorem fetchable_fetchState (s : State) (n k a : Nat) : fetchable (fetchState n s) k a = fetchable s k a := by rfl
@[simp] theorem core_fetchState (s : State) (n : Nat) : (fetchState n s).core n = { s.core n with vec := none } := State.core_setCore ..
theorem core_fetchState_ne (s : State) {n k : Nat} (h : k ≠ n) : (fetchState n s).core k = s.core k := State.core_setCore_ne s _ h
@[simp] theorem reg_fetchState (s : State) (n r : Nat) : (fetchState n s).reg n r = s.reg n r := by simp [State.reg]
@[simp] theorem stWas_fetchState (s : State) (n b : Nat) : stWas (fetchState n s) n b = stWas s n b := by simp [stWas]

/-- `t` is `s` but for the cores and the draws that an open value takes. -/
def OnlyCores (s t : State) : Prop := t = { s with cores := t.cores, draws := t.draws }

theorem onlyCores_setCore_fetchState (s : State) (n : Nat) (x : Core) : OnlyCores s ((fetchState n s).setCore n x) := by rfl

/-- The addresses of the `k` words of the instruction at PC. -/
def wordsAt (n k : Nat) (s : State) : List Word := (List.range k).map (fun i => (s.core n).pc + w32 (4 * i))

theorem clear_of_mem_wordsAt {n k : Nat} {s : State} (h : Executes n k s) {a : Word} (ha : a ∈ wordsAt n k s) :
    fetchable s n a.toNat = true ∧ breakpoint s n a.toNat [1] = false ∧ ((s.core n).supervisor = true ∨ userFetch n a.toNat = true) := by
  obtain ⟨-, -, -, hwords⟩ := h
  obtain ⟨i, hi, rfl⟩ := List.mem_map.mp ha
  exact hwords i (List.mem_range.mp hi)

/-- The words of the instruction pass the breakpoints, the map and the mode, in this order. -/
theorem fetching_of_executes {n k : Nat} {s : State} (h : Executes n k s) (f : State → State) : fetching true n k f s = f s := by
  have hbreak : (wordsAt n k s).any (fun a => breakpoint s n a.toNat [1]) = false :=
    List.any_eq_false.mpr fun a ha => by simp [(clear_of_mem_wordsAt h ha).2.1]
  have hmap : (wordsAt n k s).find? (fun a => !fetchable s n a.toNat) = none :=
    List.find?_eq_none.mpr fun a ha => by simp [(clear_of_mem_wordsAt h ha).1]
  have hmode : (if (s.core n).supervisor then none else (wordsAt n k s).find? (fun a => !userFetch n a.toNat)) = none := by
    cases hsup : (s.core n).supervisor with
    | true => rfl
    | false => exact List.find?_eq_none.mpr fun a ha => by simp [(clear_of_mem_wordsAt h ha).2.2.resolve_left (by simp [hsup])]
  simp only [wordsAt] at hbreak hmap hmode
  simp only [fetching, hbreak, hmap, hmode, Bool.and_false, Bool.false_eq_true, if_false]

theorem instr_of_executes {n k : Nat} {s : State} (h : Executes n k s) (f : State → State) : instr n k f s = f (fetchState n s) := by
  have ⟨hruns, hevent, _⟩ := h
  have hfetched : fetched true n k f s = f (fetchState n s) := fetching_of_executes h _
  simp [instr, hruns, hevent, hfetched]

/-- The command `i` is the one-word instruction of core `n` that does `f` once it has been fetched. -/
def Performs (i : Instr) (n : Nat) (f : State → State) : Prop := ∀ s, exec i s = done s (settle (instr n 1 f s))

theorem performs_mul (n rd ra rb : Nat) : Performs (.mul n rd ra rb) n (mulBody n rd ra rb) := by intro s; rfl
theorem performs_mulhs (n rd ra rb : Nat) : Performs (.mulhs n rd ra rb) n (mulhsBody n rd ra rb) := by intro s; rfl
theorem performs_mulhu (n rd ra rb : Nat) : Performs (.mulhu n rd ra rb) n (mulhuBody n rd ra rb) := by intro s; rfl
theorem performs_jr (n ra : Nat) : Performs (.jr n ra) n (jrBody n ra) := by intro s; rfl
theorem performs_callr (n ra : Nat) : Performs (.callr n ra) n (callrBody n ra) := by intro s; rfl
theorem performs_eret (n : Nat) : Performs (.eret n) n (eretBody n) := by intro s; rfl

/-- What a core that executes an instruction leaves, where that reaches the cores only: no step of DBG.STEP follows. -/
theorem exec_of_performs {i : Instr} {n : Nat} {f : State → State} {s t : State} (hi : Performs i n f) (h : Executes n 1 s)
    (hf : f (fetchState n s) = t) (ht : OnlyCores s t) : exec i s = .next t := by
  have ⟨_, _, hnone, _⟩ := h
  have hsteps : t.steps = [] := by
    rw [ht]
    exact hnone
  have hsettle : settle t = t := by simp [settle, settleWith, hsteps]
  rw [hi s, instr_of_executes h f, hf, hsettle]
  exact congrArg Host.Outcome.next (ht ▸ rfl)

/-! ### STATUS bits (R273) -/

theorem getLsbD_setFlag {b i : Nat} (st : Word) (v : Bool) (hi : i < 32) :
    (setFlag st b v).getLsbD i = if i = b then v else st.getLsbD i := by
  have hbit : ((1 : Word) <<< b).getLsbD i = decide (i = b) := by
    have hpow : (1 : Word) <<< b = BitVec.twoPow 32 b := (BitVec.twoPow_eq 32 b).symm
    rw [hpow, BitVec.getLsbD_twoPow, ← Bool.decide_and, decide_eq_decide]
    omega
  cases v with
  | true =>
    rw [setFlag, if_pos rfl, BitVec.getLsbD_or, hbit]
    by_cases h : i = b <;> simp [h]
  | false =>
    rw [setFlag, if_neg Bool.false_ne_true, BitVec.getLsbD_and, BitVec.getLsbD_not, hbit]
    by_cases h : i = b <;> simp [h, hi]

/-- NZ leaves every bit but N and Z. -/
theorem getLsbD_setNZ_of_lt {i : Nat} (st r : Word) (hi : i < 30) : (setNZ st r).getLsbD i = st.getLsbD i := by
  rw [setNZ, getLsbD_setFlag _ _ (by omega), getLsbD_setFlag _ _ (by omega), if_neg (by omega), if_neg (by omega)]

/-! ### Multiplication (R276) -/

/-- No product of two words overflows 64 bits. -/
theorem toInt_signExtend_mul (a b : Word) : (a.signExtend 64 * b.signExtend 64).toInt = a.toInt * b.toInt := by
  have ha : (a.signExtend 64).toInt = a.toInt := BitVec.toInt_signExtend_of_le (by omega)
  have hb : (b.signExtend 64).toInt = b.toInt := BitVec.toInt_signExtend_of_le (by omega)
  have hle : a.toInt * b.toInt ≤ 2 ^ 62 := BitVec.toInt_mul_toInt_le
  have hge : -2 ^ 62 ≤ a.toInt * b.toInt := BitVec.le_toInt_mul_toInt
  rw [BitVec.toInt_mul, ha, hb]
  exact Int.bmod_eq_of_le (by omega) (by omega)

theorem setWidth_signExtend_mul (a b : Word) : (a.signExtend 64 * b.signExtend 64).setWidth 32 = a * b := by
  have hlow (x : Word) : (x.signExtend 64).setWidth 32 = x := by
    ext i hi
    have hi' : i < 64 := by omega
    simp [BitVec.getElem_signExtend, hi, hi']
  rw [BitVec.setWidth_mul _ _ (by omega), hlow, hlow]

/-- The test of V in `mulFlags`, on numbers, is R276's on 64-bit words. -/
theorem toInt_mul_ne_iff (a b : Word) : a.toInt * b.toInt ≠ (a * b).toInt ↔
    a.signExtend 64 * b.signExtend 64 ≠ ((a.signExtend 64 * b.signExtend 64).setWidth 32).signExtend 64 := by
  rw [setWidth_signExtend_mul, ne_eq, ne_eq, ← BitVec.toInt_inj, toInt_signExtend_mul, BitVec.toInt_signExtend_of_le (by omega)]

theorem stWas_aluTo (n rd b : Nat) (r : Word × Word) (s : State) : stWas (aluTo n rd r s) n b = r.2.getLsbD b := by
  simp [stWas, aluTo, Core.next]

/-- A multiplication with the flags NZ of its result leaves C and V. -/
theorem exec_keeps_carry_overflow {i : Instr} {n rd : Nat} {f : State → State} {s : State} {r : Word} (hi : Performs i n f) (h : Executes n 1 s)
    (hf : f (fetchState n s) = aluTo n rd (logicFlags r ((fetchState n s).status n)) (fetchState n s)) :
    ∃ t, exec i s = .next t ∧ stWas t n 28 = stWas s n 28 ∧ stWas t n 29 = stWas s n 29 := by
  have hkeeps {b : Nat} (hb : b < 30) : stWas (f (fetchState n s)) n b = stWas s n b := by
    rw [hf, stWas_aluTo, logicFlags, getLsbD_setNZ_of_lt _ _ hb]
    exact stWas_fetchState s n b
  exact ⟨_, exec_of_performs hi h rfl (hf ▸ onlyCores_setCore_fetchState ..), hkeeps (by omega), hkeeps (by omega)⟩

/-- Settles O46: V of MUL is the last flag written; NZ, the flags of MULHS and MULHU, leave C and V. -/
theorem multiplyFlags : Obligations.MultiplyFlags := by
  intro s n rd ra rb h _ _ _ product
  refine ⟨⟨_, exec_of_performs (performs_mul n rd ra rb) h rfl (onlyCores_setCore_fetchState ..), ?v, ?c⟩,
    exec_keeps_carry_overflow (performs_mulhs n rd ra rb) h rfl, exec_keeps_carry_overflow (performs_mulhu n rd ra rb) h rfl⟩
  case v =>
    rw [mulBody, stWas_aluTo, mulFlags, getLsbD_setFlag _ _ (by omega), if_pos rfl, reg_fetchState, reg_fetchState, decide_eq_decide]
    exact toInt_mul_ne_iff ..
  case c =>
    rw [mulBody, stWas_aluTo, mulFlags, getLsbD_setFlag _ _ (by omega), if_neg (by omega), getLsbD_setNZ_of_lt _ _ (by omega)]
    exact stWas_fetchState s n 29

/-! ### Entry to an exception (R263, R264) -/

/-- The core on entry to exception `code` with EPC and EADDR, whose vector can be fetched. -/
def entered (code : Nat) (epc ea : Word) (x : Core) : Core :=
  { x with
    epc := epc, estatus := x.status, ecause := w32 code, eaddr := ea, pc := x.vbase + w32 (16 * code), vec := some code
    status := setFlag (setFlag (setFlag x.status 0 true) 4 false) 24 false }

theorem getLsbD_status_entered {b : Nat} (code : Nat) (epc ea : Word) (x : Core) (hb : b < 32) :
    (entered code epc ea x).status.getLsbD b = if b = 0 then true else if b = 4 ∨ b = 24 then false else x.status.getLsbD b := by
  simp only [entered, getLsbD_setFlag _ _ hb]
  grind

theorem takeException_of_vectorOk {n code : Nat} {s : State} (h : VectorOk n code s) (epc ea : Word) :
    takeException n code epc (some ea) s = s.setCore n (entered code epc ea (s.core n)) := by
  simp only [takeException, Nat.mul_comm code 16, fetchable_setCore]
  exact if_pos h

theorem traps_takeException {n code : Nat} {s : State} (h : VectorOk n code s) (epc ea : Word) :
    Traps n code epc (some ea) s (takeException n code epc (some ea) s) := by
  rw [takeException_of_vectorOk h]
  refine ⟨rfl, fun m hm => State.core_setCore_ne s _ hm, fun b hb => ?status, ?core, ?eaddr⟩
  case status =>
    rw [State.core_setCore]
    exact getLsbD_status_entered _ _ _ _ hb
  case core => simp [entered]
  case eaddr => simp [entered]

/-- The fetch of the instruction that raises an exception does not show: entry leaves another vector to fetch. -/
theorem traps_of_fetchState {n code : Nat} {epc : Word} {addr : Option Word} {s t : State} (h : Traps n code epc addr (fetchState n s) t) :
    Traps n code epc addr s t := by
  obtain ⟨hrest, hothers, hstatus, hcore, headdr⟩ := h
  refine ⟨hrest, fun m hm => (hothers m hm).trans (core_fetchState_ne s hm), fun b hb => ?status, ?core, headdr⟩
  case status => rw [hstatus b hb, stWas_fetchState]
  case core => simpa using hcore

theorem vectorOk_fetchState {n code : Nat} {s : State} (h : VectorOk n code s) : VectorOk n code (fetchState n s) := by
  simpa [VectorOk] using h

/-- A one-word instruction that raises an exception with EADDR `ea`: the registers stay. -/
theorem exec_trap {i : Instr} {n code : Nat} {f : State → State} {ea : Word} {s : State} (hi : Performs i n f) (h : Executes n 1 s)
    (hf : f (fetchState n s) = trap n code (some ea) (fetchState n s)) (hv : VectorOk n code s) :
    ∃ t, exec i s = .next t ∧ Traps n code (s.core n).pc (some ea) s t ∧ (t.core n).w = (s.core n).w := by
  have hpc : ((fetchState n s).core n).pc = (s.core n).pc := by simp
  have htraps : Traps n code (s.core n).pc (some ea) s (f (fetchState n s)) := by
    rw [hf, trap, hpc]
    exact traps_of_fetchState (traps_takeException (vectorOk_fetchState hv) ..)
  have ⟨hrest, _, _, hcore, _⟩ := htraps
  exact ⟨_, exec_of_performs hi h rfl hrest, htraps, (congrArg Core.w hcore).trans rfl⟩

/-! ### Transfers through a register (R282) -/

/-- The core that a transfer takes to its target, with lr written where `link` says. -/
def arrived (link : Bool) (target : Word) (x : Core) : Core := { if link then x.setReg 14 (x.pc + 4) else x with pc := target }

theorem goTo_eq (n : Nat) (link : Bool) (target : Word) (s : State) :
    goTo n link target s = s.setCore n (arrived link target (s.core n)) := by rfl

theorem arrived_vec (link : Bool) (target : Word) (x : Core) : (arrived link target x).vec = x.vec := by cases link <;> rfl

theorem arrived_lr (link : Bool) (target : Word) (s : State) (n : Nat) :
    (arrived link target ((fetchState n s).core n)).w[14] = if link then nextPc s n else s.reg n 14 := by
  cases link <;> simp [arrived, Core.setReg, nextPc, State.reg]

theorem goReg_of_misaligned {target : Word} (h : target.toNat % 4 ≠ 0) (n : Nat) (link : Bool) (s : State) :
    goReg n link target s = trap n 1 (some target) s := if_pos h

theorem goReg_of_aligned {target : Word} (h : target.toNat % 4 = 0) (n : Nat) (link : Bool) (s : State) :
    goReg n link target s = s.setCore n (arrived link target (s.core n)) := by
  rw [← goTo_eq]
  exact if_neg (fun hne => hne h)

theorem eretBody_of_misaligned {n : Nat} {s : State} (h : (s.core n).epc.toNat % 4 ≠ 0) :
    eretBody n s = trap n 1 (some (s.core n).epc) s := if_pos h

theorem eretBody_of_supervisor {n : Nat} {s : State} (h : (s.core n).epc.toNat % 4 = 0) (hs : (s.core n).supervisor = true) :
    eretBody n s = returnException n s := by
  rw [eretBody, if_neg (fun hne => hne h), supervisorOnly, if_pos hs]

/-- A core that runs meets FETCH_ERROR at a PC outside the fetchable addresses, no vector being awaited there. -/
theorem exec_fetchError_of_unfetchable {n : Nat} {s : State} (hruns : coreRuns s n = true) (hevent : eventDue s n = false)
    (hbreak : breakpoint s n (s.core n).pc.toNat [1] = false) (hfetch : fetchable s n (s.core n).pc.toNat = false)
    (hvec : (s.core n).vec = none) (hv : VectorOk n 1 s) :
    ∃ t, exec (.fetchError n {}) s = .next t ∧ Traps n 1 (s.core n).pc (some (s.core n).pc) s t := by
  have hw : (s.core n).pc + w32 0 = (s.core n).pc := BitVec.add_zero _
  have hfails : fetchFails true n {} s = takeException n 1 (s.core n).pc (some (s.core n).pc) s := by
    simp [fetchFails, fetching, List.range_succ, hw, hbreak, hfetch, fetchError, hvec]
  have htraps := traps_takeException hv (s.core n).pc (s.core n).pc
  have ⟨hrest, _⟩ := htraps
  refine ⟨_, ?_, htraps⟩
  show execFetchError n {} s = _
  rw [execFetchError, hruns, hevent, hfails]
  exact congrArg Host.Outcome.next (by rw [hrest]; rfl)

/-- A one-word instruction that takes core `n` to a target where nothing can be fetched: it completes, and the fetch there fails. -/
theorem exec_then_fetchError {i : Instr} {n : Nat} {f : State → State} {x : Core} {target lr : Word} {s : State} (hi : Performs i n f)
    (h : Executes n 1 s) (hf : f (fetchState n s) = (fetchState n s).setCore n x) (hvec : x.vec = none) (hpc : x.pc = target)
    (hlr : x.w[14] = lr) (hfetch : fetchable s n target.toNat = false) :
    ∃ u, exec i s = .next u ∧ (u.core n).pc = target ∧ u.reg n 14 = lr ∧
      (eventDue u n = false → breakpoint u n target.toNat [1] = false → VectorOk n 1 u →
        ∃ t, exec (.fetchError n {}) u = .next t ∧ Traps n 1 target (some target) u t) := by
  subst hpc
  have hcore : ((fetchState n s).setCore n x).core n = x := State.core_setCore ..
  have ⟨hruns, _⟩ := h
  refine ⟨_, exec_of_performs hi h hf (onlyCores_setCore_fetchState ..), congrArg Core.pc hcore, ?reg, fun hevent hbreak hv => ?fetch⟩
  case reg => simp [State.reg, hlr]
  case fetch =>
    have hfails := exec_fetchError_of_unfetchable (s := (fetchState n s).setCore n x) hruns hevent
    rw [hcore] at hfails
    exact hfails hbreak hfetch hvec hv

/-- Settles O47: a target that is not aligned traps at the transfer, before the mode of ERET is asked; an aligned one is reached. -/
theorem transferTargets : Obligations.TransferTargets := by
  intro s n ra target h hra jr callr eret pc Faults Completes
  refine ⟨fun hmis hv => ⟨?jumpFaults, ?eretFaults⟩, fun hal hfetch => ⟨?jumpCompletes, ?eretCompletes⟩⟩
  case jumpFaults =>
    rintro rfl
    have hgo (link : Bool) := goReg_of_misaligned hmis n link (fetchState n s)
    exact ⟨exec_trap (performs_jr n ra) h (by rw [jrBody, reg_fetchState, hgo]) hv,
      exec_trap (performs_callr n ra) h (by rw [callrBody, reg_fetchState, hgo]) hv⟩
  case eretFaults =>
    rintro rfl
    have hepc : ((fetchState n s).core n).epc = (s.core n).epc := by simp
    exact exec_trap (performs_eret n) h (hepc ▸ eretBody_of_misaligned (hepc ▸ hmis)) hv
  case jumpCompletes =>
    rintro rfl
    have hgo (link : Bool) := goReg_of_aligned hal n link (fetchState n s)
    have hvec (link : Bool) : (arrived link (s.reg n ra) ((fetchState n s).core n)).vec = none := by simp [arrived_vec]
    exact ⟨exec_then_fetchError (performs_jr n ra) h (by rw [jrBody, reg_fetchState, hgo]) (hvec false) rfl (arrived_lr false ..) hfetch,
      exec_then_fetchError (performs_callr n ra) h (by rw [callrBody, reg_fetchState, hgo]) (hvec true) rfl (arrived_lr true ..) hfetch⟩
  case eretCompletes =>
    rintro hsup rfl
    have heret : eretBody n (fetchState n s) = returnException n (fetchState n s) :=
      eretBody_of_supervisor (by rwa [core_fetchState]) (by rwa [core_fetchState])
    exact exec_then_fetchError (performs_eret n) h heret rfl (by simp) (by simp [State.reg]) hfetch

end Sys2Proof.Proofs
end
